-- ==== Sys2Proof/Word.lean ====
section
/-! DEFINITION. The word types of the model, device-time arithmetic and tables of fixed length. -/

namespace Sys2Proof

/-- One byte of a frame. -/
abbrev Byte := BitVec 8

/-- Device time: a 32-bit count of milliseconds (R4). -/
abbrev Time := BitVec 32

/-- The moment `ms` milliseconds after `t`, modulo 2^32 (R4). -/
def Time.plus (t : Time) (ms : Nat) : Time := t + BitVec.ofNat 32 ms

/-- The milliseconds from `past` to `now`, taken modulo 2^32 (R4). -/
def Time.since (now past : Time) : Nat := (now - past).toNat

/-- A car, 0..47: car number less one. -/
abbrev CarId := Fin 48
/-- A generator set, 0..3: set number less one. -/
abbrev SetId := Fin 4
/-- A plant line, 0..7: line number less one. -/
abbrev LineId := Fin 8
/-- A bank, 0..7: bank number less one. -/
abbrev BankId := Fin 8
/-- An indication line, 0..1: line number less one. -/
abbrev IndId := Fin 2

/-- A table with one value for each of `n` numbered things. -/
abbrev Table (α : Type) (n : Nat) := Vector α n

/-- The values of `f` in ascending order, by recursion on the length. -/
def listOf {α : Type} : (n : Nat) → (Fin n → α) → List α
  | 0, _ => []
  | n + 1, f => f 0 :: listOf n (fun i => f i.succ)

theorem listOf_length {α : Type} : ∀ (n : Nat) (f : Fin n → α), (listOf n f).length = n
  | 0, _ => rfl
  | n + 1, f => by simp [listOf, listOf_length n]

/-- The table that holds `f i` for each `i`. -/
def Table.tabulate {α : Type} {n : Nat} (f : Fin n → α) : Table α n :=
  ⟨(listOf n f).toArray, by simp [listOf_length]⟩

/-- The value a table holds for `i`. -/
def Table.at {α : Type} {n : Nat} (t : Table α n) (i : Fin n) : α := t[i.val]

/-- The table with the value for `i` replaced. -/
def Table.put {α : Type} {n : Nat} (t : Table α n) (i : Fin n) (a : α) : Table α n := t.set i.val a

/-- The table with the value for `i` changed by `f`. -/
def Table.alter {α : Type} {n : Nat} (t : Table α n) (i : Fin n) (f : α → α) : Table α n :=
  Table.put t i (f (Table.at t i))

/-- The same value for every index. -/
def Table.const {α : Type} (n : Nat) (a : α) : Table α n := Table.tabulate (fun _ => a)

/-- Every value changed by `f`, which is told the index. -/
def Table.mapAll {α β : Type} {n : Nat} (t : Table α n) (f : Fin n → α → β) : Table β n :=
  Table.tabulate (fun i => f i (Table.at t i))

/-- Every index below `n`, ascending. -/
def indices (n : Nat) : List (Fin n) := listOf n id

end Sys2Proof
end

