-- ==== Sys2Proof/Syntax/Names.lean ====
section
/-! DEFINITION. The names of the manual: levels, states, kinds, causes and codes. -/

namespace Sys2Proof

/-- Polarity of a plant line (R2). -/
inductive Polarity where
  | activeHigh | activeLow
deriving DecidableEq, Repr

/-- Source of a plant line's qualified level (R2). -/
inductive LineSource where
  | wired | message
deriving DecidableEq, Repr

/-- Electrical level of a pin (R5, R178). -/
inductive PinLevel where
  | high | low
deriving DecidableEq, Repr

/-- Logical level of a plant line (R1). -/
inductive Level where
  | active | inactive
deriving DecidableEq, Repr

/-- Status of a generator set (Table 2-1). -/
inductive SetStatus where
  | offline | accepting | online
deriving DecidableEq, Repr

/-- The seven plan states (Table 7-1). -/
inductive PlanState where
  | halted | watching | outage | settling | returning | service | restoring
deriving DecidableEq, Repr

/-- The thirteen car states (Table 3-3). -/
inductive CarState where
  | absent | idle | queued | staged | starting | running | stopping | parked | serving | deferred | held | failed
  | silent
deriving DecidableEq, Repr

/-- Motion of a car (Table 4-2). -/
inductive Motion where
  | stopped | accelerating | atSpeed | decelerating
deriving DecidableEq, Repr

/-- Door of a car (Table 4-2). -/
inductive Door where
  | closed | opening | opened | closing
deriving DecidableEq, Repr

/-- Authority under which a car moves (Table 3-2). -/
inductive Authority where
  | sequencer | localFire | localInspection | localIndependent | outOfOrder
deriving DecidableEq, Repr

/-- Link status of a car (Table 3-2). -/
inductive LinkStatus where
  | inContact | silent
deriving DecidableEq, Repr

/-- Reason for a car being FAILED (Table 3-2). -/
inductive FailReason where
  | attempts | silent
deriving DecidableEq, Repr

/-- The two car links. -/
inductive Link where
  | a | b
deriving DecidableEq, Repr

/-- Command kinds of the car link: Table 4-1 without POLL. -/
inductive CmdKind where
  | hold | runTo | stopNext | park | serve | handBack
deriving DecidableEq, Repr

/-- Request kinds of the car link (Table 4-1), as a reply echoes them. -/
inductive LinkKind where
  | poll | command (k : CmdKind)
deriving DecidableEq, Repr

/-- Reason of a DECLINED verdict (R56). -/
inductive DeclineReason where
  | doors | safetyChain | authority | notPowered | badTarget
deriving DecidableEq, Repr

/-- Verdict in a car-link reply (R56). -/
inductive Verdict where
  | none | accepted | declined (reason : DeclineReason)
deriving DecidableEq, Repr

/-- Cause in a CAR-STATE report (R38). -/
inductive CarCause where
  | contact | evaluation | grant | step | stop | shed | deadline | adoption | authority | holdOut | readmit | park
  | service | silence | resumption | silentExpiry | plan | declined | status
deriving DecidableEq, Repr

/-- Kind of a permit entry (Table 6-1). -/
inductive EntryKind where
  | returning | service | standing | adopted
deriving DecidableEq, Repr

/-- Phase of a permit entry (Table 6-1). -/
inductive Phase where
  | start | run | stop | holding | fixed
deriving DecidableEq, Repr

/-- Stop cause of an entry in STOP phase (Table 6-1). -/
inductive StopCause where
  | shed | deadline | holdOut | authority | plan | count | adoption
deriving DecidableEq, Repr

/-- Reason for refusing an admission request (R93). -/
inductive AdmitRefusal where
  | duplicate | unsettled | overcommit | draw | regen
deriving DecidableEq, Repr

/-- Which overcommit flag a SHED-EXHAUSTED report is for (R103). -/
inductive Shortfall where
  | draw | regen
deriving DecidableEq, Repr

/-- Cause of an ACCOUNT-ALERT from the Power Account (R103). -/
inductive AlertCause where
  | drawOvercommit | drawRecovered | regenOvercommit | regenRecovered | shedExhausted (flag : Shortfall)
deriving DecidableEq, Repr

/-- Trigger kinds of the history capture (Table 6-4). -/
inductive Trigger where
  | setTrip | drawOvercommit | host
deriving DecidableEq, Repr

/-- Capture mode (Table 6-2). -/
inductive CaptureMode where
  | once | repeated
deriving DecidableEq, Repr

/-- State of a capture record outside IDLE (Table 6-4). -/
inductive CaptureState where
  | collecting | complete | stale
deriving DecidableEq, Repr

/-- Return mode (Table 8-2). -/
inductive ReturnMode where
  | paced | grouped
deriving DecidableEq, Repr

/-- Release source (Table 8-2). -/
inductive ReleaseSource where
  | host | timer
deriving DecidableEq, Repr

/-- Census status (R112). -/
inductive Census where
  | none | inProgress | complete
deriving DecidableEq, Repr

/-- Cause in a PLAN-STATE report (R114). -/
inductive PlanCause where
  | arm | halt | utilityLost | utilityReturned | setAvailable | setsLost | ready | retransfer | retransferCancelled
  | recovered | carsStopped | restoreTimeout
deriving DecidableEq, Repr

/-- Origin of an outage record (R129). -/
inductive OutageOrigin where
  | utilityLoss | arm
deriving DecidableEq, Repr

/-- Confirmation status of a service record (R155). -/
inductive Confirmation where
  | awaiting | confirmed
deriving DecidableEq, Repr

/-- Reason of a set-aside marker (R159, R160). -/
inductive AsideReason where
  | declined | dropped
deriving DecidableEq, Repr

/-- Indication sources (Table 10-5). -/
inductive IndSource where
  | inReturn | allRecovered | overcommit | shedding | prealarm | anyFailed | halted | supplyDip | storeFault | direct
deriving DecidableEq, Repr

/-- Result codes of a reply (Table 10-2). -/
inductive ResultCode where
  | ok | unknownKind | badLength | outOfRange | wrongState | notEnrolled | busy | notReady
deriving DecidableEq, Repr

/-- The host requests (Table 10-3). -/
inductive ReqKind where
  | identify | setLimits | setCar | dropCar | setGenset | setLine | setIndicator | arm | halt | savePlan | restart
  | trimSet | setServiceCount | holdOut | readmit | releaseGroup | lineReport | capture | captureRelease | queryPlan
  | queryCar | queryAccount | queryQueue | queryLines | readHistory | ackFlags
deriving DecidableEq, Repr

/-- Status of the stored image (R180). -/
inductive ImageStatus where
  | valid | invalid | blank
deriving DecidableEq, Repr

/-- Kind of a reset (R180). -/
inductive ResetKind where
  | powerOn | external | restart
deriving DecidableEq, Repr

/-- Result of the load at a reset (R180). -/
inductive LoadResult where
  | loaded | blank | invalid | kept
deriving DecidableEq, Repr

/-- Cause of a STORE-DONE report with result FAULT (R182). -/
inductive StoreFaultCause where
  | verify | supplyDip
deriving DecidableEq, Repr

/-- Fault codes of the commission check with their subjects (Table 7-2). Cars and banks are named by number. -/
inductive CommissionFault where
  | noCars
  | dropConflict (car lower : Nat)
  | rangesBad (car : Nat)
  | recallNotLanding (car : Nat)
  | bankOverfull (bank : Nat)
  | rankDuplicate (car lower : Nat)
  | noSets
  | groupSlots (groupSize startSlots : Nat)
  | carTooLarge (car draw full : Nat)
deriving DecidableEq, Repr

/-- Which of a drop and a declaration of silence that one missed exchange brings is taken first (R160). -/
inductive DropOrder where
  | dropFirst | silenceFirst
deriving DecidableEq, Repr

end Sys2Proof
end

