-- ==== Sys2Proof/Syntax/Setup.lean ====
section
/-! DEFINITION. The configuration (limits, car profiles, sets, lines, indicators) and the stored plan image. -/

namespace Sys2Proof

/-- The plan's limits, as SET-LIMITS writes them whole (R170). Durations in ms, power in pu. -/
structure Limits where
  /-- Capacity settings (Table 2-2). -/
  reserve : Nat
  derate : Nat
  settle : Nat
  bankRating : Nat
  baseLoad : Nat
  /-- Link settings (Table 4-3). -/
  pollInterval : Nat
  silenceThreshold : Nat
  silentHold : Nat
  /-- History settings (Table 6-2). -/
  samplePeriod : Nat
  onTrip : Bool
  onDraw : Bool
  onHost : Bool
  pre : Nat
  post : Nat
  freeze : Bool
  captureMode : CaptureMode
  /-- Return settings (Table 8-2). -/
  returnMode : ReturnMode
  startSlots : Nat
  spacing : Nat
  lookahead : Nat
  passLimit : Nat
  groupSize : Nat
  stepLimit : Nat
  releaseSource : ReleaseSource
  attempts : Nat
  margin : Nat
  /-- Restore timeout (R126). -/
  restoreTimeout : Nat
  /-- Configured designation count of each bank (R153). -/
  counts : Table Nat 8
  /-- Configured port rate (R166). -/
  rate : Nat
deriving DecidableEq, Repr

/-- A landing range, lowest and highest floor (Table 3-1). -/
structure FloorRange where
  low : Nat
  high : Nat
deriving DecidableEq, Repr

/-- A car profile (Table 3-1). Durations in ms. -/
structure CarProfile where
  enrolled : Bool
  link : Link
  drop : Nat
  bank : Nat
  ranges : List FloorRange
  recallFloor : Nat
  power : Nat
  balance : Nat
  loss : Nat
  inrush : Nat
  regenCapable : Bool
  efficiency : Nat
  startWindow : Nat
  floorTime : Nat
  doorTime : Nat
  returnClass : Nat
  occupiedAt : Nat
  rank : Nat
deriving DecidableEq, Repr

/-- Configuration of one generator set (Table 2-1). -/
structure SetSettings where
  enabled : Bool
  allocation : Nat
deriving DecidableEq, Repr

/-- Settings of one plant line (R2). The period is in ms. -/
structure LineSettings where
  polarity : Polarity
  period : Nat
  source : LineSource
deriving DecidableEq, Repr

/-- Settings of one indication line (R177); `direct` is true for ON. -/
structure IndSettings where
  source : IndSource
  invert : Bool
  direct : Bool
deriving DecidableEq, Repr

/-- The working configuration (R179, R180); the last two fields may be absent. -/
structure Setup where
  limits : Limits
  profiles : Table CarProfile 48
  sets : Table SetSettings 4
  lines : Table LineSettings 8
  inds : Table IndSettings 2
  autostart : Option Bool
  planId : Option (BitVec 32)
deriving DecidableEq, Repr

/-- A plan image that has been written, wholly or in part (R179). -/
structure PlanImage where
  /-- The header: format marker, format version, and the length of the contents in bytes. -/
  marker : Nat
  version : Nat
  length : Nat
  /-- The header and the contents as the bytes that stand in the store; the manual gives no layout (log 26). -/
  bytes : List Byte
  /-- The check word; `none` while it is cleared or not written (R182). -/
  check : Option (BitVec 32)
  /-- The configuration that the contents spell; its plan id and autostart flag are present. -/
  contents : Setup
deriving DecidableEq, Repr

/-- What the nonvolatile store holds (R179). -/
inductive StoredImage where
  | neverWritten
  | written (image : PlanImage)
deriving DecidableEq, Repr

/-- What a save that a reset abandons leaves in the store (R182). -/
inductive SaveCut where
  /-- The reset came before the check word was written. -/
  | beforeCheckWord
  /-- The reset came during the read-back, and the new image stands; `flawed` is the bytes of its header and contents where the store
  has not taken them as they were written (log 26). -/
  | duringReadBack (flawed : Option (List Byte))
deriving DecidableEq, Repr

end Sys2Proof
end

