-- ==== Sys2Proof/Syntax/Forms.lean ====
section
/-! DEFINITION. The operands of commands: host request bodies and car-link replies. -/

namespace Sys2Proof

/-- A request body whose format has contents: the named contents, or a body of a length the format does not allow
(R168; the spec names contents and gives no byte layout, log 9). -/
inductive Body (α : Type) where
  | fields (a : α)
  | badLength
deriving DecidableEq, Repr

/-- SET-GENSET (R16). `enabled` is `none` for a value other than yes or no. -/
structure GensetForm where
  set : Nat
  enabled : Option Bool
  allocation : Nat
deriving DecidableEq, Repr

/-- SET-LINE (R2). `none` stands for a value other than those listed. -/
structure LineForm where
  line : Nat
  polarity : Option Polarity
  period : Nat
  source : Option LineSource
deriving DecidableEq, Repr

/-- SET-CAR (R32): the car number and every field of Table 3-1. -/
structure CarForm where
  car : Nat
  enrolled : Option Bool
  link : Option Link
  drop : Nat
  bank : Nat
  ranges : List FloorRange
  recallFloor : Nat
  power : Nat
  balance : Nat
  loss : Nat
  inrush : Nat
  regenCapable : Option Bool
  efficiency : Nat
  startWindow : Nat
  floorTime : Nat
  doorTime : Nat
  returnClass : Nat
  occupiedAt : Nat
  rank : Nat
deriving DecidableEq, Repr

/-- SET-LIMITS (R170): every limit setting. -/
structure LimitsForm where
  reserve : Nat
  derate : Nat
  settle : Nat
  bankRating : Nat
  baseLoad : Nat
  pollInterval : Nat
  silenceThreshold : Nat
  silentHold : Nat
  samplePeriod : Nat
  onTrip : Option Bool
  onDraw : Option Bool
  onHost : Option Bool
  pre : Nat
  post : Nat
  freeze : Option Bool
  captureMode : Option CaptureMode
  returnMode : Option ReturnMode
  startSlots : Nat
  spacing : Nat
  lookahead : Nat
  passLimit : Nat
  groupSize : Nat
  stepLimit : Nat
  releaseSource : Option ReleaseSource
  attempts : Nat
  margin : Nat
  restoreTimeout : Nat
  counts : Table Nat 8
  rate : Nat
deriving DecidableEq, Repr

/-- SET-INDICATOR, part FULL (R177). -/
structure IndFullForm where
  line : Nat
  source : Option IndSource
  invert : Option Bool
  direct : Option Bool
deriving DecidableEq, Repr

/-- The body of SET-INDICATOR as the FULL row takes it: part FULL, or a part that is neither FULL nor VALUE (R177). -/
inductive IndPart where
  | full (form : IndFullForm)
  | unlisted
deriving DecidableEq, Repr

/-- SET-INDICATOR, part VALUE (R177). -/
structure IndValueForm where
  line : Nat
  direct : Option Bool
deriving DecidableEq, Repr

/-- TRIM-SET (R28): the trim value is one byte. -/
structure TrimForm where
  set : Nat
  trim : Byte
deriving DecidableEq, Repr

/-- SET-SERVICE-COUNT (R154). -/
structure CountForm where
  bank : Nat
  count : Nat
deriving DecidableEq, Repr

/-- One item of LINE-REPORT (R10). -/
structure ReportItem where
  line : Nat
  level : Option Level
deriving DecidableEq, Repr

/-- The body of QUERY-ACCOUNT as the SUMMARY row takes it: part SUMMARY, or a part that is neither SUMMARY nor ENTRIES
(R104). -/
inductive AccountPart where
  | summary
  | unlisted
deriving DecidableEq, Repr

/-- READ-HISTORY (R110). -/
structure HistoryForm where
  offset : Nat
  count : Nat
deriving DecidableEq, Repr

/-- A car-link reply as received (R56): the drop address, the echoed kind, the verdict, the six bytes of the status record
(Table 4-2) and the CRC field. -/
structure CarReply where
  /-- The drop address byte. -/
  drop : Byte
  /-- The bytes that carry the kind and the verdict; the manual gives no code values for them (log 9). -/
  kindCode : Byte
  verdictCode : Byte
  kind : LinkKind
  verdict : Verdict
  floor : Byte
  bits : Byte
  load : Byte
  authority : Byte
  fault : Byte
  tag : Byte
  /-- The CRC-16 field. -/
  crc : BitVec 16
deriving DecidableEq, Repr

/-- What the message port's receiver delivers: a byte, or a framing error (R166, R167). -/
inductive RxItem where
  | byte (b : Byte)
  | framingError
deriving DecidableEq, Repr

end Sys2Proof
end

