-- ==== Sys2Proof/Syntax.lean ====
section
/-! DEFINITION. The commands of the BV4830: one constructor for each row of the table of operations and events. -/

namespace Sys2Proof

/-- The commands. A host request carries its tag and body; a request without contents carries the bytes of its body, which
must be none (R168). -/
inductive Instr where
  | powerOnReset (cut : SaveCut)
  | externalReset (cut : SaveCut)
  | supplyDip
  | saveEnd (readBack : PlanImage)
  | lineSample (line : LineId) (pin : PinLevel)
  | settleExpiry
  | carReply (link : Link) (reply : CarReply)
  | carReplyInvalid (link : Link) (reply : CarReply)
  | missedExchange (link : Link) (order : DropOrder)
  | silentHoldExpiry (car : CarId)
  | startWindowExpiry (car : CarId)
  | historySample
  | deadlineExpiry (car : CarId)
  | spacingExpiry
  | restoreTimeout
  | frameGapTimeout
  | frameDiscarded (rx : List RxItem)
  | unknownKind (kind tag : Byte) (body : List Byte)
  | transmitEnd
  | restartTaken
  | identify (tag : Byte) (body : List Byte)
  | setLimits (tag : Byte) (body : Body LimitsForm)
  | setCar (tag : Byte) (body : Body CarForm)
  | dropCar (tag : Byte) (body : Body Nat)
  | setGenset (tag : Byte) (body : Body GensetForm)
  | setLine (tag : Byte) (body : Body LineForm)
  | setIndicatorFull (tag : Byte) (body : Body IndPart)
  | setIndicatorValue (tag : Byte) (body : Body IndValueForm)
  | arm (tag : Byte) (body : List Byte)
  | halt (tag : Byte) (body : List Byte)
  | savePlan (tag : Byte) (body : List Byte)
  | restart (tag : Byte) (body : List Byte)
  | trimSet (tag : Byte) (body : Body TrimForm)
  | setServiceCount (tag : Byte) (body : Body CountForm)
  | holdOut (tag : Byte) (body : Body Nat)
  | readmit (tag : Byte) (body : Body Nat)
  | releaseGroup (tag : Byte) (body : List Byte)
  | lineReport (tag : Byte) (body : Body (List ReportItem))
  | capture (tag : Byte) (body : List Byte)
  | captureRelease (tag : Byte) (body : List Byte)
  | queryPlan (tag : Byte) (body : List Byte)
  | queryCar (tag : Byte) (body : Body Nat)
  | queryAccountSummary (tag : Byte) (body : Body AccountPart)
  | queryAccountEntries (tag : Byte) (body : Body Nat)
  | queryQueue (tag : Byte) (body : Body Nat)
  | queryLines (tag : Byte) (body : List Byte)
  | readHistory (tag : Byte) (body : Body HistoryForm)
  | ackFlags (tag : Byte) (body : List Byte)
  | transmitStart
deriving DecidableEq, Repr

end Sys2Proof
end

