-- ==== Sys2Proof/Machine/Kinds.lean ====
section
/-! DEFINITION. Kind values of requests and reports, and result code values (Tables 10-2, 10-3, 10-4). -/

namespace Sys2Proof.Machine

/-- The kind value of a request (Table 10-3). -/
def requestCode : ReqKind → Byte
  | .identify => 0x01
  | .setLimits => 0x10
  | .setCar => 0x11
  | .dropCar => 0x12
  | .setGenset => 0x13
  | .setLine => 0x14
  | .setIndicator => 0x15
  | .arm => 0x20
  | .halt => 0x21
  | .savePlan => 0x22
  | .restart => 0x23
  | .trimSet => 0x30
  | .setServiceCount => 0x31
  | .holdOut => 0x32
  | .readmit => 0x33
  | .releaseGroup => 0x34
  | .lineReport => 0x35
  | .capture => 0x36
  | .captureRelease => 0x37
  | .queryPlan => 0x40
  | .queryCar => 0x41
  | .queryAccount => 0x42
  | .queryQueue => 0x43
  | .queryLines => 0x44
  | .readHistory => 0x45
  | .ackFlags => 0x50

/-- The kind values that name a request (Table 10-3). -/
def requestCodes : List Byte :=
  [0x01, 0x10, 0x11, 0x12, 0x13, 0x14, 0x15, 0x20, 0x21, 0x22, 0x23, 0x30, 0x31, 0x32, 0x33, 0x34, 0x35, 0x36, 0x37, 0x40,
    0x41, 0x42, 0x43, 0x44, 0x45, 0x50]

/-- The value of a result code (Table 10-2). -/
def resultValue : ResultCode → Byte
  | .ok => 0
  | .unknownKind => 1
  | .badLength => 2
  | .outOfRange => 3
  | .wrongState => 4
  | .notEnrolled => 5
  | .busy => 6
  | .notReady => 7

end Sys2Proof.Machine
end

