-- ==== Sys2Proof/Machine/Records.lean ====
section
/-! DEFINITION. The records the blocks keep (Table 0-1), and the frames the part sends, as plain data. -/

namespace Sys2Proof.Machine

/-! ## Line Qualifier (01) -/

/-- Runtime state of one plant line (R1, R5 to R11). -/
structure LineState where
  /-- The qualified level; `none` while UNQUALIFIED (R1). -/
  qualified : Option Level
  /-- The pending sample (R6, R7). -/
  held : Option Level
  /-- The raw level of the last sample (R5). -/
  raw : Option PinLevel
  /-- Last-change time (R8). -/
  lastChange : Option Time
  /-- Last report time (R11). -/
  lastReport : Option Time
  /-- Change count, 0..255 (R8). -/
  count : Nat
  /-- Expiry of the sample timer (R5). -/
  nextSample : Time
deriving DecidableEq, Repr

/-! ## Capacity Unit (02) -/

/-- Runtime state of one generator set (Table 2-1). -/
structure SetRun where
  trim : Nat
  status : SetStatus
deriving DecidableEq, Repr

/-- State of the Capacity Unit. -/
structure Capacity where
  sets : Table SetRun 4
  /-- The settle timer: `none` when stopped, else its expiry (R19). -/
  settle : Option Time
  /-- Capacity C, pu (R24). -/
  c : Nat
  /-- Sink S, pu (R26). -/
  sink : Nat
deriving DecidableEq, Repr

/-! ## Car Table (03) -/

/-- The car record (Table 3-2). `load` is `none` for UNKNOWN; every other `none` is absent. -/
structure CarRecord where
  state : CarState
  floor : Option Nat
  between : Option Bool
  motion : Option Motion
  door : Option Door
  load : Option Nat
  authority : Option Authority
  faultCode : Option Byte
  linkStatus : LinkStatus
  attempts : Nat
  holdOut : Bool
  occupied : Bool
  /-- PARK outstanding (R40, R41). -/
  parkOut : Bool
  failure : Option FailReason
  lastStatus : Option Time
deriving DecidableEq, Repr

/-- The car status record of a reply, its fields read out (Table 4-2). -/
structure CarStatus where
  floor : Nat
  between : Bool
  atSpeed : Bool
  fault : Option Byte
  motion : Motion
  door : Door
  /-- `none` when load unknown is set. -/
  load : Option Nat
  authority : Authority
deriving DecidableEq, Repr

/-! ## Car Link Controller (04) -/

/-- A command for a car, waiting in its slot or in flight (R58, R60). -/
structure Command where
  kind : CmdKind
  /-- The target floor, for RUN-TO alone (R55). -/
  target : Option Nat
  tag : Byte
  slotTime : Time
  tries : Nat
  /-- The permit number of the entry it was slotted for, for RUN-TO and SERVE (R57). -/
  permit : Option Nat
deriving DecidableEq, Repr

/-- The request of an exchange in flight: a POLL or a command (R54). -/
inductive Request where
  | poll
  | command (cmd : Command)
deriving DecidableEq, Repr

/-- An exchange in flight (R54). -/
structure Exchange where
  car : CarId
  request : Request
deriving DecidableEq, Repr

/-- Per link: the exchange in flight and the count of consecutive URGENT exchanges (R54, R65). -/
structure LinkLine where
  exchange : Option Exchange
  urgentRun : Nat
deriving DecidableEq, Repr

/-- Per car: slot, tag counter, last exchange end, missed count, silent hold timer (R55, R58, R63, R66, R70). -/
structure CarLink where
  slot : Option Command
  nextTag : Byte
  lastEnd : Time
  missed : Nat
  silentHold : Option Time
deriving DecidableEq, Repr

/-- State of the Car Link Controller. -/
structure LinkCtl where
  a : LinkLine
  b : LinkLine
  cars : Table CarLink 48
deriving DecidableEq, Repr

/-! ## Power Account (06) -/

/-- The start window of a RETURN entry in START phase (Table 6-1). -/
structure StartWindow where
  expiry : Time
  lapsed : Bool
deriving DecidableEq, Repr

/-- A permit entry (Table 6-1). -/
structure Entry where
  permit : Nat
  car : CarId
  kind : EntryKind
  phase : Phase
  /-- Present in STOP phase. -/
  stopCause : Option StopCause
  draw : Nat
  regen : Nat
  /-- Present for RETURN entries. -/
  runDraw : Option Nat
  /-- Present for RETURN entries. -/
  target : Option Nat
  grantTime : Time
  /-- Present for RETURN entries in START phase. -/
  window : Option StartWindow
  /-- Present for RETURN entries not in STOP phase. -/
  deadline : Option Time
deriving DecidableEq, Repr

/-- State of the Power Account apart from its history. -/
structure Account where
  entries : List Entry
  kd : Nat
  kr : Nat
  drawOver : Bool
  regenOver : Bool
  drawExhausted : Bool
  regenExhausted : Bool
  nextPermit : Nat
deriving DecidableEq, Repr

/-- An entry shed in one event, as an alert lists it (R103). -/
structure ShedEntry where
  permit : Nat
  car : CarId
deriving DecidableEq, Repr

/-- A history sample (R105). -/
structure Sample where
  time : Time
  c : Nat
  sink : Nat
  kd : Nat
  kr : Nat
  entries : Nat
  plan : PlanState
  drawOver : Bool
  regenOver : Bool
  settling : Bool
  derated : Bool
deriving DecidableEq, Repr

/-- The capture record outside IDLE (Table 6-4). -/
structure CaptureRecord where
  state : CaptureState
  trigger : Trigger
  time : Time
  index : Nat
  pre : Nat
  post : Nat
  freeze : Bool
  mode : CaptureMode
  collected : Nat
  overwritten : Nat
deriving DecidableEq, Repr

/-- The history ring and the capture record (section 6.8). -/
structure History where
  slots : Table (Option Sample) 512
  writeIndex : Nat
  held : Nat
  /-- The sample timer: `none` when stopped. -/
  timer : Option Time
  /-- `none` is IDLE. -/
  capture : Option CaptureRecord
deriving DecidableEq, Repr

/-! ## Plan Controller (07) -/

/-- The restore timer (R126). -/
inductive RestoreTimer where
  | stopped
  | running (expiry : Time)
  | lapsed
deriving DecidableEq, Repr

/-- Numbers of cars recorded at the recovered time (R129). -/
structure RecoveredCounts where
  parked : Nat
  failed : Nat
  deferred : Nat
deriving DecidableEq, Repr

/-- The outage record (R129). -/
structure OutageRecord where
  origin : OutageOrigin
  start : Time
  carry : Option Time
  recovered : Option Time
  counts : Option RecoveredCounts
  finish : Option Time
deriving DecidableEq, Repr

/-- State of the Plan Controller (R112). -/
structure PlanCtl where
  state : PlanState
  enteredAt : Time
  census : Census
  counted : Table Bool 48
  restore : RestoreTimer
  /-- Hand-back markers. -/
  owed : Table Bool 48
  /-- The retransfer-cancelled set. -/
  cancelled : Table Bool 48
  outage : Option OutageRecord
deriving DecidableEq, Repr

/-! ## Return Sequencer (08) -/

/-- A return queue item (Table 8-1). -/
structure QueueItem where
  car : CarId
  cls : Nat
  front : Bool
  occupied : Bool
  seq : BitVec 32
  passed : Nat
deriving DecidableEq, Repr

/-- RUN figures (Table 5-1), pu. -/
structure RunFigures where
  startDraw : Nat
  runDraw : Nat
  regen : Nat
deriving DecidableEq, Repr

/-- WORST figures (Table 5-1), pu. -/
structure WorstFigures where
  draw : Nat
  regen : Nat
deriving DecidableEq, Repr

/-- A staged car with the figures it carries (R140). -/
structure StagedCar where
  car : CarId
  figures : RunFigures
deriving DecidableEq, Repr

/-- State of the Return Sequencer. -/
structure Returns where
  queue : List QueueItem
  group : List StagedCar
  /-- The spacing timer: `none` when stopped (R139). -/
  spacing : Option Time
  nextSeq : BitVec 32
deriving DecidableEq, Repr

/-! ## Service Selector (09) -/

/-- The service record of a designated car (R155). -/
structure ServiceRecord where
  permit : Nat
  time : Time
  status : Confirmation
deriving DecidableEq, Repr

/-- State of the Service Selector. -/
structure Selector where
  /-- Runtime counts (R153). -/
  counts : Table Nat 8
  records : Table (Option ServiceRecord) 48
  /-- Set-aside markers with their reason. -/
  setAside : Table (Option AsideReason) 48
  /-- The values of C and S last read (R161). -/
  lastC : Nat
  lastS : Nat
deriving DecidableEq, Repr

/-! ## Plan Store (11) -/

/-- Outcome of the arm that followed the last reset (R180). -/
inductive ArmOutcome where
  | notCalled
  | armed
  | refused (fault : CommissionFault)
deriving DecidableEq, Repr

/-- The start-up record (R180). -/
structure StartupRecord where
  kind : ResetKind
  load : LoadResult
  arm : ArmOutcome
deriving DecidableEq, Repr

/-- State of the Plan Store. -/
structure Store where
  image : StoredImage
  status : ImageStatus
  fault : Bool
  modified : Bool
  /-- The save state: `none` when idle, else the copy being saved (R181). -/
  save : Option Setup
  startup : StartupRecord
deriving DecidableEq, Repr

/-! ## Reports (10.4) -/

/-- LINE-EVENT (R9). -/
structure LineEvent where
  line : LineId
  source : LineSource
  level : Level
  first : Bool
  time : Time
  count : Nat
deriving DecidableEq, Repr

/-- ACCOUNT-ALERT with cause SET-TRIP (R23). -/
structure SetTrip where
  set : SetId
  time : Time
  plan : PlanState
  contribution : Nat
  c : Nat
  sink : Nat
  online : Nat
  accepting : Nat
deriving DecidableEq, Repr

/-- ACCOUNT-ALERT from the Power Account (R103). -/
structure Alert where
  cause : AlertCause
  time : Time
  c : Nat
  sink : Nat
  kd : Nat
  kr : Nat
  projectedDraw : Nat
  projectedRegen : Nat
  drawOver : Bool
  regenOver : Bool
  shed : List ShedEntry
deriving DecidableEq, Repr

/-- CAR-POSITION (R37). -/
structure CarPosition where
  car : CarId
  floor : Option Nat
  between : Option Bool
  motion : Option Motion
  door : Option Door
  time : Option Time
deriving DecidableEq, Repr

/-- The command kind and reason of a decline (R38). -/
structure Decline where
  kind : CmdKind
  reason : DeclineReason
deriving DecidableEq, Repr

/-- CAR-STATE (R38). -/
structure CarStateReport where
  car : CarId
  before : CarState
  after : CarState
  cause : CarCause
  authority : Option Authority
  linkStatus : LinkStatus
  occupied : Bool
  holdOut : Bool
  attempts : Nat
  failure : Option FailReason
  faultCode : Option Byte
  decline : Option Decline
  permit : Option Nat
deriving DecidableEq, Repr

/-- PLAN-STATE (R114). -/
structure PlanReport where
  left : PlanState
  entered : PlanState
  cause : PlanCause
  time : Time
  util : Level
  retx : Level
  online : Nat
  accepting : Nat
  settled : Bool
  c : Nat
  sink : Nat
  census : Census
deriving DecidableEq, Repr

/-- CAPTURE-DONE and CAPTURE-STALE (R108). -/
structure CaptureReport where
  trigger : Trigger
  time : Time
  start : Nat
  length : Nat
deriving DecidableEq, Repr

/-- STORE-DONE (R182): `fault` is `none` for the result OK. -/
structure StoreDone where
  fault : Option StoreFaultCause
  planId : Option (BitVec 32)
  length : Nat
  time : Time
deriving DecidableEq, Repr

/-- The reports (Table 10-4). -/
inductive Report where
  | planState (r : PlanReport)
  | carState (r : CarStateReport)
  | carPosition (r : CarPosition)
  | lineEvent (r : LineEvent)
  | setTrip (r : SetTrip)
  | alert (r : Alert)
  | captureDone (r : CaptureReport)
  | captureStale (r : CaptureReport)
  | storeDone (r : StoreDone)
deriving DecidableEq, Repr

/-! ## Replies (10.3) -/

/-- One set in the capacity summary (R29). -/
structure SetView where
  enabled : Bool
  allocation : Nat
  trim : Nat
  status : SetStatus
  contribution : Nat
deriving DecidableEq, Repr

/-- One line in the QUERY-LINES reply (R12). -/
structure LineView where
  settings : LineSettings
  qualified : Option Level
  effective : Level
  raw : Option PinLevel
  held : Option Level
  lastChange : Option Time
  lastReport : Option Time
  count : Nat
deriving DecidableEq, Repr

/-- One bank's counts in the SET-SERVICE-COUNT reply (R154). -/
structure BankView where
  configured : Nat
  runtime : Nat
  designated : Nat
deriving DecidableEq, Repr

/-- The state of each condition of release readiness (R141). -/
structure Readiness where
  planAndGroup : Bool
  settled : Bool
  noOvercommit : Bool
  noStart : Bool
  spacingStopped : Bool
  drawFits : Bool
  regenFits : Bool
deriving DecidableEq, Repr

/-- The IDENTIFY reply (R171). -/
structure IdentifyView where
  part : String
  revision : Nat
  rateInUse : Nat
  configuredRate : Nat
  time : Time
  plan : PlanState
  planId : Option (BitVec 32)
deriving DecidableEq, Repr

/-- The SET-GENSET reply (R16). -/
structure GensetView where
  enabled : Bool
  allocation : Nat
  trim : Nat
  status : SetStatus
  c : Nat
deriving DecidableEq, Repr

/-- The SET-LINE reply (R2). DESIGN CHOICE: the qualification status comes with the qualified level when the line is QUALIFIED (log 48). -/
structure LineSetView where
  settings : LineSettings
  qualified : Option Level
deriving DecidableEq, Repr

/-- The SET-INDICATOR reply (R177). -/
structure IndView where
  settings : IndSettings
  level : PinLevel
deriving DecidableEq, Repr

/-- The SAVE-PLAN reply (R181). -/
structure SaveView where
  planId : Option (BitVec 32)
  autostart : Option Bool
  length : Nat
deriving DecidableEq, Repr

/-- The TRIM-SET reply (R28). -/
structure TrimView where
  set : SetId
  trim : Nat
  clipped : Bool
  status : SetStatus
  contribution : Nat
  c : Nat
deriving DecidableEq, Repr

/-- The RELEASE-GROUP reply (R143). -/
structure GroupView where
  group : List StagedCar
  readiness : Readiness
deriving DecidableEq, Repr

/-- One line in the LINE-REPORT reply (R10). -/
structure ReportedLine where
  line : LineId
  qualified : Option Level
  count : Nat
deriving DecidableEq, Repr

/-- The CAPTURE reply (R109). -/
structure CaptureView where
  taken : Bool
  record : Option CaptureRecord
deriving DecidableEq, Repr

/-- The state of a timer in a reply: `none` stopped, else the milliseconds remaining. -/
abbrev Remaining := Option Nat

/-- The restore timer in the QUERY-PLAN reply (R130). -/
inductive RestoreView where
  | stopped
  | running (remaining : Nat)
  | lapsed
deriving DecidableEq, Repr

/-- The QUERY-PLAN reply (R130, R180). -/
structure PlanView where
  state : PlanState
  enteredAt : Time
  util : Level
  retx : Level
  online : Nat
  accepting : Nat
  settled : Bool
  c : Nat
  sink : Nat
  census : Census
  enrolled : Nat
  counted : Nat
  firstUncounted : Option CarId
  restore : RestoreView
  cancelled : List CarId
  owed : List CarId
  /-- The number of cars in each state, in the order of Table 3-3. -/
  states : List Nat
  outage : Option OutageRecord
  gapFlag : Bool
  dipFlag : Bool
  imageStatus : ImageStatus
  storeFault : Bool
  planId : Option (BitVec 32)
  autostart : Option Bool
  modified : Bool
  saving : Bool
  startup : StartupRecord
deriving DecidableEq, Repr

/-- A run's direction (R79). -/
inductive Direction where
  | up | down | level
deriving DecidableEq, Repr

/-- RUN figures in the QUERY-CAR reply, with what they assumed (R89). -/
structure RunView where
  figures : RunFigures
  load : Option Nat
  direction : Direction
deriving DecidableEq, Repr

/-- A command in the QUERY-CAR reply (R74). -/
structure CommandView where
  kind : CmdKind
  tag : Byte
  tries : Nat
deriving DecidableEq, Repr

/-- The command waiting in the slot in the QUERY-CAR reply (R74). -/
structure SlotView where
  kind : CmdKind
  tag : Byte
  slotTime : Time
  tries : Nat
deriving DecidableEq, Repr

/-- A car's entry in the QUERY-CAR reply (R51). -/
structure EntryBrief where
  permit : Nat
  kind : EntryKind
  phase : Phase
deriving DecidableEq, Repr

/-- The first condition of R157 that a car fails. -/
inductive CandidateFailure where
  | notParked | rankZero | setAside | attemptsUsed | bankFull
deriving DecidableEq, Repr

/-- What QUERY-CAR carries for an enrolled car besides its profile and WORST figures (R51, R74, R89, R165). -/
structure EnrolledView where
  record : CarRecord
  waiting : Option CmdKind
  entry : Option EntryBrief
  missed : Nat
  /-- Absent while the links are not driven. -/
  pollAge : Option Nat
  inFlight : Option CommandView
  slot : Option SlotView
  nextTag : Byte
  silentHold : Remaining
  run : Option RunView
  designated : Bool
  service : Option ServiceRecord
  setAside : Option AsideReason
  /-- `none` for a candidate. -/
  candidate : Option CandidateFailure
deriving DecidableEq, Repr

/-- The QUERY-CAR reply; `enrolled` is `none` for a car without a record (R51). -/
structure CarView where
  profile : CarProfile
  worst : WorstFigures
  enrolled : Option EnrolledView
deriving DecidableEq, Repr

/-- The capture settings in the account summary (R104). -/
structure CaptureSettings where
  onTrip : Bool
  onDraw : Bool
  onHost : Bool
  pre : Nat
  post : Nat
  freeze : Bool
  mode : CaptureMode
deriving DecidableEq, Repr

/-- The QUERY-ACCOUNT SUMMARY reply (R29, R104). -/
structure SummaryView where
  sets : List SetView
  bankAvailable : Level
  bankRating : Nat
  baseCounted : Bool
  reserve : Nat
  derate : Nat
  derated : Bool
  settle : Remaining
  settled : Bool
  c : Nat
  sink : Nat
  kd : Nat
  kr : Nat
  projectedDraw : Nat
  projectedRegen : Nat
  drawOver : Bool
  regenOver : Bool
  drawExhausted : Bool
  regenExhausted : Bool
  entries : Nat
  starting : Nat
  shed : Nat
  nextPermit : Nat
  samplePeriod : Nat
  writeIndex : Nat
  held : Nat
  sampling : Bool
  captureSettings : CaptureSettings
  capture : Option CaptureRecord
deriving DecidableEq, Repr

/-- One entry in the QUERY-ACCOUNT ENTRIES reply (R104). -/
structure EntryView where
  entry : Entry
  windowRemaining : Remaining
  deadlineRemaining : Remaining
  position : Nat
deriving DecidableEq, Repr

/-- The QUERY-ACCOUNT ENTRIES reply (R104). -/
structure EntriesView where
  entries : List EntryView
  /-- The car to continue from. -/
  next : Option CarId
deriving DecidableEq, Repr

/-- One item in the QUERY-QUEUE reply (R151). -/
structure ItemView where
  position : Nat
  item : QueueItem
deriving DecidableEq, Repr

/-- The QUERY-QUEUE reply (R151). -/
structure QueueView where
  mode : ReturnMode
  source : ReleaseSource
  startSlots : Nat
  starting : Nat
  spacing : Remaining
  nextSeq : BitVec 32
  items : Nat
  group : List StagedCar
  groupDraw : Nat
  groupRegen : Nat
  /-- In GROUPED mode. -/
  readiness : Option Readiness
  listed : List ItemView
  /-- The position to continue from. -/
  next : Option Nat
deriving DecidableEq, Repr

/-- The QUERY-LINES reply (R12). -/
structure LinesView where
  time : Time
  lines : List LineView
deriving DecidableEq, Repr

/-- The READ-HISTORY reply (R110); each sample is the 15 bytes of Table 6-3. -/
structure HistoryView where
  state : CaptureState
  length : Nat
  offset : Nat
  /-- The offset of the first sample returned, when one is. -/
  first : Option Nat
  count : Nat
  samples : List (List Byte)
deriving DecidableEq, Repr

/-- The ACK-FLAGS reply: the flags as they stood before (R175). -/
structure FlagsView where
  gap : Bool
  dip : Bool
deriving DecidableEq, Repr

/-- What a reply carries after its result code. -/
inductive Content where
  | nothing
  | identify (v : IdentifyView)
  | limits (v : Limits)
  | profile (v : CarProfile)
  | genset (v : GensetView)
  | line (v : LineSetView)
  | indicator (v : IndView)
  | armed (reached : PlanState)
  | armRefused (fault : CommissionFault)
  | saved (v : SaveView)
  | trim (v : TrimView)
  | counts (v : List BankView)
  | carState (v : CarState)
  | group (v : GroupView)
  | reported (v : List ReportedLine)
  | capture (v : CaptureView)
  | released (v : Option CaptureRecord)
  | plan (v : PlanView)
  | car (v : CarView)
  | summary (v : SummaryView)
  | entries (v : EntriesView)
  | queue (v : QueueView)
  | lines (v : LinesView)
  | history (v : HistoryView)
  | flags (v : FlagsView)
deriving DecidableEq, Repr

/-- A reply: the request's kind value and tag echoed, the result code, and the rest of the body (R168). -/
structure Reply where
  kind : Byte
  tag : Byte
  code : ResultCode
  content : Content
deriving DecidableEq, Repr

/-! ## Message Port (10) -/

/-- A frame being sent. A report's status flags byte is fixed when its transmission begins (R172). -/
inductive TxFrame where
  | reply (r : Reply)
  | report (flags : Byte) (r : Report)
deriving DecidableEq, Repr

/-- The receive framer (R167): the bytes of the frame in progress in order, and the time of the last. -/
inductive Framer where
  | hunting
  | assembling (bytes : List Byte) (last : Time)
deriving DecidableEq, Repr

/-- State of the Message Port. -/
structure Port where
  rateInUse : Nat
  framer : Framer
  /-- An accepted RESTART not yet taken: whether the plan was out of HALTED at the request (R176, R185). -/
  restart : Option Bool
  replies : List Reply
  tx : Option TxFrame
  reports : List Report
  gapFlag : Bool
  dipFlag : Bool
deriving DecidableEq, Repr

end Sys2Proof.Machine
end

