-- ==== Sys2Proof/Config.lean ====
section
/-! DEFINITION. What the part fixes: the constants of the manual, and the values it leaves to the implementation. -/

namespace Sys2Proof.Config

/-- Tries of a command in all (R61). -/
def tries : Nat := 3
/-- Consecutive URGENT exchanges before a due poll goes first (R65). -/
def urgentLimit : Nat := 4
/-- Slots of the history ring (R105). -/
def ringSize : Nat := 512
/-- Reports the report queue holds (R173). -/
def reportRoom : Nat := 64
/-- Replies the reply path holds (R168). -/
def replyRoom : Nat := 8
/-- The longest gap between two bytes of a frame, ms (R167). -/
def frameGap : Nat := 20
/-- The longest run allowance, ms (R138). -/
def longestRun : Nat := 600000
/-- Entries in one QUERY-ACCOUNT reply (R104). -/
def entriesPerReply : Nat := 8
/-- Queue items in one QUERY-QUEUE reply (R151). -/
def itemsPerReply : Nat := 12
/-- Samples in one READ-HISTORY reply (R110). -/
def samplesPerReply : Nat := 16
/-- The part identifier (R171). -/
def identifier : String := "BV4830"

/-- UNVERIFIED, left open: the device revision less one. R171 says only that it is a number from 1 to 255 fixed in the
part (log 11). -/
opaque revisionLessOne : Fin 255

/-- The device revision, 1..255 (R171). -/
def revision : Nat := revisionLessOne.val + 1

/-! ## The plan image (R179), of which the manual gives no layout -/

/-- UNVERIFIED, left open: the format marker of a plan image (R179, log 11). -/
opaque formatMarker : Nat

/-- UNVERIFIED, left open: the format version that the part writes (R179, log 11). -/
opaque formatVersion : Nat

/-- UNVERIFIED, left open: the other format versions that the part reads (R179, log 11). -/
opaque olderVersions : List Nat

/-- UNVERIFIED, left open: the length of the contents in bytes under a format version (R179, log 11). -/
opaque lengthOf : Nat → Nat

/-- The length of the contents that the part writes, in bytes (R179). -/
def contentsLength : Nat := lengthOf formatVersion

/-- UNVERIFIED, left open: the header and contents of the image of a configuration, as bytes (R179, log 11). -/
opaque imageBytes : Setup → List Byte

/-! ## Frames (R55, R168, R172), of which the manual gives the envelope and not the codes and layouts within -/

/-- UNVERIFIED, left open: the start marker of a car-link frame (R55, log 11). -/
opaque startMarker : Byte

/-- UNVERIFIED, left open: the code of a request kind on the car link (R55, log 11). -/
opaque linkCode : LinkKind → Byte

/-- UNVERIFIED, left open: the eight bytes that stand before the samples of a READ-HISTORY reply, from the capture state, the window
length, the requested offset, the offset of the first sample and the number of samples. R110 gives their number, by the 249 bytes of a
body with 16 samples of 15 bytes, and no layout (log 11). -/
opaque historyHead : CaptureState → Nat → Nat → Option Nat → Nat → Vector Byte 8

/-- UNVERIFIED, left open: what follows the result code in the body of a reply other than READ-HISTORY's, as bytes (R168, log 11). -/
opaque contentBytes : Machine.Content → List Byte

/-- UNVERIFIED, left open: what follows the subject byte in a report's body, as bytes (R172, log 11). -/
opaque reportBytes : Machine.Report → List Byte

end Sys2Proof.Config
end

