-- ==== Sys2Proof/Machine/Crc.lean ====
section
/-! DEFINITION. The two check words of the manual: the CRC-16 of frames (R55, R56, R167) and the CRC-32 of the plan image (R179). -/

namespace Sys2Proof.Machine

/-! ## CRC-16 -/

/-- One bit of the CRC-16: polynomial x^16 + x^12 + x^5 + 1, most significant bit first (R55, R167). -/
def crcBit (crc : BitVec 16) : BitVec 16 := if crc.msb then (crc <<< 1) ^^^ 0x1021 else crc <<< 1

/-- Eight bits of the CRC-16. -/
def crcBits : Nat → BitVec 16 → BitVec 16
  | 0, crc => crc
  | n + 1, crc => crcBits n (crcBit crc)

/-- One byte entered. -/
def crcByte (crc : BitVec 16) (b : Byte) : BitVec 16 := crcBits 8 (crc ^^^ (b.zeroExtend 16 <<< 8))

/-- The CRC-16 of some bytes: initial value 0xFFFF, no final inversion (R55, R167). -/
def crc16 (bytes : List Byte) : BitVec 16 := bytes.foldl crcByte 0xFFFF

/-- The two bytes of a CRC-16 as they are sent, least significant byte first (R55, R167). -/
def crcField (crc : BitVec 16) : List Byte := [crc.extractLsb' 0 8, crc.extractLsb' 8 8]

/-! ## CRC-32 -/

/-- One bit of the CRC-32: generator polynomial 0x04C11DB7 with its bits reversed, least significant bit first (R179). -/
def crcBit32 (crc : BitVec 32) : BitVec 32 := if crc.getLsbD 0 then (crc >>> 1) ^^^ 0xEDB88320 else crc >>> 1

/-- Eight bits of the CRC-32. -/
def crcBits32 : Nat → BitVec 32 → BitVec 32
  | 0, crc => crc
  | n + 1, crc => crcBits32 n (crcBit32 crc)

/-- One byte entered, least significant bit first (R179). -/
def crcByte32 (crc : BitVec 32) (b : Byte) : BitVec 32 := crcBits32 8 (crc ^^^ b.zeroExtend 32)

/-- The CRC-32 of some bytes: initial value 0xFFFFFFFF, the result inverted (R179). -/
def crc32 (bytes : List Byte) : BitVec 32 := ~~~ (bytes.foldl crcByte32 0xFFFFFFFF)

end Sys2Proof.Machine
end

