-- ==== Sys2Proof/Machine/Defaults.lean ====
section
/-! DEFINITION. The values settings and records take on an empty working configuration and at a reset. -/

namespace Sys2Proof.Machine

/-- The defaults of Tables 2-2, 4-3, 6-2 and 8-2, R126, R153 and R166. -/
def Limits.defaults : Limits where
  reserve := 10
  derate := 20
  settle := 10000
  bankRating := 0
  baseLoad := 0
  pollInterval := 400
  silenceThreshold := 3
  silentHold := 30000
  samplePeriod := 500
  onTrip := true
  onDraw := true
  onHost := true
  pre := 64
  post := 64
  freeze := false
  captureMode := .once
  returnMode := .paced
  startSlots := 1
  spacing := 3000
  lookahead := 2
  passLimit := 3
  groupSize := 1
  stepLimit := 10000
  releaseSource := .timer
  attempts := 3
  margin := 25
  restoreTimeout := 60000
  counts := Table.const 8 1
  rate := 115200

/-- The defaults of Table 3-1. -/
def CarProfile.defaults : CarProfile where
  enrolled := false
  link := .a
  drop := 1
  bank := 1
  ranges := [⟨0, 0⟩]
  recallFloor := 0
  power := 50
  balance := 45
  loss := 50
  inrush := 200
  regenCapable := false
  efficiency := 80
  startWindow := 3000
  floorTime := 1000
  doorTime := 6000
  returnClass := 4
  occupiedAt := 10
  rank := 0

/-- The default settings of a line (R2). -/
def LineSettings.defaults : LineSettings := ⟨.activeHigh, 20, .wired⟩

/-- The settings of an indication line on an empty configuration (R177). -/
def IndSettings.defaults : IndSettings := ⟨.direct, false, false⟩

/-- The empty working configuration (R183). -/
def Setup.empty : Setup where
  limits := Limits.defaults
  profiles := Table.const 48 CarProfile.defaults
  sets := Table.const 4 ⟨false, 0⟩
  lines := Table.const 8 LineSettings.defaults
  inds := Table.const 2 IndSettings.defaults
  autostart := none
  planId := none

/-- A line when a power-on or external reset ends (R13); its first sample is due at once, device time being 0. -/
def LineState.fresh : LineState := ⟨none, none, none, none, none, 0, 0⟩

/-- The initial values of the car record (Table 3-2). -/
def CarRecord.initial : CarRecord where
  state := .absent
  floor := none
  between := none
  motion := none
  door := none
  load := none
  authority := none
  faultCode := none
  linkStatus := .silent
  attempts := 0
  holdOut := false
  occupied := true
  parkOut := false
  failure := none
  lastStatus := none

/-- The car records after a reset: one for each enrolled car (R52, R53). -/
def freshCars (su : Setup) : Table (Option CarRecord) 48 :=
  su.profiles.mapAll (fun _ p => if p.enrolled then some CarRecord.initial else none)

/-- The Capacity Unit when a power-on or external reset ends at device time `now` (R30). -/
def Capacity.fresh (su : Setup) (now : Time) : Capacity where
  sets := Table.const 4 ⟨100, .offline⟩
  settle := some (Time.plus now su.limits.settle)
  c := 0
  sink := 0

/-- One car's share of the link state after a reset. DESIGN CHOICE: the last exchange end time is 0; the manual gives it none
until the links are driven (R63, log 8). -/
def CarLink.fresh : CarLink := ⟨none, 1, 0, 0, none⟩

/-- A link with no exchange in flight (R75). -/
def LinkLine.fresh : LinkLine := ⟨none, 0⟩

/-- The Car Link Controller after any reset (R75). -/
def LinkCtl.fresh : LinkCtl := ⟨LinkLine.fresh, LinkLine.fresh, Table.const 48 CarLink.fresh⟩

/-- The Power Account after any reset (R111). -/
def Account.fresh : Account := ⟨[], 0, 0, false, false, false, false, 1⟩

/-- The history ring after a power-on reset (R111). -/
def History.fresh : History := ⟨Table.const 512 none, 0, 0, none, none⟩

/-- The Plan Controller after any reset that ends at `now` (R112). -/
def PlanCtl.fresh (now : Time) : PlanCtl :=
  ⟨.halted, now, .none, Table.const 48 false, .stopped, Table.const 48 false, Table.const 48 false, none⟩

/-- The Return Sequencer after any reset (R152). -/
def Returns.fresh : Returns := ⟨[], [], none, 0⟩

/-- The Service Selector after any reset (R153, R155, R161). -/
def Selector.fresh (su : Setup) : Selector :=
  ⟨su.limits.counts, Table.const 48 none, Table.const 48 none, 0, 0⟩

/-- The Message Port after a power-on or external reset, with the supply-dip flag as given (R176, R186). -/
def Port.fresh (su : Setup) (dip : Bool) : Port :=
  ⟨su.limits.rate, .hunting, none, [], none, [], false, dip⟩

end Sys2Proof.Machine
end

