-- ==== Sys2Proof/Machine/State.lean ====
section
/-! DEFINITION. The state of the part, whole, the reasons a step can stop, and the state after reset. -/

namespace Sys2Proof.Machine

/-- The state of the BV4830: every block's state (Table 0-1), device time, the working configuration, and the queue of
commands that wait, first in, first out. -/
structure State where
  /-- The commands that wait (the model's own). -/
  pending : List Instr
  /-- Device time (R4). -/
  time : Time
  /-- The working configuration (R180). -/
  setup : Setup
  /-- Line Qualifier. -/
  lines : Table LineState 8
  /-- Capacity Unit. -/
  cap : Capacity
  /-- Car Table: the records of the enrolled cars. -/
  cars : Table (Option CarRecord) 48
  /-- Car Link Controller. -/
  link : LinkCtl
  /-- Power Account. -/
  acct : Account
  /-- History ring and capture record. -/
  hist : History
  /-- Plan Controller. -/
  plan : PlanCtl
  /-- Return Sequencer. -/
  ret : Returns
  /-- Service Selector. -/
  svc : Selector
  /-- Message Port. -/
  port : Port
  /-- Output levels of IND1 and IND2 (R178). -/
  inds : Table PinLevel 2
  /-- Plan Store. -/
  store : Store
deriving DecidableEq, Repr

/-- Reasons for a step to stop with a fault: none. The manual describes no event after which the part stops; what it calls
faults is state (R116, R180) or a result code (Table 10-2). No command raises one. -/
inductive Fault where
deriving DecidableEq, Repr

/-- Reasons for a refusal. -/
inductive Refusal where
  /-- A command without a meaning yet, named as the table names it. Raised by `exec` alone; no arm raises it. Safe: a run
  stops there, so no claim about what follows can be proved. -/
  | notModelled (mnemonic : String)
deriving DecidableEq, Repr

/-- The part right after reset: the end of a power-on reset over a store that has never been written (R183 Blank; R13, R30,
R52, R75, R111, R112, R152, R153, R176, R186; log 6). Nothing waits. -/
def State.reset : State where
  pending := []
  time := 0
  setup := Setup.empty
  lines := Table.const 8 LineState.fresh
  cap := Capacity.fresh Setup.empty 0
  cars := freshCars Setup.empty
  link := LinkCtl.fresh
  acct := Account.fresh
  hist := History.fresh
  plan := PlanCtl.fresh 0
  ret := Returns.fresh
  svc := Selector.fresh Setup.empty
  port := Port.fresh Setup.empty true
  inds := Table.const 2 .low
  store := ⟨.neverWritten, .blank, false, true, none, ⟨.powerOn, .blank, .notCalled⟩⟩

end Sys2Proof.Machine
end

