-- ==== Sys2Proof/Machine/Operands.lean ====
section
/-! DEFINITION. Operand forms: numbers that name things, the ranges of settings, and the car status record of a reply. -/

namespace Sys2Proof.Machine

/-- The thing that number `n` names among things numbered 1..`k` (00_scope.md, Numbering). -/
def numbered (k n : Nat) : Option (Fin k) :=
  if h : 1 ≤ n ∧ n ≤ k then some ⟨n - 1, by omega⟩ else none

/-- The number of a thing numbered from 1. -/
def numberOf {k : Nat} (i : Fin k) : Nat := i.val + 1

/-- `x` lies in `lo..hi`. -/
def within (lo hi x : Nat) : Bool := decide (lo ≤ x) && decide (x ≤ hi)

/-- A duration in `lo..hi` that is a whole multiple of 100 ms (00_scope.md, Durations; R32). -/
def duration (lo hi x : Nat) : Bool := within lo hi x && x % 100 == 0

/-- A filter period of R2, ms. -/
def isPeriod (p : Nat) : Bool := [2, 20, 80, 320].contains p

/-- A port rate of R166, bit/s. -/
def isRate (r : Nat) : Bool := [19200, 38400, 57600, 115200].contains r

/-- The capacity settings are in the ranges of Table 2-2 (R18). -/
def capacityInRange (f : LimitsForm) : Bool :=
  within 0 30 f.reserve && within 0 50 f.derate && duration 2000 60000 f.settle && within 0 100000 f.bankRating
    && within 0 100000 f.baseLoad

/-- The link settings are in the ranges of Table 4-3 (R64). -/
def linkInRange (f : LimitsForm) : Bool :=
  duration 200 2000 f.pollInterval && within 2 10 f.silenceThreshold && duration 5000 120000 f.silentHold

/-- The numeric history settings are in the ranges of Table 6-2 (R106). -/
def historyInRange (f : LimitsForm) : Bool :=
  duration 100 2000 f.samplePeriod && within 0 511 f.pre && within 1 512 f.post && decide (f.pre + f.post ≤ 512)

/-- The numeric return settings are in the ranges of Table 8-2 (R134). -/
def returnInRange (f : LimitsForm) : Bool :=
  within 1 4 f.startSlots && duration 500 30000 f.spacing && within 0 8 f.lookahead && within 1 7 f.passLimit
    && within 1 4 f.groupSize && within 0 100000 f.stepLimit && within 1 5 f.attempts && within 0 100 f.margin

/-- Every numeric field of SET-LIMITS is in its range (R170). -/
def limitsInRange (f : LimitsForm) : Bool :=
  capacityInRange f && linkInRange f && historyInRange f && returnInRange f && duration 10000 300000 f.restoreTimeout
    && f.counts.toList.all (within 0 12) && isRate f.rate

/-- The limits a SET-LIMITS body gives; `none` when a field is out of range (R170). -/
def checkLimits (f : LimitsForm) : Option Limits :=
  if limitsInRange f then
    match f.onTrip, f.onDraw, f.onHost, f.freeze, f.captureMode, f.returnMode, f.releaseSource with
    | some onTrip, some onDraw, some onHost, some freeze, some captureMode, some returnMode, some releaseSource =>
      some
        { reserve := f.reserve, derate := f.derate, settle := f.settle, bankRating := f.bankRating, baseLoad := f.baseLoad,
          pollInterval := f.pollInterval, silenceThreshold := f.silenceThreshold, silentHold := f.silentHold,
          samplePeriod := f.samplePeriod, onTrip, onDraw, onHost, pre := f.pre, post := f.post, freeze, captureMode,
          returnMode, startSlots := f.startSlots, spacing := f.spacing, lookahead := f.lookahead, passLimit := f.passLimit,
          groupSize := f.groupSize, stepLimit := f.stepLimit, releaseSource, attempts := f.attempts, margin := f.margin,
          restoreTimeout := f.restoreTimeout, counts := f.counts, rate := f.rate }
    | _, _, _, _, _, _, _ => none
  else none

/-- The numeric fields of SET-CAR are in the ranges of Table 3-1 (R32). -/
def profileInRange (f : CarForm) : Bool :=
  within 1 24 f.drop && within 1 8 f.bank && f.ranges.all (fun r => within 0 199 r.low && within 0 199 r.high)
    && within 0 199 f.recallFloor && within 50 4000 f.power && within 35 55 f.balance && within 20 300 f.loss
    && within 100 350 f.inrush && within 50 100 f.efficiency && duration 1000 10000 f.startWindow
    && duration 500 10000 f.floorTime && duration 2000 30000 f.doorTime && within 1 4 f.returnClass
    && within 5 30 f.occupiedAt && within 0 48 f.rank

/-- The profile a SET-CAR body gives; `none` when a field is out of range (R32). -/
def checkProfile (f : CarForm) : Option CarProfile :=
  if profileInRange f then
    match f.enrolled, f.link, f.regenCapable with
    | some enrolled, some link, some regenCapable =>
      some
        { enrolled, link, drop := f.drop, bank := f.bank, ranges := f.ranges, recallFloor := f.recallFloor, power := f.power,
          balance := f.balance, loss := f.loss, inrush := f.inrush, regenCapable, efficiency := f.efficiency,
          startWindow := f.startWindow, floorTime := f.floorTime, doorTime := f.doorTime, returnClass := f.returnClass,
          occupiedAt := f.occupiedAt, rank := f.rank }
    | _, _, _ => none
  else none

/-- The settings a SET-LINE body gives; `none` when a value is not one of those listed (R2). -/
def checkLine (f : LineForm) : Option LineSettings :=
  match f.polarity, f.source with
  | some polarity, some source => if isPeriod f.period then some ⟨polarity, f.period, source⟩ else none
  | _, _ => none

/-- The settings a SET-GENSET body gives; `none` when a field is out of range (R16). -/
def checkGenset (f : GensetForm) : Option SetSettings :=
  match f.enabled with
  | some enabled => if f.allocation ≤ 200000 then some ⟨enabled, f.allocation⟩ else none
  | none => none

/-- The settings a SET-INDICATOR body of part FULL gives; `none` when a value is unknown (R177). -/
def checkIndicator (f : IndFullForm) : Option IndSettings :=
  match f.source, f.invert, f.direct with
  | some source, some invert, some direct => some ⟨source, invert, direct⟩
  | _, _, _ => none

/-- The plan id and autostart flag in the five bytes of a SAVE-PLAN body, the id least significant byte first; `none` when the
autostart value is neither 0 nor 1 (R181). -/
def savePlanFields (body : List Byte) : Option (BitVec 32 × Bool) :=
  match body with
  | [b0, b1, b2, b3, flag] =>
    if flag = 0 then some (b3 ++ b2 ++ b1 ++ b0, false)
    else if flag = 1 then some (b3 ++ b2 ++ b1 ++ b0, true)
    else none
  | _ => none

/-- The authority that a code names (Table 4-2, byte 3). -/
def authorityOf (b : Byte) : Option Authority :=
  match b.toNat with
  | 0 => some .sequencer
  | 1 => some .localFire
  | 2 => some .localInspection
  | 3 => some .localIndependent
  | 4 => some .outOfOrder
  | _ => none

/-- The motion in bits 3 and 4 of byte 1 (Table 4-2). -/
def motionOf (b : Byte) : Motion :=
  match (b >>> 3).toNat % 4 with
  | 0 => .stopped
  | 1 => .accelerating
  | 2 => .atSpeed
  | _ => .decelerating

/-- The door in bits 5 and 6 of byte 1 (Table 4-2). -/
def doorOf (b : Byte) : Door :=
  match (b >>> 5).toNat % 4 with
  | 0 => .closed
  | 1 => .opening
  | 2 => .opened
  | _ => .closing

/-- The car status record of a reply; `none` when a field is out of range (Table 4-2, R56). -/
def statusOf (r : CarReply) : Option CarStatus :=
  match authorityOf r.authority with
  | some authority =>
    if r.floor.toNat ≤ 199 then
      some
        { floor := r.floor.toNat
          between := r.bits.getLsbD 0
          atSpeed := r.bits.getLsbD 1
          fault := if r.bits.getLsbD 2 then some r.fault else none
          motion := motionOf r.bits
          door := doorOf r.bits
          load := if r.bits.getLsbD 7 then none else some r.load.toNat
          authority }
    else none
  | none => none

/-- The kind a request's reply echoes (R56). -/
def requestKind : Request → LinkKind
  | .poll => .poll
  | .command cmd => .command cmd.kind

/-- The tag a request carries: 0 for a POLL (R55). -/
def requestTag : Request → Byte
  | .poll => 0
  | .command cmd => cmd.tag

/-- The verdict suits the request: NONE for a POLL, another for a command (R56). -/
def verdictSuits (q : Request) (v : Verdict) : Bool :=
  match q with
  | .poll => v == .none
  | .command _ => v != .none

/-- The bytes of a reply that its CRC covers: the drop address through the last byte of the status record (R55, R56), in the
order in which R56 names them (log 9). -/
def replyCovered (r : CarReply) : List Byte :=
  [r.drop, r.kindCode, r.verdictCode, r.floor, r.bits, r.load, r.authority, r.fault, r.tag]

/-- The tests of R56 on a reply to the request in flight at a drop. -/
def replyValid (drop : Nat) (q : Request) (r : CarReply) : Bool :=
  r.crc == crc16 (replyCovered r) && r.drop.toNat == drop && r.kind == requestKind q && r.tag == requestTag q && verdictSuits q r.verdict
    && (statusOf r).isSome

/-- The authority is one of the three local authorities (Table 3-2). -/
def isLocal : Authority → Bool
  | .localFire => true
  | .localInspection => true
  | .localIndependent => true
  | .sequencer => false
  | .outOfOrder => false

end Sys2Proof.Machine
end

