-- ==== Sys2Proof/Machine/Flags.lean ====
section
/-! DEFINITION. Conditions computed from the state: levels, flags, timers due, and who is where. -/

namespace Sys2Proof.Machine

/-- DESIGN CHOICE: device time has reached an expiry: the time since the expiry, modulo 2^32, lies in the lower half of the
range (log 2). Every interval of the part is far shorter. -/
def reached (now expiry : Time) : Bool := decide (Time.since now expiry < 2147483648)

/-- A timer that is running and has reached its expiry. -/
def timerDue (now : Time) (timer : Option Time) : Bool :=
  match timer with
  | some expiry => reached now expiry
  | none => false

/-- The milliseconds from now to a running timer's expiry, modulo 2^32 (R29, R74, R104, R130, R151). -/
def remaining (now : Time) (timer : Option Time) : Remaining := timer.map (fun expiry => Time.since expiry now)

/-! ## Plant lines -/

/-- Line 1, UTIL (Table 1-1). -/
def utilLine : LineId := 0
/-- Line 6, LBNK (Table 1-1). -/
def bankLine : LineId := 5
/-- Line 7, PREALM (Table 1-1). -/
def alarmLine : LineId := 6
/-- Line 8, RETX (Table 1-1). -/
def retxLine : LineId := 7
/-- Lines 2 to 5, SET1 to SET4 (Table 1-1). -/
def setLineOf (n : SetId) : LineId := ⟨n.val + 1, by omega⟩
/-- The set whose line this is (Table 1-1). -/
def setOfLine (l : LineId) : Option SetId := if h : 1 ≤ l.val ∧ l.val ≤ 4 then some ⟨l.val - 1, by omega⟩ else none

/-- The effective level of a line's state (R1). -/
def effectiveOf (l : LineState) : Level := l.qualified.getD .inactive

/-- The effective level of a line (R1). -/
def effective (s : State) (l : LineId) : Level := effectiveOf (s.lines.at l)

/-- A line is qualified active (R1). -/
def isActive (s : State) (l : LineId) : Bool := effective s l == .active

/-- UTIL qualified present (R1). -/
def utilPresent (s : State) : Bool := isActive s utilLine

/-- RETX qualified active (R1). -/
def retxActive (s : State) : Bool := isActive s retxLine

/-! ## Capacity Unit -/

/-- The settled flag: the settle timer is stopped (R19). -/
def settled (s : State) : Bool := s.cap.settle.isNone

/-- The pre-alarm derate is in force (R25). -/
def derated (s : State) : Bool := isActive s alarmLine

/-- The number of sets with a status. -/
def setsWith (s : State) (st : SetStatus) : Nat := (s.cap.sets.toList.filter (fun x => x.status == st)).length

/-- A set is ACCEPTING or ONLINE (R27). -/
def setAvailable (s : State) : Bool := s.cap.sets.toList.any (fun x => x.status != .offline)

/-! ## Cars -/

/-- The profile of a car. -/
def profile (s : State) (c : CarId) : CarProfile := s.setup.profiles.at c

/-- A car is enrolled (Table 3-1). -/
def enrolled (s : State) (c : CarId) : Bool := (profile s c).enrolled

/-- The record of a car, if it has one (R33). -/
def record (s : State) (c : CarId) : Option CarRecord := s.cars.at c

/-- The state of a car, if it has a record. -/
def stateOf (s : State) (c : CarId) : Option CarState := (record s c).map (·.state)

/-- The number of cars in a state. -/
def carsIn (s : State) (st : CarState) : Nat := ((indices 48).filter (fun c => stateOf s c == some st)).length

/-- Some car is in one of these states. -/
def anyCarIn (s : State) (states : List CarState) : Bool :=
  (indices 48).any (fun c => match stateOf s c with
    | some st => states.contains st
    | none => false)

/-- Stopped: the motion is STOPPED (Table 3-2). -/
def isStopped (r : CarRecord) : Bool := r.motion == some .stopped

/-- Moving: the motion is other than STOPPED (Table 3-2). -/
def isMoving (r : CarRecord) : Bool :=
  match r.motion with
  | some .stopped => false
  | some _ => true
  | none => false

/-- The car reports a local authority. -/
def underLocal (r : CarRecord) : Bool :=
  match r.authority with
  | some a => isLocal a
  | none => false

/-- The car reports OUT-OF-ORDER. -/
def outOfOrder (r : CarRecord) : Bool := r.authority == some .outOfOrder

/-- The car stands level at a floor. -/
def levelAt (r : CarRecord) (floor : Nat) : Bool := r.floor == some floor && r.between == some false

/-! ## Power Account -/

/-- The entry of a car, if it holds one (R90). -/
def entryOf (s : State) (c : CarId) : Option Entry := s.acct.entries.find? (fun e => e.car == c)

/-- Either overcommit flag is set. -/
def overcommitted (s : State) : Bool := s.acct.drawOver || s.acct.regenOver

/-- A RETURN entry in START phase. -/
def Entry.starting (e : Entry) : Bool := e.kind == .returning && e.phase == .start

/-- The number of RETURN entries in START phase. -/
def startingCount (a : Account) : Nat := (a.entries.filter Entry.starting).length

/-- An entry in the shed set (R100). -/
def Entry.isShed (e : Entry) : Bool := e.phase == .stop && e.stopCause == some .shed

/-- The number of entries in the shed set. -/
def shedCount (a : Account) : Nat := (a.entries.filter Entry.isShed).length

/-- The draw reservations of the entries in STOP phase. -/
def stoppingDraw (a : Account) : Nat := ((a.entries.filter (fun e => e.phase == .stop)).map (·.draw)).sum

/-- The regen reservations of the entries in STOP phase. -/
def stoppingRegen (a : Account) : Nat := ((a.entries.filter (fun e => e.phase == .stop)).map (·.regen)).sum

/-- The projected draw (R101). -/
def projectedDraw (a : Account) : Nat := a.kd - stoppingDraw a

/-- The projected regen (R102). -/
def projectedRegen (a : Account) : Nat := a.kr - stoppingRegen a

/-- A SERVICE entry in HOLDING phase: its car is designated (R155). -/
def Entry.designates (e : Entry) : Bool := e.kind == .service && e.phase == .holding

/-- A car is designated (R155). -/
def designated (s : State) (c : CarId) : Bool := s.acct.entries.any (fun e => e.car == c && e.designates)

/-- The number of designated cars of a bank (R155). -/
def designatedIn (s : State) (b : BankId) : Nat :=
  (s.acct.entries.filter (fun e => e.designates && (profile s e.car).bank == numberOf b)).length

/-- A RETURN entry stands in the permit table. -/
def anyReturnEntry (s : State) : Bool := s.acct.entries.any (fun e => e.kind == .returning)

/-- An entry other than STANDING stands in the permit table (R126). -/
def anyEntryToStop (s : State) : Bool := s.acct.entries.any (fun e => e.kind != .standing)

/-- The ring is frozen (R108). -/
def frozen (h : History) : Bool :=
  match h.capture with
  | some r => r.state == .complete && r.freeze
  | none => false

/-- A plan save is in progress (R180). -/
def saving (s : State) : Bool := s.store.save.isSome

/-! ## Indication sources -/

/-- The condition of an indication source (Table 10-5); DIRECT is no condition. -/
def condition (s : State) : IndSource → Bool
  | .inReturn => s.plan.state == .returning
  | .allRecovered =>
    s.plan.state == .service && !anyCarIn s [.queued, .staged, .starting, .running, .stopping, .silent]
  | .overcommit => overcommitted s
  | .shedding => s.acct.entries.any Entry.isShed
  | .prealarm => derated s
  | .anyFailed => anyCarIn s [.failed]
  | .halted => s.plan.state == .halted
  | .supplyDip => s.port.dipFlag
  | .storeFault => s.store.fault
  | .direct => false

/-- HIGH for true. -/
def levelFor (b : Bool) : PinLevel := if b then .high else .low

/-- The level an indication line drives with these settings (R178): the invert setting is not applied to DIRECT. -/
def indLevel (s : State) (set : IndSettings) : PinLevel :=
  match set.source with
  | .direct => levelFor set.direct
  | src => levelFor (condition s src != set.invert)

end Sys2Proof.Machine
end

