-- ==== Sys2Proof/Machine/Work.lean ====
section
/-! DEFINITION. A step in progress: the state, and what the event has produced that another block takes up later in it. -/

namespace Sys2Proof.Machine

/-- What an event in progress has produced for other blocks. -/
structure Notes where
  /-- An event of R135 has reached the Return Sequencer. -/
  rs : Bool
  /-- An event of R156 has reached the Service Selector. -/
  ss : Bool
  /-- Cars whose entries shedding moved to STOP phase, in shed order, not yet handed to the Car Table (R100). -/
  sheds : List CarId
deriving DecidableEq, Repr

/-- The state of a step in progress. -/
structure Work where
  st : State
  nt : Notes
deriving DecidableEq, Repr

end Sys2Proof.Machine
end

