-- ==== Sys2Proof/Machine/Ops.lean ====
section
/-! DEFINITION. The named operations on the state: the blocks' fields, the report queue, command slots and car records. -/

namespace Sys2Proof.Machine

/-! ## One update for each field -/

/-- The state with another device time. -/
def State.setTime (s : State) (x : Time) : State := { s with time := x }
/-- The state with another working configuration. -/
def State.setSetup (s : State) (x : Setup) : State := { s with setup := x }
/-- The state with other line states. -/
def State.setLines (s : State) (x : Table LineState 8) : State := { s with lines := x }
/-- The state with another Capacity Unit. -/
def State.setCap (s : State) (x : Capacity) : State := { s with cap := x }
/-- The state with other car records. -/
def State.setCars (s : State) (x : Table (Option CarRecord) 48) : State := { s with cars := x }
/-- The state with another Car Link Controller. -/
def State.setLink (s : State) (x : LinkCtl) : State := { s with link := x }
/-- The state with another Power Account. -/
def State.setAcct (s : State) (x : Account) : State := { s with acct := x }
/-- The state with another history. -/
def State.setHist (s : State) (x : History) : State := { s with hist := x }
/-- The state with another Plan Controller. -/
def State.setPlan (s : State) (x : PlanCtl) : State := { s with plan := x }
/-- The state with another Return Sequencer. -/
def State.setRet (s : State) (x : Returns) : State := { s with ret := x }
/-- The state with another Service Selector. -/
def State.setSvc (s : State) (x : Selector) : State := { s with svc := x }
/-- The state with another Message Port. -/
def State.setPort (s : State) (x : Port) : State := { s with port := x }
/-- The state with other indication levels. -/
def State.setInds (s : State) (x : Table PinLevel 2) : State := { s with inds := x }
/-- The state with another Plan Store. -/
def State.setStore (s : State) (x : Store) : State := { s with store := x }

/-! ## A step in progress -/

/-- Nothing produced yet. -/
def Notes.none : Notes := ⟨false, false, []⟩

/-- The start of a step. -/
def begin (s : State) : Work := ⟨s, Notes.none⟩

/-- The state of a step in progress changed. -/
def Work.up (w : Work) (f : State → State) : Work := { w with st := f w.st }

/-- An event has reached the Return Sequencer (R135). -/
def Work.noteRs (w : Work) : Work := { w with nt := { w.nt with rs := true } }

/-- An event has reached the Service Selector (R156). -/
def Work.noteSs (w : Work) : Work := { w with nt := { w.nt with ss := true } }

/-- An event has reached both. -/
def Work.noteBoth (w : Work) : Work := (w.noteRs).noteSs

/-! ## Device time -/

/-- One millisecond passes (R4). -/
def State.tick (s : State) : State := s.setTime (Time.plus s.time 1)

/-- The moment `ms` from now. -/
def after (s : State) (ms : Nat) : Time := Time.plus s.time ms

/-! ## The report queue (R173, R174) -/

/-- The car of a CAR-POSITION report. -/
def Report.positionOf : Report → Option CarId
  | .carPosition r => some r.car
  | _ => Option.none

/-- The queue with the CAR-POSITION of a car replaced in its place, when it holds one (R173). -/
def replacePosition (c : CarId) (r : Report) : List Report → Option (List Report)
  | [] => Option.none
  | x :: xs => if x.positionOf = some c then some (r :: xs) else (replacePosition c r xs).map (x :: ·)

/-- The queue without its oldest CAR-POSITION, when it holds one (R174). -/
def dropOldestPosition : List Report → Option (List Report)
  | [] => Option.none
  | x :: xs => if x.positionOf.isSome then some xs else (dropOldestPosition xs).map (x :: ·)

/-- A report appended at the tail, or the overflow rule (R173, R174). -/
def Port.append (p : Port) (r : Report) : Port :=
  if p.reports.length < Config.reportRoom then { p with reports := p.reports ++ [r] }
  else
    match dropOldestPosition p.reports with
    | some rest => { p with reports := rest ++ [r] }
    | Option.none => { p with gapFlag := true }

/-- A report placed in the report queue (R173). -/
def Port.place (p : Port) (r : Report) : Port :=
  match r.positionOf with
  | some c =>
    match replacePosition c r p.reports with
    | some reports => { p with reports }
    | Option.none => p.append r
  | Option.none => p.append r

/-- A report queued with the Message Port. -/
def queueReport (s : State) (r : Report) : State := s.setPort (s.port.place r)

/-! ## Command slots (R55, R58, R59) -/

/-- The link state of a car. -/
def carLink (s : State) (c : CarId) : CarLink := s.link.cars.at c

/-- The link state of a car changed. -/
def alterLink (s : State) (c : CarId) (f : CarLink → CarLink) : State :=
  s.setLink { s.link with cars := s.link.cars.alter c f }

/-- The link state of every car changed. -/
def alterLinks (s : State) (f : CarId → CarLink → CarLink) : State :=
  s.setLink { s.link with cars := s.link.cars.mapAll f }

/-- The tag counter advanced: from 255 back to 1 (R55). -/
def nextTag (t : Byte) : Byte := if t = 255 then 1 else t + 1

/-- A command of this kind may be placed in this plan state (R58, R71). -/
def mayPlace (p : PlanState) (k : CmdKind) : Bool :=
  match p with
  | .halted => false
  | .watching => k == .handBack
  | _ => true

/-- A command placed in a car's slot: the next tag, the slot time now, no tries; it replaces a waiting one (R58). -/
def placeCommand (s : State) (c : CarId) (k : CmdKind) (target permit : Option Nat) : State :=
  if enrolled s c && mayPlace s.plan.state k then
    alterLink s c (fun l => { l with slot := some ⟨k, target, l.nextTag, s.time, 0, permit⟩, nextTag := nextTag l.nextTag })
  else s

/-- A command without target or permit placed (R58). -/
def place (s : State) (c : CarId) (k : CmdKind) : State := placeCommand s c k Option.none Option.none

/-- A slot without its command when that satisfies `p`. -/
def CarLink.dropIf (p : CmdKind → Bool) (l : CarLink) : CarLink :=
  match l.slot with
  | some cmd => if p cmd.kind then { l with slot := Option.none } else l
  | Option.none => l

/-- A waiting command of these kinds removed from a car's slot (R59). -/
def removeCommand (s : State) (c : CarId) (p : CmdKind → Bool) : State := alterLink s c (CarLink.dropIf p)

/-- A car's slot emptied. -/
def emptySlot (s : State) (c : CarId) : State := removeCommand s c (fun _ => true)

/-! ## Car records -/

/-- A car's record changed, if it has one. -/
def alterCar (s : State) (c : CarId) (f : CarRecord → CarRecord) : State :=
  s.setCars (s.cars.alter c (Option.map f))

/-- Every record changed. -/
def alterCars (s : State) (f : CarId → CarRecord → CarRecord) : State :=
  s.setCars (s.cars.mapAll (fun c r => r.map (f c)))

/-- A record in another state; the failure reason is present in FAILED only (Table 3-2). -/
def CarRecord.goTo (st : CarState) (r : CarRecord) : CarRecord :=
  { r with state := st, failure := if st = .failed then r.failure else Option.none }

/-- A silent hold timer stopped unless the state is SILENT (R70). -/
def CarLink.leaveSilent (st : CarState) (l : CarLink) : CarLink :=
  if st = .silent then l else { l with silentHold := Option.none }

/-- A car moved to a state; its silent hold timer stops when it is not SILENT (R70). -/
def moveCar (s : State) (c : CarId) (st : CarState) : State :=
  alterLink (alterCar s c (CarRecord.goTo st)) c (CarLink.leaveSilent st)

/-- A car moved to FAILED with a reason (R40, R70). -/
def failCar (s : State) (c : CarId) (why : FailReason) : State :=
  alterCar (moveCar s c .failed) c (fun r => { r with failure := some why })

/-- PARK outstanding cleared for a car. -/
def clearPark (s : State) (c : CarId) : State := alterCar s c (fun r => { r with parkOut := false })

/-- An attempt consumed: attempts used raised by one, to at most 5 (R145). -/
def consumeAttempt (s : State) (c : CarId) : State :=
  alterCar s c (fun r => { r with attempts := min 5 (r.attempts + 1) })

/-- A field that a CAR-STATE report is for differs (R38). -/
def carChanged (old new : CarRecord) : Bool :=
  old.state != new.state || old.authority != new.authority || old.linkStatus != new.linkStatus
    || old.occupied != new.occupied || old.holdOut != new.holdOut || old.attempts != new.attempts
    || old.faultCode != new.faultCode

/-- The CAR-STATE report of a car whose record was `old` before the event (R38). -/
def carReport (s : State) (c : CarId) (old new : CarRecord) (cause : CarCause) (decline : Option Decline) : Report :=
  .carState
    { car := c, before := old.state, after := new.state, cause, authority := new.authority, linkStatus := new.linkStatus,
      occupied := new.occupied, holdOut := new.holdOut, attempts := new.attempts,
      failure := if new.state = .failed then new.failure else Option.none, faultCode := new.faultCode, decline,
      permit := (entryOf s c).map (·.permit) }

/-- A CAR-STATE report queued when a field it is for has changed, or the event is a decline (R38). -/
def reportCar (s : State) (c : CarId) (old : Option CarRecord) (cause : CarCause) (decline : Option Decline) : State :=
  match old, record s c with
  | some before, some now =>
    if carChanged before now || decline.isSome then queueReport s (carReport s c before now cause decline) else s
  | _, _ => s

/-- A CAR-STATE report queued whatever has changed, where a rule of another block calls for it (R160). -/
def reportAlways (s : State) (c : CarId) (old : Option CarRecord) (cause : CarCause) : State :=
  match old, record s c with
  | some before, some now => queueReport s (carReport s c before now cause none)
  | _, _ => s

/-- CAR-STATE reports queued in ascending car number for every car changed since the records were `old` (R118, R119, R125,
R128). -/
def reportChanged (s : State) (old : Table (Option CarRecord) 48) (cause : CarCause) : State :=
  (indices 48).foldl (fun acc c => reportCar acc c (old.at c) cause Option.none) s

/-! ## Markers of the Plan Controller -/

/-- A car put in the retransfer-cancelled set or taken from it (R127). -/
def setCancelled (s : State) (c : CarId) (b : Bool) : State :=
  s.setPlan { s.plan with cancelled := s.plan.cancelled.put c b }

/-- A car's hand-back marker set or cleared (R128). -/
def setOwed (s : State) (c : CarId) (b : Bool) : State := s.setPlan { s.plan with owed := s.plan.owed.put c b }

/-- A step over every car of a list, in order. -/
def overCars (s : State) (cars : List CarId) (f : State → CarId → State) : State := cars.foldl f s

/-- The enrolled cars in ascending number. -/
def enrolledCars (s : State) : List CarId := (indices 48).filter (enrolled s)

/-! ## The end of a step -/

/-- Both indication lines driven from their settings and conditions (R178). -/
def driveLines (s : State) : State := s.setInds (Table.tabulate (fun i => indLevel s (s.setup.inds.at i)))

end Sys2Proof.Machine
end

