-- ==== Sys2Proof/Machine/Demand.lean ====
section
/-! DEFINITION. The Demand Calculator (05). -/

namespace Sys2Proof.Machine

/-- A division rounded up: the quotient increased by one when the remainder is not zero (R88). -/
def divUp (n d : Nat) : Nat := if n % d = 0 then n / d else n / d + 1

/-- The signed imbalance of an up or down run (R80). A load above 125 is taken as 125 (R79). -/
def imbalance (up : Bool) (load balance : Nat) : Int :=
  if up then (min load 125 : Nat) - (balance : Int) else (balance : Int) - (min load 125 : Nat)

/-- A share in per mille of rated power, capped at 1500 (R81). -/
def share (points balance : Nat) : Nat := min 1500 (divUp (points * 1000) (100 - balance))

/-- The motoring share (R81). -/
def motoringShare (m : Int) (balance : Nat) : Nat := share m.toNat balance

/-- The regenerating share (R81). -/
def regenShare (m : Int) (balance : Nat) : Nat := share (-m).toNat balance

/-- The run draw (R82). -/
def runDraw (p : CarProfile) (m : Int) : Nat := divUp (p.power * (motoringShare m p.balance + p.loss)) 1000

/-- The start draw, with the acceleration floor of 200 per mille (R83). -/
def startDraw (p : CarProfile) (m : Int) : Nat :=
  divUp (p.power * (max (motoringShare m p.balance) 200 + p.loss) * p.inrush) 100000

/-- The regeneration; 0 for a car that is not regen capable (R84, R78). -/
def regeneration (p : CarProfile) (m : Int) : Nat :=
  if p.regenCapable then divUp (p.power * regenShare m p.balance * p.efficiency) 100000 else 0

/-- The load at which an unknown load's draws are computed (R85). -/
def drawLoad (up : Bool) : Nat := if up then 125 else 0

/-- The load at which an unknown load's regeneration is computed (R85). -/
def regenLoad (up : Bool) : Nat := if up then 0 else 125

/-- RUN figures of an up or down run at a known load, or by R85 at an unknown one. -/
def directedFigures (p : CarProfile) (up : Bool) (load : Option Nat) : RunFigures :=
  let atDraw := imbalance up (load.getD (drawLoad up)) p.balance
  let atRegen := imbalance up (load.getD (regenLoad up)) p.balance
  ⟨startDraw p atDraw, runDraw p atDraw, regeneration p atRegen⟩

/-- The larger of each figure (R86). -/
def largerFigures (x y : RunFigures) : RunFigures :=
  ⟨max x.startDraw y.startDraw, max x.runDraw y.runDraw, max x.regen y.regen⟩

/-- The direction of a run from a reported floor to a target (R79). -/
def directionOf (floor target : Nat) : Direction :=
  if floor < target then .up else if target < floor then .down else .level

/-- RUN figures (R76, R85, R86). -/
def runFigures (p : CarProfile) (d : Direction) (load : Option Nat) : RunFigures :=
  match d with
  | .up => directedFigures p true load
  | .down => directedFigures p false load
  | .level => largerFigures (directedFigures p true load) (directedFigures p false load)

/-- WORST figures (R87). -/
def worstFigures (p : CarProfile) : WorstFigures where
  draw := max (startDraw p (imbalance true 125 p.balance)) (startDraw p (imbalance false 0 p.balance))
  regen := max (regeneration p (imbalance true 0 p.balance)) (regeneration p (imbalance false 125 p.balance))

/-- The RUN figures of a car toward its recall floor, with the direction they assume; none without a reported floor
(R79, R89). -/
def recallRun (s : State) (c : CarId) : Option RunView :=
  (record s c).bind fun r => r.floor.map fun floor =>
    let d := directionOf floor (profile s c).recallFloor
    ⟨runFigures (profile s c) d r.load, r.load, d⟩

/-- The WORST figures of a car. -/
def worstOf (s : State) (c : CarId) : WorstFigures := worstFigures (profile s c)

end Sys2Proof.Machine
end

