-- ==== Sys2Proof/Machine/Ring.lean ====
section
/-! DEFINITION. The history ring and its capture record (section 6.8 of 06). -/

namespace Sys2Proof.Machine

/-- What a sample records (R105). -/
def sampleOf (s : State) : Sample where
  time := s.time
  c := s.cap.c
  sink := s.cap.sink
  kd := s.acct.kd
  kr := s.acct.kr
  entries := s.acct.entries.length
  plan := s.plan.state
  drawOver := s.acct.drawOver
  regenOver := s.acct.regenOver
  settling := !settled s
  derated := derated s

/-- The window start (Table 6-4). -/
def CaptureRecord.start (r : CaptureRecord) : Nat := (r.index + Config.ringSize - r.pre) % Config.ringSize

/-- The window length (Table 6-4). -/
def CaptureRecord.length (r : CaptureRecord) : Nat := r.pre + r.post

/-- A slot lies in the window (Table 6-4). -/
def CaptureRecord.inside (r : CaptureRecord) (slot : Nat) : Bool :=
  decide ((slot + Config.ringSize - r.start) % Config.ringSize < r.length)

/-- The contents of CAPTURE-DONE and CAPTURE-STALE (R108). -/
def CaptureRecord.report (r : CaptureRecord) : CaptureReport := ⟨r.trigger, r.time, r.start, r.length⟩

/-- A sample written to the slot at the write index (R105). A write index of 512 or more cannot arise. -/
def History.write (h : History) (x : Sample) : History :=
  { h with
    slots := if hi : h.writeIndex < 512 then h.slots.put ⟨h.writeIndex, hi⟩ (some x) else h.slots
    writeIndex := (h.writeIndex + 1) % Config.ringSize
    held := min Config.ringSize (h.held + 1) }

/-- What a sample written at `slot` does to the capture record, with the report it queues (R108). -/
def CaptureRecord.afterSample (r : CaptureRecord) (slot : Nat) : CaptureRecord × Option Report :=
  match r.state with
  | .collecting =>
    let r1 := { r with collected := r.collected + 1 }
    if r1.collected = r1.post then ({ r1 with state := .complete }, some (.captureDone r1.report)) else (r1, none)
  | .complete =>
    if r.inside slot then
      let r1 := { r with overwritten := min r.length (r.overwritten + 1), state := .stale }
      (r1, some (.captureStale r1.report))
    else (r, none)
  | .stale =>
    if r.inside slot then ({ r with overwritten := min r.length (r.overwritten + 1) }, none) else (r, none)

/-- A sample taken, and what it does to the capture record (R105, R108). -/
def takeSample (s : State) : State :=
  let h := s.hist.write (sampleOf s)
  match s.hist.capture with
  | some r =>
    let after := r.afterSample s.hist.writeIndex
    let s1 := s.setHist { h with capture := some after.1 }
    match after.2 with
    | some rep => queueReport s1 rep
    | none => s1
  | none => s.setHist h

/-- The sample timer started with the sample period, or stopped when the ring is frozen (R105, R108). -/
def rearmSampling (s : State) : State :=
  s.setHist { s.hist with timer := if frozen s.hist then none else some (after s s.setup.limits.samplePeriod) }

/-- Sampling starts: a sample at once, then the timer; not while HALTED or frozen (R105). -/
def startSampling (s : State) : State :=
  if s.plan.state = .halted || frozen s.hist then s else rearmSampling (takeSample s)

/-- Sampling stops (R105). -/
def stopSampling (s : State) : State := s.setHist { s.hist with timer := none }

/-- A trigger kind is enabled in the settings (R107). -/
def triggerEnabled (l : Limits) : Trigger → Bool
  | .setTrip => l.onTrip
  | .drawOvercommit => l.onDraw
  | .host => l.onHost

/-- The capture state and mode let a trigger be taken (the table of R107). -/
def captureOpen : Option CaptureRecord → Bool
  | none => true
  | some r =>
    match r.state with
    | .collecting => false
    | .complete => r.mode == .repeated && !r.freeze
    | .stale => r.mode == .repeated

/-- An offered trigger would be taken (R107). -/
def triggerTaken (s : State) (t : Trigger) : Bool := triggerEnabled s.setup.limits t && captureOpen s.hist.capture

/-- A capture trigger taken or ignored (R107). -/
def offerTrigger (s : State) (t : Trigger) : State :=
  if triggerTaken s t then
    let l := s.setup.limits
    s.setHist
      { s.hist with
        capture := some ⟨.collecting, t, s.time, s.hist.writeIndex, l.pre, l.post, l.freeze, l.captureMode, 0, 0⟩ }
  else s

/-- The window position at an offset holds a sample of the window (R110). -/
def windowSample (h : History) (r : CaptureRecord) (offset : Nat) : Option Sample :=
  if offset < r.overwritten then none
  else if r.state = .collecting && decide (r.pre + r.collected ≤ offset) then none
  else
    let slot := (r.start + offset) % 512
    h.slots.at ⟨slot, Nat.mod_lt _ (by decide)⟩

/-- The low `n` bytes of a number, least significant first (00_scope.md, Layouts). -/
def bytesOf : Nat → Nat → List Byte
  | 0, _ => []
  | n + 1, x => BitVec.ofNat 8 x :: bytesOf n (x / 256)

/-- The code of a plan state in a sample (Table 6-3). HALTED, which no sample records, has none there and is 0. -/
def planCode : PlanState → Nat
  | .halted => 0
  | .watching => 1
  | .outage => 2
  | .settling => 3
  | .returning => 4
  | .service => 5
  | .restoring => 6

/-- A bit at a place. -/
def bitAt (b : Bool) (place : Nat) : Nat := if b then 2 ^ place else 0

/-- A sample as READ-HISTORY carries it: 15 bytes (Table 6-3). -/
def Sample.encode (x : Sample) : List Byte :=
  bytesOf 4 x.time.toNat
    ++ bytesOf 3 (x.c + planCode x.plan * 2 ^ 20 + bitAt x.settling 23)
    ++ bytesOf 3 (x.sink + x.entries * 2 ^ 18)
    ++ bytesOf 5 (min 1048575 x.kd + x.kr * 2 ^ 20 + bitAt x.derated 39)

end Sys2Proof.Machine
end

