-- ==== Sys2Proof/Machine/Ledger.lean ====
section
/-! DEFINITION. The Power Account (06): the permit table, the committed totals, admission, release, overcommit and shedding. -/

namespace Sys2Proof.Machine

/-! ## The permit table and its totals (R90 to R92) -/

/-- The first free permit number from `n` on, passing over numbers in the table (R91). -/
def freePermit (used : List Nat) : Nat → Nat → Nat
  | 0, n => n
  | fuel + 1, n => if used.contains n then freePermit used fuel (if n ≥ 65535 then 1 else n + 1) else n

/-- The permit number a new entry takes (R91). -/
def takenPermit (a : Account) : Nat := freePermit (a.entries.map (·.permit)) a.entries.length a.nextPermit

/-- The counter after a permit number was taken: from 65535 to 1 (R91). -/
def permitAfter (n : Nat) : Nat := if n ≥ 65535 then 1 else n + 1

/-- A new entry appended, with its permit number taken; the totals rise by its reservations (R90 to R92). -/
def Account.add (a : Account) (e : Entry) : Account :=
  let n := takenPermit a
  { a with
    entries := a.entries ++ [{ e with permit := n }]
    kd := a.kd + e.draw
    kr := a.kr + e.regen
    nextPermit := permitAfter n }

/-- The list with its first element that satisfies `p` changed. -/
def alterFirst {α : Type} (p : α → Bool) (f : α → α) : List α → List α
  | [] => []
  | x :: xs => if p x then f x :: xs else x :: alterFirst p f xs

/-- A car's entry changed in its place; the totals change by the difference (R90, R92). -/
def Account.change (a : Account) (c : CarId) (f : Entry → Entry) : Account :=
  match a.entries.find? (fun e => e.car == c) with
  | some e =>
    { a with
      entries := alterFirst (fun x => x.car == c) f a.entries
      kd := a.kd - e.draw + (f e).draw
      kr := a.kr - e.regen + (f e).regen }
  | none => a

/-- A car's entry removed; the totals fall by its reservations (R90, R92). -/
def Account.remove (a : Account) (c : CarId) : Account :=
  match a.entries.find? (fun e => e.car == c) with
  | some e =>
    { a with
      entries := a.entries.eraseP (fun x => x.car == c)
      kd := a.kd - e.draw
      kr := a.kr - e.regen }
  | none => a

/-- Every entry removed at once; the totals become 0 (R99). -/
def Account.cleared (a : Account) : Account := { a with entries := [], kd := 0, kr := 0 }

/-! ## Changes of one entry -/

/-- An entry that R97 moves to STOP phase: RETURN in START or RUN, SERVICE in HOLDING. -/
def Entry.movable (e : Entry) : Bool :=
  (e.kind == .returning && (e.phase == .start || e.phase == .run)) || e.designates

/-- An entry in STOP phase with a cause; both reservations stay (R97). -/
def Entry.toStop (cause : StopCause) (e : Entry) : Entry :=
  { e with phase := .stop, stopCause := some cause, window := none, deadline := none }

/-- An entry stepped to RUN phase: its draw becomes its run draw (R95). -/
def Entry.toRun (e : Entry) : Entry := { e with phase := .run, draw := e.runDraw.getD e.draw, window := none }

/-- An entry converted to STANDING with WORST figures; number and grant time are kept (R94, R44). -/
def Entry.toStanding (f : WorstFigures) (e : Entry) : Entry :=
  { e with
    kind := .standing, phase := .fixed, stopCause := none, draw := f.draw, regen := f.regen, runDraw := none,
    target := none, window := none, deadline := none }

/-- The service record of a car discarded: its designation has ended (R155). -/
def endDesignation (s : State) (c : CarId) : State :=
  s.setSvc { s.svc with records := s.svc.records.put c none }

/-- A car's entry moved to STOP phase, when R97 moves it; a designation ends with it (R97, R155). -/
def moveToStop (w : Work) (c : CarId) (cause : StopCause) : Work :=
  match entryOf w.st c with
  | some e =>
    if e.movable then
      let w1 := w.up (fun s => s.setAcct (s.acct.change c (Entry.toStop cause)))
      if e.designates then (w1.up (fun s => endDesignation s c)).noteSs else w1
    else w
  | none => w

/-! ## Easing (R100, R161) -/

/-- Notice that the account has eased: the Service Selector reads C and S, and a rise of either clears every set-aside marker
(R161); both granting blocks are reached (R135, R156). -/
def noteEased (w : Work) : Work :=
  (w.up (fun s =>
    let risen := decide (s.svc.lastC < s.cap.c) || decide (s.svc.lastS < s.cap.sink)
    s.setSvc
      { s.svc with
        setAside := if risen then Table.const 48 none else s.svc.setAside
        lastC := s.cap.c
        lastS := s.cap.sink })).noteBoth

/-! ## Overcommit and shedding (R100 to R103) -/

/-- Insertion by a comparison that says the first goes before the second. -/
def insertBy {α : Type} (before : α → α → Bool) (x : α) : List α → List α
  | [] => [x]
  | y :: ys => if before x y then x :: y :: ys else y :: insertBy before x ys

/-- A list in the order of a comparison. -/
def sortBy {α : Type} (before : α → α → Bool) : List α → List α
  | [] => []
  | x :: xs => insertBy before x (sortBy before xs)

/-- Candidates for shedding in order: SERVICE entries by descending rank, then START entries and RUN entries, the most recent
grant first (R101). -/
def shedCandidates (s : State) : List Entry :=
  sortBy (fun x y => decide ((profile s y.car).rank ≤ (profile s x.car).rank)) (s.acct.entries.filter Entry.designates)
    ++ (s.acct.entries.filter Entry.starting).reverse
    ++ (s.acct.entries.filter (fun e => e.kind == .returning && e.phase == .run)).reverse

/-- The candidates taken while the projection is greater than the limit, and the projection that remains (R101). -/
def chooseSheds (amount : Entry → Nat) (limit : Nat) : Nat → List Entry → List Entry × Nat
  | projection, [] => ([], projection)
  | projection, e :: rest =>
    if limit < projection then
      let more := chooseSheds amount limit (projection - amount e) rest
      (e :: more.1, more.2)
    else ([], projection)

/-- Chosen entries moved to STOP phase with cause SHED (R97, R101). -/
def shedAll (w : Work) (chosen : List Entry) : Work :=
  let w1 := chosen.foldl (fun acc e => moveToStop acc e.car .shed) w
  { w1 with nt := { w1.nt with sheds := w1.nt.sheds ++ chosen.map (·.car) } }

/-- What a shedding run has done: whom it shed, and whether it ended above the limit. -/
structure ShedRun where
  shed : List Entry
  exhausted : Bool

/-- No shedding run. -/
def noRun : ShedRun := ⟨[], false⟩

/-- Draw shedding, when draw overcommit is set (R101). -/
def shedDraw (w : Work) : Work × ShedRun :=
  if w.st.acct.drawOver then
    let r := chooseSheds (·.draw) w.st.cap.c (projectedDraw w.st.acct) (shedCandidates w.st)
    (shedAll w r.1, ⟨r.1, decide (w.st.cap.c < r.2)⟩)
  else (w, noRun)

/-- Regen shedding, when regen overcommit is set (R102). -/
def shedRegen (w : Work) : Work × ShedRun :=
  if w.st.acct.regenOver then
    let r := chooseSheds (·.regen) w.st.cap.sink (projectedRegen w.st.acct)
      ((shedCandidates w.st).filter (fun e => decide (0 < e.regen)))
    (shedAll w r.1, ⟨r.1, decide (w.st.cap.sink < r.2)⟩)
  else (w, noRun)

/-- An alert from the account (R103). -/
def alertOf (s : State) (cause : AlertCause) (shed : List ShedEntry) : Report :=
  .alert
    { cause, time := s.time, c := s.cap.c, sink := s.cap.sink, kd := s.acct.kd, kr := s.acct.kr,
      projectedDraw := projectedDraw s.acct, projectedRegen := projectedRegen s.acct, drawOver := s.acct.drawOver,
      regenOver := s.acct.regenOver, shed }

/-- The causes to report for one event, in the order of R103's table; DESIGN CHOICE: of two SHED-EXHAUSTED draw goes first (log 44).
`old` is the account before the event. -/
def alertCauses (old new : Account) (drawRun regenRun : ShedRun) : List AlertCause :=
  (if !old.drawOver && new.drawOver then [.drawOvercommit] else [])
    ++ (if old.drawOver && !new.drawOver then [.drawRecovered] else [])
    ++ (if !old.regenOver && new.regenOver then [.regenOvercommit] else [])
    ++ (if old.regenOver && !new.regenOver then [.regenRecovered] else [])
    ++ (if drawRun.exhausted && !old.drawExhausted then [.shedExhausted .draw] else [])
    ++ (if regenRun.exhausted && !old.regenExhausted then [.shedExhausted .regen] else [])

/-- Both flags set or cleared to match the totals (R100). -/
def Account.flagged (a : Account) (c sink : Nat) : Account :=
  { a with drawOver := decide (c < a.kd), regenOver := decide (sink < a.kr) }

/-- An event completed within the account: flags, shedding, alerts, capture trigger, and the notice that it has eased when it
has (R100). The hand-on of shed entries to the Car Table is left in the notes. -/
def settleAccount (w : Work) (eased : Bool) : Work :=
  let old := w.st.acct
  let w1 := w.up (fun s => s.setAcct (s.acct.flagged s.cap.c s.cap.sink))
  let d := shedDraw w1
  let r := shedRegen d.1
  let shed := (d.2.shed ++ r.2.shed).map (fun e => (⟨e.permit, e.car⟩ : ShedEntry))
  let w2 := r.1.up (fun s =>
    s.setAcct { s.acct with drawExhausted := d.2.exhausted, regenExhausted := r.2.exhausted })
  let w3 := w2.up (fun s =>
    (alertCauses old s.acct d.2 r.2).foldl (fun acc cause => queueReport acc (alertOf acc cause shed)) s)
  let w4 := if !old.drawOver && w3.st.acct.drawOver then w3.up (fun s => offerTrigger s .drawOvercommit) else w3
  if eased then noteEased w4 else w4

/-- A shed entry's car stopped: STOP-NEXT in the slot; the car goes STOPPING with cause SHED, or stays SILENT (R100). -/
def stopShed (s : State) (c : CarId) : State :=
  let s1 := place s c .stopNext
  match record s c with
  | some r => if r.state = .silent then s1 else reportCar (moveCar s1 c .stopping) c (some r) .shed none
  | none => s1

/-- A shed entry handed to the Car Table; a choice is withdrawn when the entry has left the shed set meanwhile (R44, R94, R100). -/
def handShed (s : State) (c : CarId) : State :=
  match entryOf s c with
  | some e => if e.isShed then stopShed s c else s
  | none => s

/-- All shed entries not yet handed on are handed to the Car Table (R100). -/
def handSheds (w : Work) : Work :=
  { st := overCars w.st w.nt.sheds handShed, nt := { w.nt with sheds := [] } }

/-! ## Admission (R93) -/

/-- The first test of R93 that an admission request fails. -/
def admitRefusal (s : State) (c : CarId) (draw regen : Nat) : Option AdmitRefusal :=
  if (entryOf s c).isSome then some .duplicate
  else if !settled s then some .unsettled
  else if overcommitted s then some .overcommit
  else if s.cap.c < s.acct.kd + draw then some .draw
  else if s.cap.sink < s.acct.kr + regen then some .regen
  else none

/-- A RETURN entry in START phase (R93, R138). -/
def returnEntry (s : State) (c : CarId) (f : RunFigures) (deadline : Time) : Entry where
  permit := 0
  car := c
  kind := .returning
  phase := .start
  stopCause := none
  draw := f.startDraw
  regen := f.regen
  runDraw := some f.runDraw
  target := some (profile s c).recallFloor
  grantTime := s.time
  window := some ⟨after s (profile s c).startWindow, false⟩
  deadline := some deadline

/-- A SERVICE entry in HOLDING phase (R93, R157). -/
def serviceEntry (s : State) (c : CarId) (f : WorstFigures) : Entry where
  permit := 0
  car := c
  kind := .service
  phase := .holding
  stopCause := none
  draw := f.draw
  regen := f.regen
  runDraw := none
  target := none
  grantTime := s.time
  window := none
  deadline := none

/-- A STANDING or ADOPTED entry with WORST figures (R94). -/
def untestedEntry (s : State) (c : CarId) (adopted : Bool) : Entry where
  permit := 0
  car := c
  kind := if adopted then .adopted else .standing
  phase := if adopted then .stop else .fixed
  stopCause := if adopted then some .adoption else none
  draw := (worstOf s c).draw
  regen := (worstOf s c).regen
  runDraw := none
  target := none
  grantTime := s.time
  window := none
  deadline := none

/-- An entry added for a car that holds none, and the event completed in the account; a car that holds one keeps it (R90). -/
def enterEntry (w : Work) (e : Entry) : Work :=
  if (entryOf w.st e.car).isSome then w
  else settleAccount (w.up (fun s => s.setAcct (s.acct.add e))) false

/-- A STANDING or ADOPTED entry entered without the tests (R94). -/
def enterUntested (w : Work) (c : CarId) (adopted : Bool) : Work := enterEntry w (untestedEntry w.st c adopted)

/-! ## Steps, conversions, releases -/

/-- A START-phase entry stepped to RUN phase; the account eases (R95). -/
def stepEntry (w : Work) (c : CarId) : Work :=
  settleAccount (w.up (fun s => s.setAcct (s.acct.change c Entry.toRun))) true

/-- RUN-TO and SERVE, the commands that belong to a RETURN or SERVICE entry (R59). -/
def isGrantCommand (k : CmdKind) : Bool := k == .runTo || k == .serve

/-- A car's entry converted in place to STANDING with WORST figures, without the tests (R94, R44); RUN-TO or SERVE leaves the
slot (R59), and a designation ends (R155). -/
def convertEntry (w : Work) (c : CarId) : Work :=
  match entryOf w.st c with
  | some e =>
    let w1 := w.up (fun s => removeCommand s c isGrantCommand)
    let w2 := if e.designates then (w1.up (fun s => endDesignation s c)).noteSs else w1
    settleAccount (w2.up (fun s => s.setAcct (s.acct.change c (Entry.toStanding (worstOf s c))))) false
  | none => w

/-- A car's entry released: removed from the table, its obsolete commands from the slot, a designation ended, and the event
completed in the account, which eases (R98, R59, R155). Nothing is done for a car without an entry. -/
def releaseEntry (w : Work) (c : CarId) : Work :=
  match entryOf w.st c with
  | some e =>
    let own : CmdKind → Bool := fun k =>
      k == .stopNext || ((e.kind == .returning || e.kind == .service) && isGrantCommand k)
    let w1 := w.up (fun s => removeCommand s c own)
    let w2 := if e.designates then (w1.up (fun s => endDesignation s c)).noteSs else w1
    settleAccount (w2.up (fun s => s.setAcct (s.acct.remove c))) true
  | none => w

/-- The permit table cleared on a plan state change: one event, no outcome for any entry (R99). -/
def clearTable (w : Work) : Work := settleAccount (w.up (fun s => s.setAcct s.acct.cleared)) false

end Sys2Proof.Machine
end

