-- ==== Sys2Proof/Machine/Queue.lean ====
section
/-! DEFINITION. The return queue and release group as lists: order, enqueue, departure (sections 8.1, 8.5 and 8.7 of 08). -/

namespace Sys2Proof.Machine

/-- An item's age: the next enqueue sequence less the item's, modulo 2^32 (R131). -/
def QueueItem.age (next : BitVec 32) (x : QueueItem) : Nat := (next - x.seq).toNat

/-- `x` stands before `y` in the queue (R131). -/
def queueBefore (next : BitVec 32) (x y : QueueItem) : Bool :=
  if x.cls ≠ y.cls then decide (x.cls < y.cls)
  else if x.front ≠ y.front then x.front
  else if !x.front && x.occupied != y.occupied then x.occupied
  else decide (y.age next < x.age next)

/-- The state with another queue. -/
def setQueue (s : State) (q : List QueueItem) : State := s.setRet { s.ret with queue := q }

/-- The state with another release group. -/
def setGroup (s : State) (g : List StagedCar) : State := s.setRet { s.ret with group := g }

/-- An item inserted at the place R131 gives. -/
def insertItem (s : State) (x : QueueItem) : State :=
  setQueue s (insertBy (queueBefore s.ret.nextSeq) x s.ret.queue)

/-- A car enqueued with a new sequence, with or without a front mark (R132). -/
def enqueue (w : Work) (c : CarId) (front : Bool) : Work :=
  (w.up (fun s =>
    let s1 := s.setRet { s.ret with nextSeq := s.ret.nextSeq + 1 }
    insertItem s1
      { car := c, cls := (profile s c).returnClass, front, occupied := ((record s c).map (·.occupied)).getD true,
        seq := s.ret.nextSeq, passed := 0 })).noteRs

/-- A car is in the queue or the group. -/
def inReturns (r : Returns) (c : CarId) : Bool := r.queue.any (fun x => x.car == c) || r.group.any (fun x => x.car == c)

/-- The queue and group without a car (R133, R144). -/
def Returns.without (r : Returns) (c : CarId) : Returns :=
  { r with queue := r.queue.filter (fun x => x.car != c), group := r.group.filter (fun x => x.car != c) }

/-- A car leaves the queue or the group, if it is in one; both granting blocks are reached (R133, R135, R144, R156). -/
def leaveReturns (w : Work) (c : CarId) : Work :=
  if inReturns w.st.ret c then (w.up (fun s => s.setRet (s.ret.without c))).noteBoth else w

/-- A queued car's occupied flag changed: the field is updated, and an item without a front mark moves to its new place
(R133). -/
def reorderItem (w : Work) (c : CarId) (occupied : Bool) : Work :=
  match w.st.ret.queue.find? (fun x => x.car == c) with
  | some x =>
    if x.front then
      w.up (fun s => setQueue s (alterFirst (fun y => y.car == c) (fun y => { y with occupied }) s.ret.queue))
    else
      (w.up (fun s =>
        insertItem (setQueue s (s.ret.queue.filter (fun y => y.car != c))) { x with occupied })).noteRs
  | none => w

/-- RUN figures of a car toward its recall floor; zero figures without a reported floor, which no queued car lacks (R79). -/
def figuresFor (s : State) (c : CarId) : RunFigures := ((recallRun s c).map (·.figures)).getD ⟨0, 0, 0⟩

/-- A staged car's figures requested again at its new load (R144). -/
def recomputeStaged (w : Work) (c : CarId) : Work :=
  if w.st.ret.group.any (fun x => x.car == c) then
    (w.up (fun s =>
      setGroup s (alterFirst (fun x => x.car == c) (fun x => { x with figures := figuresFor s c }) s.ret.group))).noteRs
  else w

/-- The sum of the staged start draws (R140). -/
def groupDraw (g : List StagedCar) : Nat := (g.map (·.figures.startDraw)).sum

/-- The sum of the staged regenerations (R140). -/
def groupRegen (g : List StagedCar) : Nat := (g.map (·.figures.regen)).sum

/-- The spacing timer started or restarted (R139). -/
def startSpacing (s : State) : State :=
  s.setRet { s.ret with spacing := some (after s s.setup.limits.spacing) }

/-- The queue and group emptied by the plan: the spacing timer stops, the sequence counter is kept (R150). -/
def emptyReturns (s : State) : State := s.setRet { s.ret with queue := [], group := [], spacing := none }

end Sys2Proof.Machine
end

