-- ==== Sys2Proof/Machine/CarTable.lean ====
section
/-! DEFINITION. The Car Table (03): the evaluation rule, adoption, what a status reply does in each car state, verdicts on PARK.
Each operation here leaves the CAR-STATE report of its car to its caller, which knows the record before the event. -/

namespace Sys2Proof.Machine

/-! ## The evaluation rule (R40) -/

/-- HOLD placed and the car moved to a state. -/
def holdAs (s : State) (c : CarId) (st : CarState) : State := moveCar (place s c .hold) c st

/-- A STANDING entry entered and the car DEFERRED (R39, R40 step 1, R43). -/
def deferCar (w : Work) (c : CarId) : Work := (enterUntested w c false).up (fun s => moveCar s c .deferred)

/-- An ADOPTED entry entered, STOP-NEXT placed, the car STOPPING (R39, R43). -/
def adoptCar (w : Work) (c : CarId) : Work :=
  (enterUntested w c true).up (fun s => moveCar (place s c .stopNext) c .stopping)

/-- PARK placed with PARK outstanding, the car IDLE (R40 step 4). -/
def parkCar (s : State) (c : CarId) : State :=
  alterCar (moveCar (place s c .park) c .idle) c (fun r => { r with parkOut := true })

/-- The evaluation rule in full, for a car in contact, stopped and without an entry. A car in the retransfer-cancelled set leaves
it; it gets a front mark when it is queued with a front claim or from that set (R40, R127, R132). DESIGN CHOICE: PARK outstanding is
cleared as the evaluation begins, after a dropped PARK too (log 42). -/
def evaluateFull (w : Work) (c : CarId) (claim : Bool) : Work :=
  match record w.st c with
  | none => w
  | some r =>
    let front := claim || w.st.plan.cancelled.at c
    let w1 := w.up (fun s => setCancelled (clearPark s c) c false)
    if underLocal r then deferCar w1 c
    else if outOfOrder r || r.holdOut then w1.up (fun s => holdAs s c .held)
    else if w1.st.setup.limits.attempts ≤ r.attempts then
      w1.up (fun s => failCar (place s c .hold) c .attempts)
    else if levelAt r (profile w1.st c).recallFloor then w1.up (fun s => parkCar s c)
    else (enqueue w1 c front).up (fun s => moveCar s c .queued)

/-- The SETTLING form of the evaluation rule (R40). -/
def evaluateSettling (w : Work) (c : CarId) : Work :=
  match record w.st c with
  | none => w
  | some r =>
    let w1 := w.up (fun s => clearPark s c)
    if underLocal r then deferCar w1 c
    else if outOfOrder r || r.holdOut then w1.up (fun s => holdAs s c .held)
    else w1.up (fun s => holdAs s c .idle)

/-- The evaluation as the plan state has it: in full in RETURN and SERVICE, the SETTLING form in SETTLING, and in RESTORING IDLE
with HOLD, as the rules that call for it there say (R40, R42, R45, R46, R50). Elsewhere it is not called for. -/
def evaluate (w : Work) (c : CarId) (claim : Bool) : Work :=
  match w.st.plan.state with
  | .returning => evaluateFull w c claim
  | .service => evaluateFull w c claim
  | .settling => evaluateSettling w c
  | .restoring => w.up (fun s => holdAs s c .idle)
  | .halted => w
  | .watching => w
  | .outage => w

/-! ## Stops and their classification (R148) -/

/-- What a stop's classification gives: an attempt consumed, a front claim. -/
structure StopOutcome where
  attempt : Bool
  front : Bool
deriving DecidableEq, Repr

/-- The classification of Table 8-3 for the entry as it was released. -/
def classifyStop (e : Entry) (r : CarRecord) : StopOutcome :=
  if e.kind == .returning && (e.target.map (levelAt r)).getD false then ⟨false, false⟩
  else if e.kind == .returning && e.phase == .run then ⟨true, false⟩
  else if e.stopCause == some .shed || e.stopCause == some .count then ⟨false, true⟩
  else if e.stopCause == some .deadline then ⟨true, false⟩
  else ⟨false, false⟩

/-- A stop handed to the Return Sequencer: an attempt consumed when the class says so; answers the front claim (R145, R148). -/
def handStop (w : Work) (c : CarId) (e : Entry) : Work × Bool :=
  match record w.st c with
  | some r =>
    let o := classifyStop e r
    (if o.attempt then w.up (fun s => consumeAttempt s c) else w, o.front)
  | none => (w, false)

/-- A stop of a car holding a RETURN, SERVICE or ADOPTED entry: release, classification unless RESTORING, evaluation (R42). -/
def stopCar (w : Work) (c : CarId) : Work :=
  match entryOf w.st c with
  | none => w
  | some e =>
    let w1 := releaseEntry w c
    if w1.st.plan.state = .restoring then evaluate w1 c false
    else
      let h := handStop w1 c e
      evaluate h.1 c h.2

/-- An entry released because its start window ended with the car never having moved: an attempt consumed, the car evaluated
(R96, R149). -/
def startExpired (w : Work) (c : CarId) : Work :=
  evaluate ((releaseEntry w c).up (fun s => consumeAttempt s c)) c false

/-! ## A status reply (R35, R36, R42 to R48) -/

/-- The record with a status applied (R35) and occupancy derived (R36). -/
def CarRecord.apply (p : CarProfile) (now : Time) (x : CarStatus) (r : CarRecord) : CarRecord :=
  { r with
    floor := some x.floor
    between := some x.between
    motion := some x.motion
    door := some x.door
    load := x.load.map (min · 125)
    authority := some x.authority
    faultCode := x.fault
    lastStatus := some now
    occupied := match x.load with
      | some l => decide (p.occupiedAt ≤ min l 125)
      | none => true }

/-- A CAR-POSITION report queued when floor, between-floors, motion or door has changed (R37). -/
def reportPosition (s : State) (c : CarId) (old new : CarRecord) : State :=
  if old.floor != new.floor || old.between != new.between || old.motion != new.motion || old.door != new.door then
    queueReport s (.carPosition ⟨c, new.floor, new.between, new.motion, new.door, new.lastStatus⟩)
  else s

/-- A change of load or occupancy handed to the Return Sequencer for a queued or staged car (R36). -/
def handOccupancy (w : Work) (c : CarId) (old new : CarRecord) : Work :=
  match old.state with
  | .queued => if old.occupied != new.occupied then reorderItem w c new.occupied else w
  | .staged => if old.load != new.load then recomputeStaged w c else w
  | _ => w

/-- A status applied to the record, with the position report and the hand-off of occupancy (R35 to R37). -/
def applyStatus (w : Work) (c : CarId) (x : CarStatus) : Work :=
  match record w.st c with
  | none => w
  | some old =>
    let new := old.apply (profile w.st c) w.st.time x
    handOccupancy (w.up (fun s => reportPosition (alterCar s c (fun _ => new)) c old new)) c old new

/-- What a rule of the Car Table made of the event: the work, and the cause it names, if a rule acted. -/
structure Ruled where
  work : Work
  cause : Option CarCause

/-- No rule acted. -/
def unruled (w : Work) : Ruled := ⟨w, none⟩

/-- First contact (R39): a moving car is adopted by its authority. HAND-BACK is placed again in WATCHING for a car owed one (R128). -/
def firstContact (w : Work) (c : CarId) (r : CarRecord) : Ruled :=
  let moving : Ruled := ⟨if underLocal r then deferCar w c else adoptCar w c, some .adoption⟩
  match w.st.plan.state with
  | .halted => unruled w
  | .watching =>
    ⟨w.up (fun s =>
      let s1 := moveCar s c .idle
      if s.plan.owed.at c then place s1 c .handBack else s1), some .contact⟩
  | .outage => ⟨w.up (fun s => holdAs s c .idle), some .contact⟩
  | .settling => if isMoving r then moving else ⟨evaluate w c false, some .contact⟩
  | .returning => if isMoving r then moving else ⟨evaluate w c false, some .contact⟩
  | .service => if isMoving r then moving else ⟨evaluate w c false, some .contact⟩
  | .restoring => if isMoving r then moving else ⟨w.up (fun s => holdAs s c .idle), some .contact⟩

/-- The plan states in which a car without an entry is adopted (R43). -/
def adopts : PlanState → Bool
  | .settling => true
  | .returning => true
  | .service => true
  | .restoring => true
  | .halted => false
  | .watching => false
  | .outage => false

/-- The plan states in which an authority change of a car without an entry is acted on (R47). -/
def evaluates : PlanState → Bool
  | .settling => true
  | .returning => true
  | .service => true
  | .restoring => false
  | .halted => false
  | .watching => false
  | .outage => false

/-- A car taken from the queue or group, with PARK outstanding cleared (R43, R47). -/
def withdraw (w : Work) (c : CarId) : Work := (leaveReturns w c).up (fun s => clearPark s c)

/-- A QUEUED, STAGED, IDLE, PARKED or HELD car has reported (R43, R47): an authority change first, then motion without an
entry. `changed` says the authority differs from the one last recorded. -/
def entrylessRules (w : Work) (c : CarId) (r : CarRecord) (changed : Bool) : Ruled :=
  let p := w.st.plan.state
  if evaluates p && changed && (isStopped r || underLocal r) then
    ⟨evaluate (withdraw w c) c false, some .authority⟩
  else if adopts p && isMoving r then
    if underLocal r then ⟨deferCar (withdraw w c) c, some .authority⟩ else ⟨adoptCar (withdraw w c) c, some .adoption⟩
  else unruled w

/-- A DEFERRED car has reported (R45). -/
def deferredRules (w : Work) (c : CarId) (r : CarRecord) : Ruled :=
  if !underLocal r && isStopped r then ⟨evaluate (releaseEntry w c) c false, some .authority⟩ else unruled w

/-- A reply shows speed (R95). DEDUCED: its at-speed bit shows it whatever its motion, so one with motion STOPPED steps the entry and the
stop is then one in RUN phase (R42, log 43). -/
def showsSpeed (x : CarStatus) : Bool := x.atSpeed || x.motion == .atSpeed || x.motion == .decelerating

/-- What handing a status reply to the Power Account did to a START-phase entry (R95, R96). -/
inductive Handed where
  | stands | stepped | expired
deriving DecidableEq, Repr

/-- What the Power Account does with a status reply from a car holding an entry (R95, R96). -/
def handedOutcome (e : Entry) (x : CarStatus) (r : CarRecord) : Handed :=
  match e.window with
  | some win =>
    if !e.starting then .stands
    else if win.lapsed then
      if isMoving r then .stepped
      else if (e.target.map (levelAt r)).getD false then .stands
      else .expired
    else if showsSpeed x then .stepped
    else .stands
  | none => .stands

/-- The motion rules of R42 once the account has had the reply; `st` is the car's state. -/
def motionRules (w : Work) (c : CarId) (st : CarState) (r : CarRecord) : Ruled :=
  match entryOf w.st c with
  | none => unruled w
  | some e =>
    if !isStopped r then unruled w
    else
      match st with
      | .starting => if (e.target.map (levelAt r)).getD false then ⟨stopCar w c, some .stop⟩ else unruled w
      | .running => ⟨stopCar w c, some .stop⟩
      | .stopping => ⟨stopCar w c, some .stop⟩
      | _ => unruled w

/-- OUT-OF-ORDER reported for a STARTING, RUNNING or SERVING car (R46): the waiting command is removed; a stopped car's entry is
released and the car evaluated, a moving car's entry moves to STOP phase. -/
def outOfOrderRule (w : Work) (c : CarId) (r : CarRecord) : Work :=
  let w1 := w.up (fun s => emptySlot s c)
  if isStopped r then evaluate (releaseEntry w1 c) c false
  else (moveToStop w1 c .authority).up (fun s => moveCar s c .stopping)

/-- A local authority reported by a car holding an entry (R44). -/
def localRule (w : Work) (c : CarId) : Work :=
  (convertEntry (w.up (fun s => emptySlot s c)) c).up (fun s => moveCar s c .deferred)

/-- STARTING, RUNNING or SERVING. -/
def underway (st : CarState) : Bool := st == .starting || st == .running || st == .serving

/-- The car's state after a step: STARTING becomes RUNNING (R42). -/
def steppedState (st : CarState) : CarState := if st = .starting then .running else st

/-- A car holding a RETURN, SERVICE or ADOPTED entry has reported (R42, R44, R46): the account first, then authority, then
motion. `st` is the state the entry gives the car. -/
def runRules (w : Work) (c : CarId) (st : CarState) (x : CarStatus) (r : CarRecord) : Ruled :=
  match entryOf w.st c with
  | none => unruled w
  | some e =>
    match handedOutcome e x r with
    | .expired => ⟨startExpired w c, some .stop⟩
    | h =>
      let st1 := if h = .stepped then steppedState st else st
      let w1 := if h = .stepped then (stepEntry w c).up (fun s => moveCar s c st1) else w
      if underLocal r then ⟨localRule w1 c, some .authority⟩
      else if outOfOrder r && underway st1 then ⟨outOfOrderRule w1 c r, some .authority⟩
      else
        let m := motionRules w1 c st1 r
        ⟨m.work, if m.cause.isSome then m.cause else if h = .stepped then some .step else none⟩

/-- The state that an entry gives a car heard again (R48). -/
def stateFromEntry (e : Entry) : CarState :=
  match e.kind, e.phase with
  | .standing, _ => .deferred
  | .adopted, _ => .stopping
  | .returning, .start => .starting
  | .returning, .run => .running
  | .service, .holding => .serving
  | _, _ => .stopping

/-- The rules of sections 3.5 and 3.6 for a car holding an entry. -/
def entryRules (w : Work) (c : CarId) (st : CarState) (x : CarStatus) (r : CarRecord) : Ruled :=
  if st = .deferred then deferredRules w c r else runRules w c st x r

/-- A SILENT car is heard again (R48). -/
def resume (w : Work) (c : CarId) (x : CarStatus) (r : CarRecord) : Ruled :=
  match entryOf w.st c with
  | none => unruled w
  | some e =>
    let st := stateFromEntry e
    let ruled := entryRules (w.up (fun s => moveCar s c st)) c st x r
    ⟨ruled.work, some .resumption⟩

/-- What the status of a reply calls for, by the state the car had (sections 3.4 to 3.7). `first` says the reply is a first
contact; `old` is the record before the reply. -/
def statusRules (w : Work) (c : CarId) (old : CarRecord) (first : Bool) (x : CarStatus) : Ruled :=
  match record w.st c with
  | none => unruled w
  | some r =>
    if first then firstContact w c r
    else
      match old.state with
      | .silent => resume w c x r
      | .failed => ⟨w, if old.linkStatus = .silent then some .resumption else none⟩
      | .absent => unruled w
      | .idle => entrylessRules w c r (old.authority != r.authority)
      | .queued => entrylessRules w c r (old.authority != r.authority)
      | .staged => entrylessRules w c r (old.authority != r.authority)
      | .parked => entrylessRules w c r (old.authority != r.authority)
      | .held => entrylessRules w c r (old.authority != r.authority)
      | .starting => entryRules w c .starting x r
      | .running => entryRules w c .running x r
      | .stopping => entryRules w c .stopping x r
      | .serving => entryRules w c .serving x r
      | .deferred => entryRules w c .deferred x r

/-! ## PARK verdicts (R41) -/

/-- The car is IDLE with PARK outstanding. -/
def awaitsPark (s : State) (c : CarId) : Bool :=
  match record s c with
  | some r => r.state == .idle && r.parkOut
  | none => false

/-- PARK accepted: the car goes PARKED, an event of the Service Selector (R41, R156). -/
def parkAccepted (w : Work) (c : CarId) : Work :=
  (w.up (fun s => moveCar (clearPark s c) c .parked)).noteSs

/-- PARK declined: an attempt consumed and the car evaluated (R41). -/
def parkDeclined (w : Work) (c : CarId) : Work := evaluate (w.up (fun s => consumeAttempt (clearPark s c) c)) c false

/-- PARK dropped: the car evaluated without consuming an attempt (R41). -/
def parkDropped (w : Work) (c : CarId) : Work := if awaitsPark w.st c then evaluate w c false else w

end Sys2Proof.Machine
end

