-- ==== Sys2Proof/Machine/Sequencer.lean ====
section
/-! DEFINITION. The Return Sequencer's granting work: paced grants, staging and release (sections 8.3 to 8.5 of 08). -/

namespace Sys2Proof.Machine

/-- RETURN or SERVICE, the plan states in which the sequencer grants (R135). -/
def granting (s : State) : Bool := s.plan.state == .returning || s.plan.state == .service

/-- The run allowance in ms, at most 600,000 (R138). -/
def runAllowance (p : CarProfile) (floors margin : Nat) : Nat :=
  min Config.longestRun (divUp ((p.startWindow + floors * p.floorTime + p.doorTime) * (100 + margin)) 100)

/-- The floors between a car and its recall floor, without sign (R138). -/
def floorsToRecall (s : State) (c : CarId) : Nat :=
  match (record s c).bind (·.floor) with
  | some f => (max f (profile s c).recallFloor) - (min f (profile s c).recallFloor)
  | none => 0

/-- The deadline of a run granted now (R138). -/
def deadlineFor (s : State) (c : CarId) : Time :=
  after s (runAllowance (profile s c) (floorsToRecall s c) s.setup.limits.margin)

/-- A RETURN entry admitted with these figures, RUN-TO placed with its permit number, the car STARTING with cause GRANT
(R93, R138, R142). -/
def startRun (w : Work) (c : CarId) (f : RunFigures) : Work :=
  let w1 := enterEntry w (returnEntry w.st c f (deadlineFor w.st c))
  w1.up (fun s =>
    let old := record s c
    let s1 := placeCommand s c .runTo (some (profile s c).recallFloor) ((entryOf s c).map (·.permit))
    reportCar (moveCar s1 c .starting) c old .grant none)

/-! ## Paced granting -/

/-- The conditions of a grant attempt (R136). -/
def mayAttempt (s : State) : Bool :=
  granting s && settled s && !overcommitted s && decide (startingCount s.acct < s.setup.limits.startSlots)
    && s.ret.spacing.isNone && !s.ret.queue.isEmpty

/-- The first item that the walk admits: at most `tries` items, ending at a refused item that has reached the pass limit
(R137). -/
def walk (s : State) : Nat → List QueueItem → Option QueueItem
  | 0, _ => none
  | _ + 1, [] => none
  | tries + 1, x :: rest =>
    let f := figuresFor s x.car
    if (admitRefusal s x.car f.startDraw f.regen).isNone then some x
    else if s.setup.limits.passLimit ≤ x.passed then none
    else walk s tries rest

/-- The queue once the item of a car is granted: it leaves, and each item ahead of it is passed once more, to at most 7
(R137, R138). -/
def grantedFrom (c : CarId) : List QueueItem → List QueueItem
  | [] => []
  | x :: rest => if x.car == c then rest else { x with passed := min 7 (x.passed + 1) } :: grantedFrom c rest

/-- One grant attempt (R136 to R138): the figures are those admission was asked with. -/
def grantAttempt (w : Work) : Work :=
  if mayAttempt w.st then
    match walk w.st (1 + w.st.setup.limits.lookahead) w.st.ret.queue with
    | some x =>
      let f := figuresFor w.st x.car
      let w1 := w.up (fun s => setQueue s (grantedFrom x.car s.ret.queue))
      ((startRun w1 x.car f).up startSpacing).noteSs
    | none => w
  else w

/-! ## Grouped release -/

/-- How many of the queued cars are staged, given the cars staged so far and their start draws (R140). -/
def stageCount (s : State) : Nat → Nat → List QueueItem → Nat
  | _, _, [] => 0
  | staged, draw, x :: rest =>
    let d := (figuresFor s x.car).startDraw
    if staged = 0 || (decide (staged < s.setup.limits.groupSize) && decide (draw + d ≤ s.setup.limits.stepLimit)) then
      stageCount s (staged + 1) (draw + d) rest + 1
    else 0

/-- A car moved from the queue head to the end of the group with its figures, STAGED with cause GRANT (R140). -/
def stageCar (s : State) (x : QueueItem) : State :=
  let f := figuresFor s x.car
  let s1 := s.setRet
    { s.ret with queue := s.ret.queue.filter (fun y => y.car != x.car), group := s.ret.group ++ [⟨x.car, f⟩] }
  reportCar (moveCar s1 x.car .staged) x.car (record s x.car) .grant none

/-- Staging, when the group is empty and the queue is not (R140). -/
def stage (w : Work) : Work :=
  if w.st.ret.group.isEmpty && !w.st.ret.queue.isEmpty then
    let cars := w.st.ret.queue.take (stageCount w.st 0 0 w.st.ret.queue)
    (w.up (fun s => cars.foldl stageCar s)).noteSs
  else w

/-- The state of each condition of release readiness (R141). -/
def readiness (s : State) : Readiness where
  planAndGroup := granting s && !s.ret.group.isEmpty
  settled := settled s
  noOvercommit := !overcommitted s
  noStart := decide (startingCount s.acct = 0)
  spacingStopped := s.ret.spacing.isNone
  drawFits := decide (s.acct.kd + groupDraw s.ret.group ≤ s.cap.c)
  regenFits := decide (s.acct.kr + groupRegen s.ret.group ≤ s.cap.sink)

/-- Every condition holds. -/
def Readiness.all (r : Readiness) : Bool :=
  r.planAndGroup && r.settled && r.noOvercommit && r.noStart && r.spacingStopped && r.drawFits && r.regenFits

/-- The group released: an entry for each staged car in staging order, the group empty, the spacing timer restarted, staging made
again (R142). -/
def releaseStaged (w : Work) : Work :=
  let cars := w.st.ret.group
  let w1 := w.up (fun s => setGroup s [])
  let w2 := cars.foldl (fun acc x => startRun acc x.car x.figures) w1
  stage ((w2.up startSpacing).noteSs)

/-- The Return Sequencer's work at the completion of an event that reached it (R135). -/
def sequencerWork (w : Work) : Work :=
  if granting w.st then
    match w.st.setup.limits.returnMode with
    | .paced => grantAttempt w
    | .grouped =>
      let w1 := stage w
      if w1.st.setup.limits.releaseSource = .timer && (readiness w1.st).all then releaseStaged w1 else w1
  else w

end Sys2Proof.Machine
end

