-- ==== Sys2Proof/Machine/Designation.lean ====
section
/-! DEFINITION. The Service Selector (09): candidates, the selection pass, verdicts on SERVE, count decreases. -/

namespace Sys2Proof.Machine

/-- The index of a profile's bank (Table 3-1). A bank number outside 1..8 cannot be stored (R32). -/
def bankOf (p : CarProfile) : Option BankId := numbered 8 p.bank

/-- A car's bank may take another designation (R157). -/
def bankHasRoom (s : State) (c : CarId) : Bool :=
  match bankOf (profile s c) with
  | some b => decide (designatedIn s b < s.svc.counts.at b)
  | none => false

/-- The first condition of R157 that an enrolled car fails; none for a candidate. -/
def candidateFailure (s : State) (c : CarId) : Option CandidateFailure :=
  if stateOf s c ≠ some .parked then some .notParked
  else if (profile s c).rank = 0 then some .rankZero
  else if (s.svc.setAside.at c).isSome then some .setAside
  else if ((record s c).map (fun r => decide (s.setup.limits.attempts ≤ r.attempts))).getD true then some .attemptsUsed
  else if !bankHasRoom s c then some .bankFull
  else none

/-- The candidates in ascending service rank (R157). -/
def candidates (s : State) : List CarId :=
  sortBy (fun x y => decide ((profile s x).rank ≤ (profile s y).rank))
    ((enrolledCars s).filter (fun c => (candidateFailure s c).isNone))

/-- The conditions of a selection pass (R156). -/
def maySelect (s : State) : Bool :=
  s.plan.state == .service && s.ret.queue.isEmpty && s.ret.group.isEmpty && !anyReturnEntry s && settled s
    && !overcommitted s && s.ret.spacing.isNone

/-- A car's designation: the entry, the service record, SERVE with the permit number, SERVING with cause SERVICE, the spacing timer
(R157, in its order). -/
def designate (w : Work) (c : CarId) : Work :=
  let w1 := enterEntry w (serviceEntry w.st c (worstOf w.st c))
  w1.up (fun s =>
    let permit := (entryOf s c).map (·.permit)
    let s1 := s.setSvc
      { s.svc with records := s.svc.records.put c (permit.map (fun n => ⟨n, s.time, .awaiting⟩)) }
    let s2 := placeCommand s1 c .serve none permit
    startSpacing (reportCar (moveCar s2 c .serving) c (record s c) .service none))

/-- A selection pass: the first candidate admitted is designated (R157). -/
def selectionPass (w : Work) : Work :=
  match (candidates w.st).find? (fun c => (admitRefusal w.st c (worstOf w.st c).draw (worstOf w.st c).regen).isNone) with
  | some c => designate w c
  | none => w

/-- The Service Selector's work at the completion of an event that reached it (R156). -/
def selectorWork (w : Work) : Work := if maySelect w.st then selectionPass w else w

/-- The three conditions under which a SERVE verdict or drop acts: the permit number is that of the service record, which is
AWAITING, and the entry is a SERVICE entry in HOLDING phase (R158, R159, R160). -/
def serveActs (s : State) (c : CarId) (permit : Option Nat) : Bool :=
  match s.svc.records.at c, entryOf s c with
  | some rec, some e => permit == some rec.permit && rec.status == .awaiting && e.designates
  | _, _ => false

/-- SERVE accepted: the record becomes CONFIRMED (R158). -/
def confirmService (s : State) (c : CarId) : State :=
  s.setSvc
    { s.svc with records := s.svc.records.alter c (Option.map (fun r => { r with status := .confirmed })) }

/-- A car's set-aside marker set (R159, R160). -/
def setAside (s : State) (c : CarId) (why : AsideReason) : State :=
  s.setSvc { s.svc with setAside := s.svc.setAside.put c (some why) }

/-- The car whose SERVE was declined or dropped: released to PARKED when stopped (ABSENT when it is SILENT), else its entry moved to
STOP phase with cause COUNT (R159, R160). -/
def undesignate (w : Work) (c : CarId) : Work :=
  match record w.st c with
  | none => w
  | some r =>
    if isStopped r then
      let w1 := releaseEntry w c
      if r.state = .silent then w1.up (fun s => moveCar (emptySlot s c) c .absent)
      else (w1.up (fun s => moveCar s c .parked)).noteSs
    else
      (moveToStop w c .count).up (fun s =>
        let s1 := place s c .stopNext
        if r.state = .silent then s1 else moveCar s1 c .stopping)

/-- SERVE declined: an attempt consumed, the marker set, the designation ended (R159). -/
def serveDeclined (w : Work) (c : CarId) : Work :=
  undesignate (w.up (fun s => setAside (consumeAttempt s c) c .declined)) c

/-- SERVE dropped: the same without an attempt, when the three conditions hold; one report with cause SERVICE, whether or not a
field of R38 has changed (R159, R160). -/
def serveDropped (w : Work) (c : CarId) (permit : Option Nat) : Work :=
  if serveActs w.st c permit then
    let w1 := undesignate (w.up (fun s => setAside s c .dropped)) c
    w1.up (fun s => reportAlways s c (record w.st c) .service)
  else w

/-- A designation ended for a count decrease: STOP phase with cause COUNT, STOP-NEXT, STOPPING with cause SERVICE; a SILENT car
stays SILENT (R162). -/
def endForCount (w : Work) (c : CarId) : Work :=
  (moveToStop w c .count).up (fun s =>
    let s1 := place s c .stopNext
    match record s c with
    | some r => if r.state = .silent then s1 else reportCar (moveCar s1 c .stopping) c (some r) .service none
    | none => s1)

/-- The designated cars of a bank in descending service rank (R162). -/
def designatedCars (s : State) (b : BankId) : List CarId :=
  sortBy (fun x y => decide ((profile s y).rank ≤ (profile s x).rank))
    ((s.acct.entries.filter (fun e => e.designates && (profile s e.car).bank == numberOf b)).map (·.car))

/-- Excess designations of a bank ended, highest rank number first, until the number equals the count (R162). -/
def trimDesignations (w : Work) (b : BankId) : Work :=
  let excess := designatedIn w.st b - w.st.svc.counts.at b
  ((designatedCars w.st b).take excess).foldl endForCount w

/-- Every designation ended as the plan leaves SERVICE: records discarded, markers cleared (R161, R164). -/
def endService (s : State) : State :=
  s.setSvc { s.svc with records := Table.const 48 none, setAside := Table.const 48 none }

end Sys2Proof.Machine
end

