-- ==== Sys2Proof/Machine/Capacity.lean ====
section
/-! DEFINITION. The Capacity Unit (02): contributions, C and S, the settle timer, set statuses, trips, and the hand-on of R27. -/

namespace Sys2Proof.Machine

/-- A set's contribution to C (R24, stage 1). -/
def contributionOf (a : SetSettings) (r : SetRun) : Nat :=
  if r.status = .online then a.allocation * r.trim / 100 else 0

/-- The present contribution of a set. -/
def contribution (s : State) (n : SetId) : Nat := contributionOf (s.setup.sets.at n) (s.cap.sets.at n)

/-- The sum of the four contributions (R24, stage 2). -/
def contributions (s : State) : Nat := ((indices 4).map (contribution s)).sum

/-- C from the sum, the reserve and the derate in force (R24, stage 3). -/
def capacityOf (sum reserve derate : Nat) : Nat := sum * (100 - reserve) * (100 - derate) / 10000

/-- The derate that C is computed with (R24, R25). -/
def derateNow (s : State) : Nat := if derated s then s.setup.limits.derate else 0

/-- Some set is ONLINE. -/
def anyOnline (s : State) : Bool := s.cap.sets.toList.any (fun x => x.status == .online)

/-- S from its two terms (R26). -/
def sinkOf (s : State) : Nat :=
  (if isActive s bankLine then s.setup.limits.bankRating else 0) + (if anyOnline s then s.setup.limits.baseLoad else 0)

/-- C and S recomputed (R24, R26). -/
def recompute (s : State) : State :=
  s.setCap { s.cap with c := capacityOf (contributions s) s.setup.limits.reserve (derateNow s), sink := sinkOf s }

/-- A stage change: the settle timer is started with a full interval (R19). -/
def stageChange (s : State) : State := s.setCap { s.cap with settle := some (after s s.setup.limits.settle) }

/-- A set given a status. -/
def setStatus (s : State) (n : SetId) (st : SetStatus) : State :=
  s.setCap { s.cap with sets := s.cap.sets.alter n (fun r => { r with status := st }) }

/-- C and S handed to the Power Account, when either differs from the values `c` and `sink` last handed to it; the account
completes the event and hands its shed entries on (R27, R100). -/
def handCapacity (w : Work) (c sink : Nat) : Work :=
  if w.st.cap.c = c ∧ w.st.cap.sink = sink then w
  else handSheds (settleAccount w (decide (c < w.st.cap.c) || decide (sink < w.st.cap.sink)))

/-- A change of the Capacity Unit completed: C and S recomputed, then handed on (R27). -/
def capacityEvent (w : Work) (f : State → State) : Work :=
  handCapacity (w.up (fun s => recompute (f s))) w.st.cap.c w.st.cap.sink

/-- The SET-TRIP report of a set whose contribution was `before` (R23). -/
def tripReport (s : State) (n : SetId) (before : Nat) : Report :=
  .setTrip
    { set := n, time := s.time, plan := s.plan.state, contribution := before, c := s.cap.c, sink := s.cap.sink,
      online := setsWith s .online, accepting := setsWith s .accepting }

/-- A SETn line's effective level has become ACTIVE (R21). -/
def setActive (w : Work) (n : SetId) : Work :=
  if (w.st.setup.sets.at n).enabled && (w.st.cap.sets.at n).status == .offline then
    capacityEvent w (fun s => stageChange (setStatus s n .accepting))
  else w

/-- A SETn line's effective level has become INACTIVE; a trip is reported and offered as a trigger before C is handed on
(R22, R23). -/
def setInactive (w : Work) (n : SetId) : Work :=
  match (w.st.cap.sets.at n).status with
  | .offline => w
  | .accepting => capacityEvent w (fun s => stageChange (setStatus s n .offline))
  | .online =>
    let w1 := w.up (fun s => recompute (stageChange (setStatus s n .offline)))
    let w2 :=
      if granting w.st then
        w1.up (fun s => offerTrigger (queueReport s (tripReport s n (contribution w.st n))) .setTrip)
      else w1
    handCapacity w2 w.st.cap.c w.st.cap.sink

/-- A line's new effective level handed to its block (R1, Table 1-1). UTIL and RETX go to the Plan Controller, whose exits are
tested at the completion of the event. -/
def handLine (w : Work) (l : LineId) (level : Level) : Work :=
  match setOfLine l with
  | some n =>
    match level with
    | .active => setActive w n
    | .inactive => setInactive w n
  | none => if l = bankLine ∨ l = alarmLine then capacityEvent w stageChange else w

/-- The settle timer's expiry: it stops, and every ACCEPTING set becomes ONLINE (R20). -/
def settleNow (s : State) : State :=
  s.setCap
    { s.cap with
      settle := none
      sets := s.cap.sets.mapAll (fun _ r => if r.status = .accepting then { r with status := .online } else r) }

/-- The settle expiry completed and handed on; the settled flag has become true for both granting blocks (R20, R27). -/
def settleEvent (w : Work) : Work := (capacityEvent w settleNow).noteBoth

end Sys2Proof.Machine
end

