-- ==== Sys2Proof/Machine/Commission.lean ====
section
/-! DEFINITION. The commission check (R116, Table 7-2). -/

namespace Sys2Proof.Machine

/-- The enrolled cars of a configuration, ascending. -/
def enrolledIn (su : Setup) : List CarId := (indices 48).filter (fun c => (su.profiles.at c).enrolled)

/-- The enrolled cars numbered below a car, ascending. -/
def enrolledBelow (su : Setup) (c : CarId) : List CarId := (enrolledIn su).filter (fun d => decide (d.val < c.val))

/-- The lowest-numbered car below `c` that agrees with it by `same`. -/
def lowerMatch (su : Setup) (same : CarProfile → CarProfile → Bool) (c : CarId) : Option CarId :=
  (enrolledBelow su c).find? (fun d => same (su.profiles.at c) (su.profiles.at d))

/-- Two cars share a link and drop. -/
def sameDrop (p q : CarProfile) : Bool := p.link == q.link && p.drop == q.drop

/-- Two cars share a non-zero service rank. -/
def sameRank (p q : CarProfile) : Bool := p.rank != 0 && p.rank == q.rank

/-- Two landing ranges share a floor. -/
def rangesMeet (a b : FloorRange) : Bool := decide (max a.low b.low ≤ min a.high b.high)

/-- Some two ranges of a list share a floor. -/
def anyMeet : List FloorRange → Bool
  | [] => false
  | r :: rest => rest.any (rangesMeet r) || anyMeet rest

/-- RANGES-BAD: a range is inverted, or two share a floor. -/
def rangesBad (p : CarProfile) : Bool := p.ranges.any (fun r => decide (r.high < r.low)) || anyMeet p.ranges

/-- The recall floor lies in a landing range. -/
def recallServed (p : CarProfile) : Bool := p.ranges.any (fun r => within r.low r.high p.recallFloor)

/-- The enrolled cars of a bank. -/
def bankSize (su : Setup) (b : BankId) : Nat :=
  ((enrolledIn su).filter (fun c => (su.profiles.at c).bank == numberOf b)).length

/-- The full capacity (R116). -/
def fullCapacity (su : Setup) : Nat :=
  capacityOf ((su.sets.toList.filter (·.enabled)).map (·.allocation)).sum su.limits.reserve 0

/-- A fault of one car, when the test fails for it. -/
def carFault (su : Setup) (fails : CarProfile → Bool) (fault : Nat → CommissionFault) : Option CommissionFault :=
  ((enrolledIn su).find? (fun c => fails (su.profiles.at c))).map (fun c => fault (numberOf c))

/-- A fault of a car and a lower-numbered one (R116). DESIGN CHOICE: of several pairs the one with the lowest higher-numbered car, and
then the lowest lower-numbered one, is the subject (log 46). -/
def pairFault (su : Setup) (same : CarProfile → CarProfile → Bool) (fault : Nat → Nat → CommissionFault) :
    Option CommissionFault :=
  (enrolledIn su).findSome? (fun c => (lowerMatch su same c).map (fun d => fault (numberOf c) (numberOf d)))

/-- The tests of Table 7-2, in order. -/
def commissionTests (su : Setup) : List (Option CommissionFault) :=
  [ if (enrolledIn su).isEmpty then some .noCars else none,
    pairFault su sameDrop .dropConflict,
    carFault su rangesBad .rangesBad,
    carFault su (fun p => !recallServed p) .recallNotLanding,
    ((indices 8).find? (fun b => decide (12 < bankSize su b))).map (fun b => .bankOverfull (numberOf b)),
    pairFault su sameRank .rankDuplicate,
    if su.sets.toList.any (fun x => x.enabled && decide (0 < x.allocation)) then none else some .noSets,
    if su.limits.startSlots < su.limits.groupSize then some (.groupSlots su.limits.groupSize su.limits.startSlots) else none,
    ((enrolledIn su).find? (fun c => decide (fullCapacity su < (worstFigures (su.profiles.at c)).draw))).map
      (fun c => .carTooLarge (numberOf c) (worstFigures (su.profiles.at c)).draw (fullCapacity su)) ]

/-- The first fault found, or none when the check passes (R116). -/
def commission (su : Setup) : Option CommissionFault := (commissionTests su).findSome? id

end Sys2Proof.Machine
end

