-- ==== Sys2Proof/Machine/Transitions.lean ====
section
/-! DEFINITION. The Plan Controller (07): exits, transitions and their entry actions, the census, the outage record. -/

namespace Sys2Proof.Machine

/-! ## Exits (R113, R114) -/

/-- The cause of a transition into RESTORING from SETTLING, RETURN or SERVICE (R114). -/
def restoreCause (s : State) : PlanCause := if retxActive s then .retransfer else .utilityReturned

/-- RETX is active, or UTIL present. -/
def mustRestore (s : State) : Bool := retxActive s || utilPresent s

/-- The first exit of the plan state whose condition holds, with its cause (the tables of R113 and R114). -/
def planExit (s : State) : Option (PlanState × PlanCause) :=
  match s.plan.state with
  | .halted => none
  | .watching =>
    if utilPresent s then none
    else if setAvailable s then some (.settling, .utilityLost)
    else some (.outage, .utilityLost)
  | .outage =>
    if utilPresent s then some (.restoring, .utilityReturned)
    else if setAvailable s then some (.settling, .setAvailable)
    else none
  | .settling =>
    if mustRestore s then some (.restoring, restoreCause s)
    else if !setAvailable s then some (.outage, .setsLost)
    else if settled s && s.plan.census == .complete && decide (0 < s.cap.c) then some (.returning, .ready)
    else none
  | .returning =>
    if mustRestore s then some (.restoring, restoreCause s)
    else if !setAvailable s then some (.outage, .setsLost)
    else if s.ret.queue.isEmpty && s.ret.group.isEmpty && !anyReturnEntry s then some (.service, .recovered)
    else none
  | .service =>
    if mustRestore s then some (.restoring, restoreCause s)
    else if !setAvailable s then some (.outage, .setsLost)
    else none
  | .restoring =>
    if utilPresent s then
      if s.plan.restore = .lapsed then some (.watching, .restoreTimeout)
      else if !anyEntryToStop s then some (.watching, .carsStopped)
      else none
    else if !setAvailable s then some (.outage, .setsLost)
    else if !retxActive s then some (.settling, .retransferCancelled)
    else none

/-- The PLAN-STATE report of a transition (R114). -/
def planReport (s : State) (dest : PlanState) (cause : PlanCause) : Report :=
  .planState
    { left := s.plan.state, entered := dest, cause, time := s.time, util := effective s utilLine,
      retx := effective s retxLine, online := setsWith s .online, accepting := setsWith s .accepting,
      settled := settled s, c := s.cap.c, sink := s.cap.sink, census := s.plan.census }

/-! ## The census (R121) -/

/-- Every enrolled car's marker is set. -/
def allCounted (s : State) (counted : Table Bool 48) : Bool :=
  (indices 48).all (fun c => !enrolled s c || counted.at c)

/-- The census with these markers: COMPLETE when every enrolled car's is set. -/
def setCensus (s : State) (counted : Table Bool 48) : State :=
  s.setPlan { s.plan with counted, census := if allCounted s counted then .complete else .inProgress }

/-- A car already declared silent when a census begins: it is counted at once. -/
def alreadySilent (s : State) (c : CarId) : Bool :=
  match record s c with
  | some r => r.linkStatus == .silent && decide (s.setup.limits.silenceThreshold ≤ (carLink s c).missed)
  | none => false

/-- A census begins. -/
def beginCensus (s : State) : State := setCensus s (Table.tabulate (alreadySilent s))

/-- A car counted, by a valid reply or a declaration of its silence, while the census is in progress. -/
def countCar (s : State) (c : CarId) : State :=
  if s.plan.census = .inProgress then setCensus s (s.plan.counted.put c true) else s

/-! ## The outage record (R129) -/

/-- A new outage record when the plan enters OUTAGE or SETTLING from WATCHING or HALTED. -/
def startOutage (s : State) (left : PlanState) : State :=
  match left with
  | .watching => s.setPlan { s.plan with outage := some ⟨.utilityLoss, s.time, none, none, none, none⟩ }
  | .halted => s.setPlan { s.plan with outage := some ⟨.arm, s.time, none, none, none, none⟩ }
  | _ => s

/-- The generator-carry time recorded, if it is not yet. -/
def recordCarry (s : State) : State :=
  s.setPlan { s.plan with outage := s.plan.outage.map (fun o => { o with carry := some (o.carry.getD s.time) }) }

/-- The recovered time and the counts recorded, if they are not yet. -/
def recordRecovered (s : State) : State :=
  s.setPlan
    { s.plan with
      outage := s.plan.outage.map (fun o =>
        if o.recovered.isSome then o
        else
          { o with
            recovered := some s.time
            counts := some ⟨carsIn s .parked, carsIn s .failed, carsIn s .deferred⟩ }) }

/-- The end time recorded, if the record is open. -/
def recordEnd (s : State) : State :=
  s.setPlan { s.plan with outage := s.plan.outage.map (fun o => { o with finish := some (o.finish.getD s.time) }) }

/-! ## Pieces of the entry actions -/

/-- A waiting command of these kinds removed from every slot (R59). -/
def removeCommands (s : State) (p : CmdKind → Bool) : State := alterLinks s (fun _ l => l.dropIf p)

/-- Every hand-back marker cleared, and every waiting HAND-BACK removed (R73, R128). -/
def endHandBack (s : State) : State :=
  removeCommands (s.setPlan { s.plan with owed := Table.const 48 false }) (· == .handBack)

/-- Every car moved to the state `f` gives, with attempts used 0 and PARK outstanding cleared (R118, R119, R128). -/
def resetCars (s : State) (f : CarRecord → CarState) : State :=
  let s1 := alterCars s (fun _ r => { r.goTo (f r) with attempts := 0, parkOut := false })
  alterLinks s1 (fun _ l => { l with silentHold := none })

/-- The permit table, queue, group and designations cleared (R99, R150, R164). -/
def clearStage (w : Work) : Work := (clearTable w).up (fun s => endService (emptyReturns s))

/-- PARK outstanding cleared for every car (R41, R114). -/
def clearParks (s : State) : State := alterCars s (fun _ r => { r with parkOut := false })

/-- The cars with PARK outstanding, ascending. -/
def parksOut (s : State) : List CarId :=
  (indices 48).filter (fun c => ((record s c).map (·.parkOut)).getD false)

/-! ## Entry actions -/

/-- Entry into OUTAGE (R119), its CAR-STATE reports apart. -/
def enterOutage (w : Work) (left : PlanState) : Work :=
  (clearStage w).up (fun s =>
    let s1 := removeCommands (resetCars s (fun _ => .absent)) (· != .hold)
    startOutage
      (s1.setPlan
        { s1.plan with
          census := .none, owed := Table.const 48 false, cancelled := Table.const 48 false, restore := .stopped })
      left)

/-- Entry into SETTLING (R120). -/
def enterSettling (w : Work) (left : PlanState) : Work :=
  w.up (fun s =>
    let s1 := if left = .restoring ∧ s.plan.census ≠ .none then s else beginCensus s
    let s2 := endHandBack (startOutage s1 left)
    s2.setPlan { s2.plan with restore := .stopped })

/-- One IDLE car evaluated in full on entry into RETURN (R123). -/
def evaluateIdle (w : Work) (c : CarId) : Work :=
  if stateOf w.st c = some .idle then
    handSheds ((evaluateFull w c false).up (fun s => reportCar s c (record w.st c) .plan none))
  else w

/-- Entry into RETURN (R123). -/
def enterReturn (w : Work) : Work := (indices 48).foldl evaluateIdle ((w.up recordCarry).noteRs)

/-- Entry into SERVICE (R124). -/
def enterService (w : Work) : Work := (w.up recordRecovered).noteBoth

/-- A car taken from the queue or group on entry into RESTORING (R125, step 1). -/
def cancelReturn (s : State) (c : CarId) : State := setCancelled (holdAs s c .idle) c true

/-- A car whose entry is moved to STOP phase on entry into RESTORING (R125, step 2). -/
def cancelRun (w : Work) (c : CarId) : Work :=
  match entryOf w.st c with
  | some e =>
    if e.movable then
      (moveToStop w c .plan).up (fun s =>
        let s1 := setCancelled (place s c .stopNext) c true
        if stateOf s c = some .silent then s1 else moveCar s1 c .stopping)
    else w
  | none => w

/-- Entry into RESTORING (R125, R126); `parks` are the cars that had PARK outstanding. -/
def enterRestoring (w : Work) (parks : List CarId) : Work :=
  let w1 := w.up (fun s =>
    overCars (emptyReturns s) ((indices 48).filter (inReturns s.ret)) cancelReturn)
  let w2 := (indices 48).foldl cancelRun w1
  w2.up (fun s =>
    let s1 := overCars s (parks.filter (fun c => stateOf s c == some .idle)) (fun acc c => place acc c .hold)
    let s2 := endService s1
    s2.setPlan { s2.plan with restore := .running (after s2 s2.setup.limits.restoreTimeout) })

/-- The state of a car on entry into WATCHING (R128). -/
def watchState (r : CarRecord) : CarState := if r.linkStatus = .inContact then .idle else .absent

/-- Entry into WATCHING (R128). -/
def enterWatching (w : Work) (left : PlanState) : Work :=
  (clearStage w).up (fun s =>
    let s1 := removeCommands (resetCars s watchState) (· != .handBack)
    let s2 := s1.setPlan
      { s1.plan with
        owed := Table.tabulate (enrolled s1), census := .none, restore := .stopped,
        cancelled := Table.const 48 false }
    let s3 := overCars s2 ((indices 48).filter (fun c => stateOf s2 c == some .idle)) (fun acc c => place acc c .handBack)
    if left = .restoring then recordEnd s3 else s3)

/-- The links as they stop being driven on entry into HALTED (R72): tag counters and last exchange end times stand. -/
def undriveLinks (s : State) : State :=
  s.setLink
    { a := LinkLine.fresh, b := LinkLine.fresh,
      cars := s.link.cars.mapAll (fun _ l => { l with slot := none, missed := 0, silentHold := none }) }

/-- Entry into HALTED (R118). -/
def enterHalted (w : Work) : Work :=
  w.up (fun s =>
    let s1 := alterCars s (fun _ r => { r.goTo .absent with attempts := 0, linkStatus := .silent })
    let s2 := stopSampling (undriveLinks s1)
    s2.setPlan
      { s2.plan with census := .none, owed := Table.const 48 false, cancelled := Table.const 48 false })

/-- The links as they become driven on leaving HALTED: every car due, no misses, slots empty (R63, R72). -/
def driveLinks (s : State) : State :=
  alterLinks s (fun _ l =>
    { l with lastEnd := s.time - BitVec.ofNat 32 s.setup.limits.pollInterval, missed := 0, slot := none })

/-- The entry actions of a state. -/
def enter (w : Work) (left dest : PlanState) (parks : List CarId) : Work :=
  match dest with
  | .halted => enterHalted w
  | .watching => enterWatching w left
  | .outage => enterOutage w left
  | .settling => enterSettling w left
  | .returning => enterReturn w
  | .service => enterService w
  | .restoring => enterRestoring w parks

/-- A transition: the report, the new state, what leaving HALTED brings, PARK outstanding cleared but from RETURN to SERVICE,
the entry actions, and the CAR-STATE reports with cause PLAN (R114, R117, R41). -/
def transition (w : Work) (dest : PlanState) (cause : PlanCause) : Work :=
  let left := w.st.plan.state
  let old := w.st.cars
  let parks := parksOut w.st
  let w1 := w.up (fun s =>
    let s1 := queueReport s (planReport s dest cause)
    let s2 := s1.setPlan { s1.plan with state := dest, enteredAt := s1.time }
    let s3 := if left = .halted then startSampling (driveLinks s2) else s2
    if left = .returning ∧ dest = .service then s3 else clearParks s3)
  (enter w1 left dest parks).up (fun s => if dest = .returning then s else reportChanged s old .plan)

/-- Exits tested and taken until none holds, at most `fuel` of them (R113). -/
def planSteps : Nat → Work → Work
  | 0, w => w
  | fuel + 1, w =>
    match planExit w.st with
    | some (dest, cause) => planSteps fuel (transition w dest cause)
    | none => w

/-- The Plan Controller acts on a completed event (R113). DEDUCED: eight transitions are more than one event can bring, since the
levels the exits read do not change within it. -/
def planRun (w : Work) : Work := planSteps 8 w

/-! ## Arming (R115, R117) -/

/-- The state that the lines and the plant call for at an arm (R117). -/
def armState (s : State) : PlanState :=
  if utilPresent s then .watching else if setAvailable s then .settling else .outage

/-- The plan leaves HALTED (R117). -/
def armPlan (w : Work) : Work := planRun (transition w (armState w.st) .arm)

end Sys2Proof.Machine
end

