-- ==== Sys2Proof/Machine/Links.lean ====
section
/-! DEFINITION. The Car Link Controller (04): the arbiter, and the completion of an event in every block (R113, R135, R156, R62,
R65, R178). -/

namespace Sys2Proof.Machine

/-! ## The arbiter (R65) -/

/-- The link of a name. -/
def linkLine (s : State) (k : Link) : LinkLine :=
  match k with
  | .a => s.link.a
  | .b => s.link.b

/-- The state with another line for a link. -/
def setLinkLine (s : State) (k : Link) (l : LinkLine) : State :=
  match k with
  | .a => s.setLink { s.link with a := l }
  | .b => s.setLink { s.link with b := l }

/-- The links are driven (R71). -/
def driven (s : State) : Bool := s.plan.state != .halted

/-- The enrolled cars on a link, ascending. -/
def linkCars (s : State) (k : Link) : List CarId := (enrolledCars s).filter (fun c => (profile s c).link == k)

/-- The poll age of a car (R63). -/
def pollAge (s : State) (c : CarId) : Nat := Time.since s.time (carLink s c).lastEnd

/-- A car's slot is withheld: its link status is SILENT (R68). -/
def withheld (s : State) (c : CarId) : Bool := ((record s c).map (fun r => r.linkStatus == .silent)).getD true

/-- The waiting command the arbiter may send a car (R65, R68, R71). -/
def sendable (s : State) (c : CarId) : Option Command :=
  match (carLink s c).slot with
  | some cmd => if !withheld s c && mayPlace s.plan.state cmd.kind then some cmd else none
  | none => none

/-- STOP-NEXT or HOLD (Table 4-1). -/
def isUrgent (k : CmdKind) : Bool := k == .stopNext || k == .hold

/-- The age of a car's sendable command. -/
def slotAge (s : State) (c : CarId) : Nat := ((sendable s c).map (fun cmd => Time.since s.time cmd.slotTime)).getD 0

/-- The car of the greatest age, the lower drop among equals (R65). -/
def eldest (s : State) (age : CarId → Nat) : List CarId → Option CarId
  | [] => none
  | c :: rest =>
    match eldest s age rest with
    | none => some c
    | some d =>
      if age c < age d ∨ (age c = age d ∧ (profile s d).drop < (profile s c).drop) then some d else some c

/-- The members of the URGENT class. -/
def urgentCars (s : State) (k : Link) : List CarId :=
  (linkCars s k).filter (fun c => ((sendable s c).map (fun cmd => isUrgent cmd.kind)).getD false)

/-- The members of the DUE POLL class. -/
def dueCars (s : State) (k : Link) : List CarId :=
  (linkCars s k).filter (fun c => decide (s.setup.limits.pollInterval ≤ pollAge s c))

/-- The members of the NORMAL class. -/
def normalCars (s : State) (k : Link) : List CarId :=
  (linkCars s k).filter (fun c => ((sendable s c).map (fun cmd => !isUrgent cmd.kind)).getD false)

/-- An arbiter's choice: the car, and whether its class is URGENT. -/
structure Choice where
  car : CarId
  urgent : Bool
deriving DecidableEq, Repr

/-- A choice of a class other than URGENT. -/
def otherChoice (s : State) (k : Link) : Option CarId :=
  match eldest s (pollAge s) (dueCars s k) with
  | some c => some c
  | none =>
    match eldest s (slotAge s) (normalCars s k) with
    | some c => some c
    | none => eldest s (pollAge s) (linkCars s k)

/-- The arbiter's choice on a link (R65): after four URGENT exchanges in a row a due car goes first. -/
def choose (s : State) (k : Link) : Option Choice :=
  let skip := decide (Config.urgentLimit ≤ (linkLine s k).urgentRun) && !(dueCars s k).isEmpty
  match if skip then none else eldest s (slotAge s) (urgentCars s k) with
  | some c => some ⟨c, true⟩
  | none => (otherChoice s k).map (fun c => ⟨c, false⟩)

/-- The exchange a choice begins: the sendable command leaves the slot with one try more, else a POLL (R60). -/
def beginExchange (s : State) (k : Link) (x : Choice) : State :=
  let run := if x.urgent then (linkLine s k).urgentRun + 1 else 0
  match sendable s x.car with
  | some cmd =>
    let s1 := alterLink s x.car (fun l => { l with slot := none })
    setLinkLine s1 k ⟨some ⟨x.car, .command { cmd with tries := cmd.tries + 1 }⟩, run⟩
  | none => setLinkLine s k ⟨some ⟨x.car, .poll⟩, run⟩

/-- The arbiter of a link: it chooses when the links are driven and no exchange is in flight (R54, R65). -/
def arbitrate (s : State) (k : Link) : State :=
  if driven s && (linkLine s k).exchange.isNone then
    match choose s k with
    | some x => beginExchange s k x
    | none => s
  else s

/-- Both arbiters. -/
def arbiters (s : State) : State := arbitrate (arbitrate s .a) .b

/-! ## STOP-NEXT renewal (R62) -/

/-- The conditions of a renewal. -/
def mayRenew (s : State) (c : CarId) : Bool :=
  match entryOf s c, record s c with
  | some e, some r =>
    (e.phase == .stop || e.kind == .adopted) && r.authority == some .sequencer && isMoving r
      && (carLink s c).slot.map (·.kind) != some .stopNext
  | _, _ => false

/-- A STOP-NEXT dropped or declined placed again once the event is complete. -/
def renewStop (s : State) (c : CarId) : State := if mayRenew s c then place s c .stopNext else s

/-- The renewal of an event, when it has a car to renew for. -/
def renewFor (s : State) (renew : Option CarId) : State :=
  match renew with
  | some c => renewStop s c
  | none => s

/-! ## The completion of an event -/

/-- An event's work completed in the other blocks: the plan's exits, then the Return Sequencer's work and the Service Selector's
when the event has reached them (R113, R135, R156). -/
def grantWork (w : Work) : Work :=
  let w1 := planRun w
  let w2 := if w1.nt.rs then sequencerWork w1 else w1
  if w2.nt.ss then selectorWork w2 else w2

/-- An event completed: the work of the other blocks, a renewal, the arbiters' choices and the indication lines (R62, R65, R178).
This is how a command ends that may reach the other blocks; one that reaches none of them ends with `driveLines` or nothing. -/
def completeWith (w : Work) (renew : Option CarId) : State :=
  driveLines (arbiters (renewFor (grantWork w).st renew))

/-- An event completed, with nothing to renew. -/
def complete (w : Work) : State := completeWith w none

end Sys2Proof.Machine
end

