-- ==== Sys2Proof/Machine/Exchanges.lean ====
section
/-! DEFINITION. The end of a car-link exchange (04): replies and their verdicts, missed exchanges, silence. -/

namespace Sys2Proof.Machine

/-! ## Replies (R57) -/

/-- The Car Link Controller's own part of a valid reply: the exchange ends, the counts are set, the car is in contact and is
counted (R57, R63, R69, R121). -/
def endExchange (s : State) (k : Link) (c : CarId) : State :=
  let s1 := setLinkLine s k { linkLine s k with exchange := none }
  let s2 := alterLink s1 c (fun l => { l with missed := 0, lastEnd := s1.time, silentHold := none })
  countCar (alterCar s2 c (fun r => { r with linkStatus := .inContact })) c

/-- The reply is a first contact: the car is ABSENT, or IDLE in SETTLING and not yet counted in the census (R39). -/
def isFirstContact (s : State) (c : CarId) (r : CarRecord) : Bool :=
  r.state == .absent
    || (s.plan.state == .settling && r.state == .idle && s.plan.census == .inProgress && !s.plan.counted.at c)

/-- What a verdict made of the event: the work, the cause it gives the CAR-STATE report when it acted, and whether the report is
queued whatever has changed. -/
structure Judged where
  work : Work
  cause : Option CarCause
  always : Bool

/-- The verdict changes no state. -/
def noVerdict (w : Work) : Judged := ⟨w, none, false⟩

/-- A RUN-TO decline acts: the permit number is that of the car's RETURN entry in START phase, and the car is stopped (R146). -/
def declineActs (s : State) (c : CarId) (permit : Option Nat) : Bool :=
  match entryOf s c, record s c with
  | some e, some r => permit == some e.permit && e.starting && isStopped r
  | _, _ => false

/-- The verdict on a PARK (R41). A change of state that a decline's evaluation makes carries cause EVALUATION (R40). -/
def judgePark (w : Work) (c : CarId) (v : Verdict) : Judged :=
  if awaitsPark w.st c then
    match v with
    | .accepted => ⟨parkAccepted w c, some .park, false⟩
    | .declined _ =>
      let w1 := parkDeclined w c
      ⟨w1, some (if stateOf w1.st c = stateOf w.st c then .declined else .evaluation), false⟩
    | .none => noVerdict w
  else noVerdict w

/-- The verdict on a RUN-TO (R146). -/
def judgeRun (w : Work) (c : CarId) (permit : Option Nat) (v : Verdict) : Judged :=
  match v with
  | .declined _ =>
    if declineActs w.st c permit then
      ⟨evaluate ((releaseEntry w c).up (fun s => consumeAttempt s c)) c false, some .declined, false⟩
    else noVerdict w
  | .accepted => noVerdict w
  | .none => noVerdict w

/-- The verdict on a SERVE (R158, R159). -/
def judgeServe (w : Work) (c : CarId) (permit : Option Nat) (v : Verdict) : Judged :=
  if serveActs w.st c permit then
    match v with
    | .accepted => ⟨w.up (fun s => confirmService s c), some .service, true⟩
    | .declined _ => ⟨serveDeclined w c, some .declined, false⟩
    | .none => noVerdict w
  else noVerdict w

/-- HAND-BACK placed again in WATCHING for a car in contact (R73). -/
def replaceHandBack (s : State) (c : CarId) : State :=
  if s.plan.state = .watching ∧ !withheld s c then place s c .handBack else s

/-- The verdict on a HAND-BACK (R73, R128). -/
def judgeHandBack (w : Work) (c : CarId) (v : Verdict) : Judged :=
  match v with
  | .accepted => noVerdict (w.up (fun s => setOwed s c false))
  | .declined _ => noVerdict (w.up (fun s => replaceHandBack s c))
  | .none => noVerdict w

/-- The verdict of a reply (R57). HOLD and STOP-NEXT verdicts change no state here. -/
def judge (w : Work) (c : CarId) (q : Request) (v : Verdict) : Judged :=
  match q with
  | .poll => noVerdict w
  | .command cmd =>
    match cmd.kind with
    | .park => judgePark w c v
    | .runTo => judgeRun w c cmd.permit v
    | .serve => judgeServe w c cmd.permit v
    | .handBack => judgeHandBack w c v
    | .hold => noVerdict w
    | .stopNext => noVerdict w

/-- The decline that a reply reports (R38). -/
def declineOf (q : Request) (v : Verdict) : Option Decline :=
  match q, v with
  | .command cmd, .declined reason => some ⟨cmd.kind, reason⟩
  | _, _ => none

/-- The cause of a reply's CAR-STATE report (R38): the verdict's when it acted, else the rule's when the state, link status or
attempts changed, else DECLINED for a decline, else STATUS. -/
def replyCause (old new : CarRecord) (verdict rule : Option CarCause) (declined : Bool) : CarCause :=
  match verdict with
  | some cause => cause
  | none =>
    let moved := old.state != new.state || old.linkStatus != new.linkStatus || old.attempts != new.attempts
    match if moved then rule else none with
    | some cause => cause
    | none => if declined then .declined else .status

/-- The one CAR-STATE report of a reply (R38, R42, R48, R158). -/
def reportReply (s : State) (c : CarId) (old : CarRecord) (rule : Option CarCause) (j : Judged) (decline : Option Decline) :
    State :=
  match record s c with
  | some new =>
    let cause := replyCause old new j.cause rule decline.isSome
    if carChanged old new || decline.isSome || j.always then queueReport s (carReport s c old new cause decline) else s
  | none => s

/-- The car whose STOP-NEXT was declined (R62). -/
def declinedStop (c : CarId) (q : Request) (v : Verdict) : Option CarId :=
  match declineOf q v with
  | some d => if d.kind = .stopNext then some c else none
  | none => none

/-- A valid reply handed to the Car Table: status, rules, verdict, report, shed entries (R35, R57). -/
def handReply (w : Work) (c : CarId) (old : CarRecord) (first : Bool) (q : Request) (v : Verdict) (x : CarStatus) : Work :=
  let ruled := statusRules (applyStatus w c x) c old first x
  let j := judge ruled.work c q v
  handSheds (j.work.up (fun s => reportReply s c old ruled.cause j (declineOf q v)))

/-- A valid reply taken (R57). -/
def takeReply (s : State) (k : Link) (x : Exchange) (r : CarReply) : State :=
  match record s x.car, statusOf r with
  | some old, some status =>
    let w := begin (endExchange s k x.car)
    completeWith (handReply w x.car old (isFirstContact s x.car old) x.request r.verdict status)
      (declinedStop x.car x.request r.verdict)
  | _, _ => s

/-- Bytes that arrive as a reply on a link (R54, R56): a valid reply to the exchange in flight is taken; any other is discarded,
and the exchange stays in flight. -/
def receiveReply (s : State) (k : Link) (r : CarReply) : State :=
  match (linkLine s k).exchange with
  | some x => if replyValid (profile s x.car).drop x.request r then takeReply s k x r else s
  | none => s

/-! ## Missed exchanges (R61, R66, R67) -/

/-- The Car Link Controller's own part of a miss: the exchange ends and the missed count rises (R63, R66). -/
def endMissed (s : State) (k : Link) (c : CarId) : State :=
  let s1 := setLinkLine s k { linkLine s k with exchange := none }
  alterLink s1 c (fun l => { l with missed := min 255 (l.missed + 1), lastEnd := s1.time })

/-- The silence of a car in contact with no entry: it goes ABSENT and its slot is emptied (R67). -/
def loseCar (w : Work) (c : CarId) : Work := w.up (fun s => emptySlot (moveCar (clearPark s c) c .absent) c)

/-- A car that holds an entry goes SILENT, and its silent hold timer starts (R67). -/
def holdSilent (s : State) (c : CarId) : State :=
  alterLink (moveCar s c .silent) c (fun l => { l with silentHold := some (after s s.setup.limits.silentHold) })

/-- What a declaration of silence does, by the car's state (the table of R67). -/
def silenceBy (w : Work) (c : CarId) (st : CarState) : Work :=
  match st with
  | .starting => w.up (fun s => holdSilent s c)
  | .running => w.up (fun s => holdSilent s c)
  | .stopping => w.up (fun s => holdSilent s c)
  | .serving => w.up (fun s => holdSilent s c)
  | .deferred => w.up (fun s => holdSilent s c)
  | .queued => loseCar (leaveReturns w c) c
  | .staged => loseCar (leaveReturns w c) c
  | .idle => loseCar w c
  | .parked => loseCar w c
  | .held => loseCar w c
  | .failed => w.up (fun s => emptySlot s c)
  | .absent => w
  | .silent => w

/-- A declaration of silence: link status SILENT, the car acted on, counted toward the census, reported (R67, R121). -/
def declareSilence (w : Work) (c : CarId) : Work :=
  match record w.st c with
  | none => w
  | some old =>
    let w1 := w.up (fun s => countCar (alterCar s c (fun r => { r with linkStatus := .silent })) c)
    (silenceBy w1 c old.state).up (fun s => reportCar s c (some old) .silence none)

/-- The states in which a declaration of silence empties the slot, so that the missed command is discarded with it (R61). -/
def emptiesSlot (st : CarState) : Bool :=
  [.queued, .staged, .idle, .parked, .held, .failed].contains st

/-- A dropped command handed on by its kind (R61). -/
def dropCommand (w : Work) (c : CarId) (cmd : Command) : Work :=
  match cmd.kind with
  | .park => handSheds ((parkDropped w c).up (fun s => reportCar s c (record w.st c) .evaluation none))
  | .serve => handSheds (serveDropped w c cmd.permit)
  | .handBack => w.up (fun s => replaceHandBack s c)
  | .hold => w
  | .runTo => w
  | .stopNext => w

/-- A missed command superseded, returned to its slot, or dropped (R61). -/
def missedCommand (w : Work) (c : CarId) (cmd : Command) : Work :=
  if (carLink w.st c).slot.isSome then w
  else if cmd.tries < Config.tries then w.up (fun s => alterLink s c (fun l => { l with slot := some cmd }))
  else dropCommand w c cmd

/-- The car whose STOP-NEXT this miss drops (R61, R62). -/
def droppedStop (s : State) (x : Exchange) : Option CarId :=
  match x.request with
  | .command cmd =>
    if cmd.kind = .stopNext ∧ (carLink s x.car).slot = none ∧ Config.tries ≤ cmd.tries then some x.car else none
  | .poll => none

/-- What becomes of the request of a missed exchange. -/
def missedRequest (w : Work) (c : CarId) (q : Request) : Work :=
  match q with
  | .command cmd => missedCommand w c cmd
  | .poll => w

/-- A missed exchange: the command, and a declaration of silence at the threshold, in the order given where both act (R61, R66,
R67, R160). -/
def handMiss (w : Work) (x : Exchange) (order : DropOrder) : Work :=
  let declares := (carLink w.st x.car).missed == w.st.setup.limits.silenceThreshold
  if declares then
    if ((stateOf w.st x.car).map emptiesSlot).getD false then declareSilence w x.car
    else
      match order with
      | .dropFirst => declareSilence (missedRequest w x.car x.request) x.car
      | .silenceFirst => missedRequest (declareSilence w x.car) x.car x.request
  else missedRequest w x.car x.request

/-- The exchange in flight on a link missed (R54, R66). -/
def missExchange (s : State) (k : Link) (order : DropOrder) : State :=
  match (linkLine s k).exchange with
  | some x =>
    let s1 := endMissed s k x.car
    completeWith (handMiss (begin s1) x order) (droppedStop s1 x)
  | none => s

/-! ## Silent hold expiry (R70) -/

/-- The silent hold timer of a SILENT car has reached its expiry. -/
def holdDue (s : State) (c : CarId) : Bool :=
  stateOf s c == some .silent && timerDue s.time (carLink s c).silentHold

/-- The expiry taken: the entry released, the slot emptied, the car FAILED with reason SILENT. -/
def expireHold (w : Work) (c : CarId) : Work :=
  (releaseEntry w c).up (fun s => reportCar (failCar (emptySlot s c) c .silent) c (record w.st c) .silentExpiry none)

end Sys2Proof.Machine
end

