-- ==== Sys2Proof/Machine/PortOps.lean ====
section
/-! DEFINITION. The Message Port (10): the receive framer, the taking of requests, the transmitter. -/

namespace Sys2Proof.Machine

/-! ## Reception (R167) -/

/-- The sync byte (Table 10-1). -/
def syncByte : Byte := 0xA5

/-- The body length a frame's byte 1 gives, once it has arrived (Table 10-1). -/
def frameLength (bytes : List Byte) : Option Nat := (bytes[1]?).map (·.toNat)

/-- A whole frame's CRC field, least significant byte first, equals the CRC over bytes 1 to 3+n (R167). -/
def crcMatches (bytes : List Byte) (n : Nat) : Bool :=
  match bytes.drop (n + 4) with
  | [lo, hi] => crc16 ((bytes.drop 1).take (n + 3)) == hi ++ lo
  | _ => false

/-- What one received thing does to the framer; the flag says that a frame has completed with its CRC matching. -/
structure Fed where
  framer : Framer
  done : Bool

/-- The framer with one more byte of a frame in progress (R167). -/
def collect (bytes : List Byte) (now : Time) : Fed :=
  match frameLength bytes with
  | none => ⟨.assembling bytes now, false⟩
  | some n =>
    if 250 < n then ⟨.hunting, false⟩
    else if bytes.length < n + 6 then ⟨.assembling bytes now, false⟩
    else ⟨.hunting, crcMatches bytes n⟩

/-- A byte that arrives while hunting (R167). -/
def hunt (b : Byte) (now : Time) : Fed := if b = syncByte then collect [b] now else ⟨.hunting, false⟩

/-- A gap of more than 20 ms has passed since the last byte of a frame (R167). -/
def gapPassed (now last : Time) : Bool := decide (Config.frameGap < Time.since now last)

/-- One received thing taken by the framer (R166, R167). -/
def feed (f : Framer) (now : Time) (x : RxItem) : Fed :=
  match x, f with
  | .framingError, _ => ⟨.hunting, false⟩
  | .byte b, .hunting => hunt b now
  | .byte b, .assembling bytes last => if gapPassed now last then hunt b now else collect (bytes ++ [b]) now

/-- Everything received in turn; none when a frame completes, which is a request's own event. -/
def feedAll (f : Framer) (now : Time) : List RxItem → Option Framer
  | [] => some f
  | x :: rest =>
    let r := feed f now x
    if r.done then none else feedAll r.framer now rest

/-- The state with another framer. -/
def setFramer (s : State) (f : Framer) : State := s.setPort { s.port with framer := f }

/-! ## Requests and replies (R168) -/

/-- What a request's rule makes of it: the state once its event is complete, the result code and the content of the reply. -/
structure Taken where
  st : State
  code : ResultCode
  content : Content

/-- A refusal: nothing changes, and the body of the reply is the result code alone. -/
def refuse (s : State) (code : ResultCode) : Taken := ⟨s, code, .nothing⟩

/-- An accepted request whose event leaves a state, its reply formed from that state. -/
def accept (s : State) (content : State → Content) : Taken := ⟨s, .ok, content s⟩

/-- A reply placed at the tail of the reply path. -/
def answer (kind tag : Byte) (t : Taken) : State :=
  t.st.setPort { t.st.port with replies := t.st.port.replies ++ [⟨kind, tag, t.code, t.content⟩] }

/-- A complete frame taken as a request: nothing once a RESTART is accepted (R176); without action or reply when 8 replies wait
(overrun); otherwise by its rule (R168). The framer returns to hunting (R167). -/
def takeFrame (s : State) (kind tag : Byte) (rule : State → Taken) : State :=
  if s.port.restart.isSome then s
  else
    let s1 := setFramer s .hunting
    if Config.replyRoom ≤ s1.port.replies.length then s1 else answer kind tag (rule s1)

/-- A request of the request set taken. -/
def takeRequest (s : State) (kind : ReqKind) (tag : Byte) (rule : State → Taken) : State :=
  takeFrame s (requestCode kind) tag rule

/-- A request without a body: any body is refused BAD-LENGTH (R168). -/
def bare (body : List Byte) (rule : State → Taken) (s : State) : Taken :=
  if body.isEmpty then rule s else refuse s .badLength

/-- A request with contents: a body of a length its format does not allow is refused BAD-LENGTH (R168). -/
def withBody {α : Type} (body : Body α) (rule : α → State → Taken) (s : State) : Taken :=
  match body with
  | .fields a => rule a s
  | .badLength => refuse s .badLength

/-- A request accepted only in HALTED and outside a plan save: WRONG-STATE, then BUSY (R168, Table 10-3). -/
def inHalted (s : State) (rule : State → Taken) : Taken :=
  if s.plan.state ≠ .halted then refuse s .wrongState else if saving s then refuse s .busy else rule s

/-- The modified marker set (R180). -/
def markModified (s : State) : State := s.setStore { s.store with modified := true }

/-! ## The transmitter (R169, R172) -/

/-- The status flags byte: bit 0 the report-gap flag, bit 1 the supply-dip flag (R172). -/
def flagsByte (p : Port) : Byte := BitVec.ofNat 8 (bitAt p.gapFlag 0 + bitAt p.dipFlag 1)

/-- The free transmitter's next frame: the oldest reply, else the head report, else none (R169). -/
def Port.transmit (p : Port) : Port :=
  match p.replies, p.reports with
  | r :: rest, _ => { p with tx := some (.reply r), replies := rest }
  | [], r :: rest => { p with tx := some (.report (flagsByte p) r), reports := rest }
  | [], [] => { p with tx := none }

/-- The frame being sent is the reply to an accepted RESTART (R176). -/
def sendingRestart (p : Port) : Bool :=
  p.restart.isSome
    && match p.tx with
       | some (.reply r) => r.kind == requestCode .restart && r.code == .ok
       | _ => false

end Sys2Proof.Machine
end

