-- ==== Sys2Proof/Machine/StoreOps.lean ====
section
/-! DEFINITION. The Plan Store and the three resets (11; R13, R14, R30, R31, R52, R53, R75, R111, R112, R152, R176). -/

namespace Sys2Proof.Machine

/-- The part reads a format version (R179). -/
def readsVersion (v : Nat) : Bool := v == Config.formatVersion || Config.olderVersions.contains v

/-- A stored image is valid: check word, marker, version and length are right (R179). -/
def imageValid (im : PlanImage) : Bool :=
  im.check == some (crc32 im.bytes) && im.marker == Config.formatMarker && readsVersion im.version
    && im.length == Config.lengthOf im.version

/-- The image that the part writes of a configuration, with its check word or with that cleared (R179, R182). -/
def imageOf (su : Setup) (checked : Bool) : PlanImage where
  marker := Config.formatMarker
  version := Config.formatVersion
  length := Config.contentsLength
  bytes := Config.imageBytes su
  check := if checked then some (crc32 (Config.imageBytes su)) else none
  contents := su

/-- A STORE-DONE report of a save that copied `su` (R182). -/
def storeDone (s : State) (su : Setup) (fault : Option StoreFaultCause) : Report :=
  .storeDone ⟨fault, su.planId, Config.contentsLength, s.time⟩

/-- A save ended OK: the read-back matches (R182). -/
def saveGood (s : State) (su : Setup) : State :=
  queueReport
    (s.setStore { s.store with image := .written (imageOf su true), status := .valid, fault := false, save := none })
    (storeDone s su none)

/-- A save ended with FAULT, leaving this in the store (R182). -/
def saveBad (s : State) (su : Setup) (image : PlanImage) (why : StoreFaultCause) : State :=
  queueReport
    (s.setStore { s.store with image := .written image, status := .invalid, fault := true, modified := true, save := none })
    (storeDone s su (some why))

/-- What the store holds when a reset comes: a save in progress is abandoned. Before its check word was written it leaves an image
that is not valid, and during the read-back the new image stands, with the bytes that the store has taken (R182, log 26). -/
def imageAtReset (st : Store) (cut : SaveCut) : StoredImage :=
  match st.save with
  | none => st.image
  | some su =>
    match cut with
    | .beforeCheckWord => .written (imageOf su false)
    | .duringReadBack flawed => .written { imageOf su true with bytes := flawed.getD (Config.imageBytes su) }

/-- What the load makes of the store: working configuration, image status, store fault, modified marker, load result (R183). -/
structure Loaded where
  setup : Setup
  status : ImageStatus
  fault : Bool
  modified : Bool
  result : LoadResult

/-- The load (R183). -/
def load (image : StoredImage) : Loaded :=
  match image with
  | .neverWritten => ⟨Setup.empty, .blank, false, true, .blank⟩
  | .written im =>
    if imageValid im then ⟨im.contents, .valid, false, false, .loaded⟩ else ⟨Setup.empty, .invalid, true, true, .invalid⟩

/-- The arm outcome in the start-up record. -/
def setOutcome (s : State) (o : ArmOutcome) : State :=
  s.setStore { s.store with startup := { s.store.startup with arm := o } }

/-- The arm made at a reset, without a reply (R184, R185). -/
def autoArm (w : Work) : Work :=
  match commission w.st.setup with
  | some f => w.up (fun s => setOutcome s (.refused f))
  | none => armPlan (w.up (fun s => setOutcome s .armed))

/-- The state when a power-on or external reset ends, before any arm: every block's values from the loaded or empty
configuration, with the history and supply-dip flag given (R13, R30, R52, R75, R111, R112, R152, R153, R176, R183). -/
def afterReset (s : State) (kind : ResetKind) (image : StoredImage) (hist : History) (dip : Bool) : State :=
  let ld := load image
  { pending := s.pending
    time := 0
    setup := ld.setup
    lines := Table.const 8 LineState.fresh
    cap := Capacity.fresh ld.setup 0
    cars := freshCars ld.setup
    link := LinkCtl.fresh
    acct := Account.fresh
    hist := { hist with timer := none }
    plan := PlanCtl.fresh 0
    ret := Returns.fresh
    svc := Selector.fresh ld.setup
    port := Port.fresh ld.setup dip
    inds := Table.const 2 .low
    store := ⟨image, ld.status, ld.fault, ld.modified, none, ⟨kind, ld.result, .notCalled⟩⟩ }

/-- The autostart arm is called for (R184). -/
def autostarts (s : State) : Bool := s.store.startup.load == .loaded && s.setup.autostart == some true

/-- The end of a power-on or external reset, with the autostart arm in the same event (R183, R184). -/
def endReset (s : State) : State := complete (if autostarts s then autoArm (begin s) else begin s)

/-- The Capacity Unit rebuilt at a RESTART from the effective levels as they stand (R31); C and S are formed after it. -/
def rebuildCapacity (s : State) : State :=
  s.setCap
    { s.cap with
      sets := Table.tabulate (fun n =>
        ⟨100, if (s.setup.sets.at n).enabled && isActive s (setLineOf n) then .accepting else .offline⟩)
      settle := some (after s s.setup.limits.settle) }

/-- The state when a RESTART ends, before any arm: the working configuration, device time, the lines, the history and the flags
stand; everything else is rebuilt (R14, R31, R53, R75, R111, R112, R152, R153, R176, R185). -/
def afterRestart (s : State) : State :=
  recompute (rebuildCapacity
    { s with
      cars := freshCars s.setup
      link := LinkCtl.fresh
      acct := Account.fresh
      hist := { s.hist with timer := none }
      plan := PlanCtl.fresh s.time
      ret := Returns.fresh
      svc := Selector.fresh s.setup
      port :=
        { s.port with
          rateInUse := s.setup.limits.rate, framer := .hunting, restart := none, replies := [], tx := none, reports := [] }
      store := { s.store with startup := ⟨.restart, .kept, .notCalled⟩ } })

/-- The restart taken: the part arms itself in the same event when the plan was out of HALTED at the request (R176, R185). -/
def takeRestart (s : State) : State :=
  let w := begin (afterRestart s)
  complete (if s.port.restart = some true then autoArm w else w)

end Sys2Proof.Machine
end

