-- ==== Sys2Proof/Machine/LineOps.lean ====
section
/-! DEFINITION. The Line Qualifier (01): qualification from the pins and from the host, and the restart of a line. -/

namespace Sys2Proof.Machine

/-- A line's state changed. -/
def alterLine (s : State) (l : LineId) (f : LineState → LineState) : State := s.setLines (s.lines.alter l f)

/-- The settings of a line. -/
def lineSettings (s : State) (l : LineId) : LineSettings := s.setup.lines.at l

/-- The logical level of an electrical level (R5). -/
def logical (p : Polarity) (pin : PinLevel) : Level :=
  match p, pin with
  | .activeHigh, .high => .active
  | .activeHigh, .low => .inactive
  | .activeLow, .high => .inactive
  | .activeLow, .low => .active

/-- A line's state after a qualified change (R8, steps 1 and 2). -/
def LineState.changed (now : Time) (level : Level) (x : LineState) : LineState :=
  { x with qualified := some level, held := none, lastChange := some now, count := min 255 (x.count + 1) }

/-- The LINE-EVENT report of a qualified change from the state `old` (R9). -/
def lineEvent (s : State) (l : LineId) (old new : LineState) (level : Level) : Report :=
  .lineEvent
    { line := l, source := (lineSettings s l).source, level, first := old.qualified.isNone, time := s.time,
      count := new.count }

/-- A qualified change: recorded, reported, and handed on when the effective level has changed (R8). -/
def qualifiedChange (w : Work) (l : LineId) (level : Level) : Work :=
  let old := w.st.lines.at l
  let new := old.changed w.st.time level
  let w1 := w.up (fun s => queueReport (alterLine s l (fun _ => new)) (lineEvent s l old new level))
  if effectiveOf old = level then w1 else handLine w1 l level

/-- A logical sample offered to qualification (R6, R7). -/
def offerSample (w : Work) (l : LineId) (level : Level) : Work :=
  let x := w.st.lines.at l
  match x.qualified with
  | some q =>
    if level = q then w.up (fun s => alterLine s l (fun y => { y with held := none }))
    else if x.held.isSome then qualifiedChange w l level
    else w.up (fun s => alterLine s l (fun y => { y with held := some level }))
  | none =>
    if x.held = some level then qualifiedChange w l level
    else w.up (fun s => alterLine s l (fun y => { y with held := some level }))

/-- The line's sample timer has reached its expiry. -/
def sampleDue (s : State) (l : LineId) : Bool := reached s.time (s.lines.at l).nextSample

/-- The raw level recorded and the sample timer restarted (R5). -/
def recordRaw (s : State) (l : LineId) (pin : PinLevel) : State :=
  alterLine s l (fun x => { x with raw := some pin, nextSample := after s (lineSettings s l).period })

/-- A sample of a line's pin (R5). -/
def samplePin (w : Work) (l : LineId) (pin : PinLevel) : Work :=
  let w1 := w.up (fun s => recordRaw s l pin)
  match (lineSettings w.st l).source with
  | .wired => offerSample w1 l (logical (lineSettings w.st l).polarity pin)
  | .message => w1

/-- One item of a LINE-REPORT applied (R11): the Plan Controller acts on a change before the next item. -/
def applyItem (w : Work) (l : LineId) (level : Level) : Work :=
  let w1 := w.up (fun s => alterLine s l (fun x => { x with lastReport := some s.time }))
  if (w1.st.lines.at l).qualified = some level then w1 else planRun (qualifiedChange w1 l level)

/-- The settings of a line stored. -/
def storeLine (s : State) (l : LineId) (x : LineSettings) : State :=
  s.setSetup { s.setup with lines := s.setup.lines.put l x }

/-- The expiry of the sample timer of a restarted line: a WIRED line's first sample is taken at once (R3). DESIGN CHOICE: a
MESSAGE line's timer runs on, from now with a new period when that differs too (log 12). -/
def restartedSample (s : State) (old new : LineSettings) (x : LineState) : Time :=
  match new.source with
  | .wired => s.time
  | .message => if old.period = new.period then x.nextSample else after s new.period

/-- An accepted SET-LINE takes effect on its line (R3). -/
def changeLine (w : Work) (l : LineId) (new : LineSettings) : Work :=
  let old := lineSettings w.st l
  let x := w.st.lines.at l
  let w1 := w.up (fun s => storeLine s l new)
  if old.polarity = new.polarity ∧ old.source = new.source then
    if old.period = new.period then w1
    else w1.up (fun s => alterLine s l (fun y => { y with nextSample := after s new.period }))
  else
    let w2 := w1.up (fun s =>
      alterLine s l (fun y => { y with qualified := none, held := none, nextSample := restartedSample s old new y }))
    if effectiveOf x = .active then handLine w2 l .inactive else w2

end Sys2Proof.Machine
end

