-- ==== Sys2Proof/Machine/Resets.lean ====
section
/-! DEFINITION. The meanings of the resets, the supply dip and the end of a save. -/

namespace Sys2Proof.Machine

/-- POWER_ON_RESET (R183): the image loaded, every block at its power-on values, the supply-dip flag set (R186), the autostart arm. -/
def execPowerOnReset (cut : SaveCut) (s : State) : Host.Outcome State Fault Refusal :=
  .next (endReset (afterReset s .powerOn (imageAtReset s.store cut) History.fresh true))

/-- EXTERNAL_RESET (R183): as a power-on reset, but the history (R111) and the supply-dip flag (R186) are kept. -/
def execExternalReset (cut : SaveCut) (s : State) : Host.Outcome State Fault Refusal :=
  .next (endReset (afterReset s .external (imageAtReset s.store cut) s.hist s.port.dipFlag))

/-- SUPPLY_DIP (R186): the supply-dip flag set; a save in progress ends with FAULT, its check word cleared (R182). -/
def execSupplyDip (s : State) : Host.Outcome State Fault Refusal :=
  let s1 := s.setPort { s.port with dipFlag := true }
  match s.store.save with
  | some su => .next (driveLines (saveBad s1 su (imageOf su false) .supplyDip))
  | none => .next (driveLines s1)

/-- SAVE_END (R182): the image read back is compared with the copy. Nothing while no save is in progress. -/
def execSaveEnd (readBack : PlanImage) (s : State) : Host.Outcome State Fault Refusal :=
  match s.store.save with
  | some su =>
    if readBack = imageOf su true then .next (driveLines (saveGood s su))
    else .next (driveLines (saveBad s su readBack .verify))
  | none => .next s

/-- RESTART_TAKEN (R176, R185): the last byte of the RESTART reply has been sent. Nothing unless that reply is being sent. -/
def execRestartTaken (s : State) : Host.Outcome State Fault Refusal :=
  if sendingRestart s.port then .next (takeRestart s) else .next s

end Sys2Proof.Machine
end

