-- ==== Sys2Proof/Machine/PlantEvents.lean ====
section
/-! DEFINITION. The meanings of the plant's events: a line's sample and the settle expiry. -/

namespace Sys2Proof.Machine

/-- LINE_SAMPLE (R5): the sample timer of a line has expired, the pin at this level. Nothing before the expiry. -/
def execLineSample (l : LineId) (pin : PinLevel) (s : State) : Host.Outcome State Fault Refusal :=
  if sampleDue s l then .next (complete (samplePin (begin s) l pin)) else .next s

/-- SETTLE_EXPIRY (R20). Nothing while the settle timer is stopped or before its expiry. -/
def execSettleExpiry (s : State) : Host.Outcome State Fault Refusal :=
  if timerDue s.time s.cap.settle then .next (complete (settleEvent (begin s))) else .next s

end Sys2Proof.Machine
end

