-- ==== Sys2Proof/Machine/LinkEvents.lean ====
section
/-! DEFINITION. The meanings of the car link's events. -/

namespace Sys2Proof.Machine

/-- CAR_REPLY (R57): a reply arrives on a link; it is taken when it is valid for the exchange in flight (R56). -/
def execCarReply (k : Link) (r : CarReply) (s : State) : Host.Outcome State Fault Refusal := .next (receiveReply s k r)

/-- CAR_REPLY_INVALID (R56): a reply arrives that is discarded, and the exchange stays in flight. Whether it is, the tests of R56
decide, as for CAR_REPLY. -/
def execCarReplyInvalid (k : Link) (r : CarReply) (s : State) : Host.Outcome State Fault Refusal := .next (receiveReply s k r)

/-- MISSED_EXCHANGE (R66): the reply timeout of the exchange in flight on a link expires. Nothing with none in flight. -/
def execMissedExchange (k : Link) (order : DropOrder) (s : State) : Host.Outcome State Fault Refusal :=
  .next (missExchange s k order)

/-- SILENT_HOLD_EXPIRY (R70). Nothing unless the car is SILENT and its timer has reached its expiry. -/
def execSilentHoldExpiry (c : CarId) (s : State) : Host.Outcome State Fault Refusal :=
  if holdDue s c then .next (complete (handSheds (expireHold (begin s) c))) else .next s

end Sys2Proof.Machine
end

