-- ==== Sys2Proof/Machine/TimerEvents.lean ====
section
/-! DEFINITION. The meanings of the timer expiries of the Power Account, the Return Sequencer and the Plan Controller. -/

namespace Sys2Proof.Machine

/-- The start window of a car's RETURN entry in START phase has reached its expiry and has not lapsed (R96). -/
def windowDue (s : State) (c : CarId) : Bool :=
  match entryOf s c with
  | some e =>
    match e.window with
    | some win => e.starting && !win.lapsed && reached s.time win.expiry
    | none => false
  | none => false

/-- A start window marked lapsed (R96). -/
def lapseWindow (e : Entry) : Entry := { e with window := e.window.map (fun x => { x with lapsed := true }) }

/-- A start window's expiry, by the car's recorded motion and link status (R96). -/
def expireWindow (w : Work) (c : CarId) : Work :=
  match record w.st c with
  | none => w
  | some r =>
    if isMoving r then
      (stepEntry w c).up (fun s =>
        reportCar (if r.state = .starting then moveCar s c .running else s) c (some r) .step none)
    else if r.linkStatus = .inContact then
      (startExpired w c).up (fun s => reportCar s c (some r) .stop none)
    else w.up (fun s => s.setAcct (s.acct.change c lapseWindow))

/-- The deadline of a car's RETURN entry not in STOP phase has been reached (R147). -/
def deadlineDue (s : State) (c : CarId) : Bool :=
  match entryOf s c with
  | some e => e.kind == .returning && e.phase != .stop && timerDue s.time e.deadline
  | none => false

/-- A deadline's expiry (R147). -/
def expireDeadline (w : Work) (c : CarId) : Work :=
  (moveToStop w c .deadline).up (fun s =>
    let s1 := place s c .stopNext
    if stateOf s c = some .silent then s1 else reportCar (moveCar s1 c .stopping) c (record s c) .deadline none)

/-- The restore timer has reached its expiry (R126). -/
def restoreDue (s : State) : Bool :=
  match s.plan.restore with
  | .running expiry => reached s.time expiry
  | .stopped => false
  | .lapsed => false

/-- START_WINDOW_EXPIRY (R96). Nothing unless the window stands and has reached its expiry. -/
def execStartWindowExpiry (c : CarId) (s : State) : Host.Outcome State Fault Refusal :=
  if windowDue s c then .next (complete (handSheds (expireWindow (begin s) c))) else .next s

/-- HISTORY_SAMPLE (R105): a sample is taken and the timer started again, unless the ring has frozen. Nothing before the expiry. -/
def execHistorySample (s : State) : Host.Outcome State Fault Refusal :=
  if timerDue s.time s.hist.timer then .next (rearmSampling (takeSample s)) else .next s

/-- DEADLINE_EXPIRY (R147). Nothing unless the deadline stands and has been reached. -/
def execDeadlineExpiry (c : CarId) (s : State) : Host.Outcome State Fault Refusal :=
  if deadlineDue s c then .next (complete (expireDeadline (begin s) c)) else .next s

/-- SPACING_EXPIRY (R139): the timer stops, and both granting blocks are reached. Nothing before the expiry. -/
def execSpacingExpiry (s : State) : Host.Outcome State Fault Refusal :=
  if timerDue s.time s.ret.spacing then .next (complete (begin (s.setRet { s.ret with spacing := none })).noteBoth)
  else .next s

/-- RESTORE_TIMEOUT (R126): the timer lapses and the exits are tested. Nothing before the expiry. -/
def execRestoreTimeout (s : State) : Host.Outcome State Fault Refusal :=
  if restoreDue s then .next (complete (begin (s.setPlan { s.plan with restore := .lapsed }))) else .next s

end Sys2Proof.Machine
end

