-- ==== Sys2Proof/Machine/PortEvents.lean ====
section
/-! DEFINITION. The meanings of the Message Port's own events: discarded frames, unknown kinds, the transmitter. -/

namespace Sys2Proof.Machine

/-- The gap timer of a frame in progress has expired: 20 ms and more since its last byte (R167). -/
def gapDue (s : State) : Bool :=
  match s.port.framer with
  | .assembling _ last => decide (Config.frameGap ≤ Time.since s.time last)
  | .hunting => false

/-- FRAME_GAP_TIMEOUT (R167): the frame in progress is discarded and the framer hunts. Nothing unless the gap timer has expired. -/
def execFrameGapTimeout (s : State) : Host.Outcome State Fault Refusal :=
  if gapDue s then .next (setFramer s .hunting) else .next s

/-- FRAME_DISCARDED (R167): bytes and framing errors are received that complete no frame. Nothing once a RESTART is accepted
(R176), nor when they would complete a frame, which is a request's own event. -/
def execFrameDiscarded (rx : List RxItem) (s : State) : Host.Outcome State Fault Refusal :=
  if s.port.restart.isSome then .next s
  else
    match feedAll s.port.framer s.time rx with
    | some f => .next (setFramer s f)
    | none => .next s

/-- UNKNOWN_KIND (R168): a complete frame whose kind names no request is answered UNKNOWN-KIND. Nothing for a kind that names
one. -/
def execUnknownKind (kind tag : Byte) (_body : List Byte) (s : State) : Host.Outcome State Fault Refusal :=
  if requestCodes.contains kind then .next s else .next (takeFrame s kind tag (fun s1 => refuse s1 .unknownKind))

/-- TRANSMIT_END (R169): the frame being sent ends, and the transmitter takes the next. When it was the RESTART reply, the restart
is taken (R176). Nothing while the transmitter is idle. -/
def execTransmitEnd (s : State) : Host.Outcome State Fault Refusal :=
  if sendingRestart s.port then .next (takeRestart s)
  else if s.port.tx.isSome then .next (s.setPort s.port.transmit)
  else .next s

/-- TRANSMIT_START (R169, R172): the idle transmitter takes the oldest reply or else the head report. Nothing while it sends. -/
def execTransmitStart (s : State) : Host.Outcome State Fault Refusal :=
  if s.port.tx.isSome then .next s else .next (s.setPort s.port.transmit)

end Sys2Proof.Machine
end

