-- ==== Sys2Proof/Machine/ConfigRequests.lean ====
section
/-! DEFINITION. The meanings of the requests that write configuration (R2, R16, R32, R34, R170, R177). Each has a rule, from the
state in which the frame is taken to the state and reply. -/

namespace Sys2Proof.Machine

/-! ## SET-LIMITS (R170) -/

/-- The limits stored; every runtime count is set from the configured ones (R153). -/
def storeLimits (s : State) (l : Limits) : State :=
  markModified ((s.setSetup { s.setup with limits := l }).setSvc { s.svc with counts := l.counts })

/-- The rule of SET-LIMITS. -/
def ruleSetLimits (f : LimitsForm) (s : State) : Taken :=
  inHalted s fun s =>
    match checkLimits f with
    | some l => accept (complete (capacityEvent (begin s) (fun x => storeLimits x l))) (fun x => .limits x.setup.limits)
    | none => refuse s .outOfRange

/-- SET_LIMITS (R170). -/
def execSetLimits (tag : Byte) (body : Body LimitsForm) (s : State) : Host.Outcome State Fault Refusal :=
  .next (takeRequest s .setLimits tag (withBody body ruleSetLimits))

/-! ## SET-CAR and DROP-CAR (R32 to R34) -/

/-- A car's profile and record replaced. -/
def storeCar (s : State) (c : CarId) (p : CarProfile) : State :=
  markModified
    ((s.setSetup { s.setup with profiles := s.setup.profiles.put c p }).setCars
      (s.cars.put c (if p.enrolled then some CarRecord.initial else none)))

/-- The rule of SET-CAR, its range list apart. -/
def storeCarForm (f : CarForm) (s : State) : Taken :=
  inHalted s fun s =>
    match numbered 48 f.car, checkProfile f with
    | some c, some p => accept (driveLines (storeCar s c p)) (fun x => .profile (profile x c))
    | _, _ => refuse s .outOfRange

/-- The rule of SET-CAR: a list of landing ranges that is empty or longer than four is refused BAD-LENGTH (R32). -/
def ruleSetCar (f : CarForm) (s : State) : Taken :=
  if within 1 4 f.ranges.length then storeCarForm f s else refuse s .badLength

/-- SET_CAR (R32). -/
def execSetCar (tag : Byte) (body : Body CarForm) (s : State) : Host.Outcome State Fault Refusal :=
  .next (takeRequest s .setCar tag (withBody body ruleSetCar))

/-- The rule of DROP-CAR (R34): a waiting command of the car leaves its slot (R59). -/
def ruleDropCar (n : Nat) (s : State) : Taken :=
  inHalted s fun s =>
    match numbered 48 n with
    | none => refuse s .outOfRange
    | some c =>
      if enrolled s c then
        accept (driveLines (emptySlot (storeCar s c { profile s c with enrolled := false }) c)) (fun _ => .nothing)
      else refuse s .notEnrolled

/-- DROP_CAR (R34). -/
def execDropCar (tag : Byte) (body : Body Nat) (s : State) : Host.Outcome State Fault Refusal :=
  .next (takeRequest s .dropCar tag (withBody body ruleDropCar))

/-! ## SET-GENSET (R16, R17) -/

/-- The configuration of a set stored. -/
def storeSet (s : State) (n : SetId) (x : SetSettings) : State :=
  markModified (s.setSetup { s.setup with sets := s.setup.sets.put n x })

/-- What an accepted SET-GENSET does to the set (R17). -/
def changeSet (s : State) (n : SetId) (x : SetSettings) : State :=
  let was := (s.setup.sets.at n).enabled
  let s1 := storeSet s n x
  if !x.enabled && (s.cap.sets.at n).status != .offline then stageChange (setStatus s1 n .offline)
  else if !was && x.enabled && isActive s (setLineOf n) then stageChange (setStatus s1 n .accepting)
  else s1

/-- A set's settings and state as the SET-GENSET reply carries them. -/
def gensetView (s : State) (n : SetId) : GensetView :=
  let x := s.setup.sets.at n
  let r := s.cap.sets.at n
  ⟨x.enabled, x.allocation, r.trim, r.status, s.cap.c⟩

/-- The rule of SET-GENSET. -/
def ruleSetGenset (f : GensetForm) (s : State) : Taken :=
  inHalted s fun s =>
    match numbered 4 f.set, checkGenset f with
    | some n, some x => accept (complete (capacityEvent (begin s) (fun y => changeSet y n x))) (fun y => .genset (gensetView y n))
    | _, _ => refuse s .outOfRange

/-- SET_GENSET (R16). -/
def execSetGenset (tag : Byte) (body : Body GensetForm) (s : State) : Host.Outcome State Fault Refusal :=
  .next (takeRequest s .setGenset tag (withBody body ruleSetGenset))

/-! ## SET-LINE (R2, R3) -/

/-- The rule of SET-LINE. -/
def ruleSetLine (f : LineForm) (s : State) : Taken :=
  inHalted s fun s =>
    match numbered 8 f.line, checkLine f with
    | some l, some x =>
      accept (complete (changeLine (begin (markModified s)) l x))
        (fun y => .line ⟨lineSettings y l, (y.lines.at l).qualified⟩)
    | _, _ => refuse s .outOfRange

/-- SET_LINE (R2). -/
def execSetLine (tag : Byte) (body : Body LineForm) (s : State) : Host.Outcome State Fault Refusal :=
  .next (takeRequest s .setLine tag (withBody body ruleSetLine))

/-! ## SET-INDICATOR (R177) -/

/-- The settings of an indication line stored. -/
def storeIndicator (s : State) (i : IndId) (x : IndSettings) : State :=
  markModified (s.setSetup { s.setup with inds := s.setup.inds.put i x })

/-- An indication line's settings and output level. -/
def indView (s : State) (i : IndId) : IndView := ⟨s.setup.inds.at i, s.inds.at i⟩

/-- The rule of SET-INDICATOR, part FULL. -/
def ruleIndicatorFull (f : IndFullForm) (s : State) : Taken :=
  inHalted s fun s =>
    match numbered 2 f.line, checkIndicator f with
    | some i, some x => accept (driveLines (storeIndicator s i x)) (fun y => .indicator (indView y i))
    | _, _ => refuse s .outOfRange

/-- The rule of SET-INDICATOR for a part other than VALUE: an unknown part is refused OUT-OF-RANGE. -/
def ruleIndicatorPart (p : IndPart) (s : State) : Taken :=
  match p with
  | .full f => ruleIndicatorFull f s
  | .unlisted => refuse s .outOfRange

/-- SET_INDICATOR_FULL (R177). -/
def execSetIndicatorFull (tag : Byte) (body : Body IndPart) (s : State) : Host.Outcome State Fault Refusal :=
  .next (takeRequest s .setIndicator tag (withBody body ruleIndicatorPart))

/-- The rule of SET-INDICATOR, part VALUE: the direct value alone, in every plan state and during a save. -/
def ruleIndicatorValue (f : IndValueForm) (s : State) : Taken :=
  match numbered 2 f.line, f.direct with
  | some i, some d =>
    accept (driveLines (storeIndicator s i { s.setup.inds.at i with direct := d })) (fun y => .indicator (indView y i))
  | _, _ => refuse s .outOfRange

/-- SET_INDICATOR_VALUE (R177). -/
def execSetIndicatorValue (tag : Byte) (body : Body IndValueForm) (s : State) : Host.Outcome State Fault Refusal :=
  .next (takeRequest s .setIndicator tag (withBody body ruleIndicatorValue))

end Sys2Proof.Machine
end

