-- ==== Sys2Proof/Machine/PlanRequests.lean ====
section
/-! DEFINITION. The meanings of ARM, HALT, SAVE-PLAN and RESTART. -/

namespace Sys2Proof.Machine

/-- The rule of ARM (R115): the commission check, then the plan leaves HALTED. -/
def ruleArm (s : State) : Taken :=
  inHalted s fun s =>
    match commission s.setup with
    | some f => ⟨s, .notReady, .armRefused f⟩
    | none => accept (complete (armPlan (begin s))) (fun x => .armed x.plan.state)

/-- ARM (R115). -/
def execArm (tag : Byte) (body : List Byte) (s : State) : Host.Outcome State Fault Refusal :=
  .next (takeRequest s .arm tag (bare body ruleArm))

/-- WATCHING or OUTAGE, the plan states in which HALT is accepted (R118). -/
def mayHalt (p : PlanState) : Bool := p == .watching || p == .outage

/-- The rule of HALT (R118). -/
def ruleHalt (s : State) : Taken :=
  if mayHalt s.plan.state then accept (complete (transition (begin s) .halted .halt)) (fun _ => .nothing)
  else refuse s .wrongState

/-- HALT (R118). -/
def execHalt (tag : Byte) (body : List Byte) (s : State) : Host.Outcome State Fault Refusal :=
  .next (takeRequest s .halt tag (bare body ruleHalt))

/-- The four things an accepted SAVE-PLAN does (R181). While it is written the stored image's check word is not there (R182). -/
def startSave (s : State) (id : BitVec 32) (auto : Bool) : State :=
  let su := { s.setup with planId := some id, autostart := some auto }
  (s.setSetup su).setStore
    { s.store with image := .written (imageOf su false), modified := false, status := .invalid, save := some su }

/-- The SAVE-PLAN reply's contents. -/
def saveView (s : State) : SaveView := ⟨s.setup.planId, s.setup.autostart, Config.contentsLength⟩

/-- The rule of SAVE-PLAN (R181). -/
def ruleSavePlan (body : List Byte) (s : State) : Taken :=
  if body.length = 5 then
    inHalted s fun s =>
      match savePlanFields body with
      | some (id, auto) => accept (driveLines (startSave s id auto)) (fun x => .saved (saveView x))
      | none => refuse s .outOfRange
  else refuse s .badLength

/-- SAVE_PLAN (R181). -/
def execSavePlan (tag : Byte) (body : List Byte) (s : State) : Host.Outcome State Fault Refusal :=
  .next (takeRequest s .savePlan tag (ruleSavePlan body))

/-- The rule of RESTART (R176, R185): from now the framer ignores every byte; the restart waits for the reply to be sent. -/
def ruleRestart (s : State) : Taken :=
  if saving s then refuse s .busy
  else accept (s.setPort { s.port with restart := some (s.plan.state != .halted) }) (fun _ => .nothing)

/-- RESTART (R185). -/
def execRestart (tag : Byte) (body : List Byte) (s : State) : Host.Outcome State Fault Refusal :=
  .next (takeRequest s .restart tag (bare body ruleRestart))

end Sys2Proof.Machine
end

