-- ==== Sys2Proof/Machine/RuntimeRequests.lean ====
section
/-! DEFINITION. The meanings of the runtime requests: trims, counts, hold-out, readmission, release, line reports, capture, flags. -/

namespace Sys2Proof.Machine

/-! ## TRIM-SET (R28) -/

/-- A set's trim replaced. -/
def setTrim (s : State) (n : SetId) (trim : Nat) : State :=
  s.setCap { s.cap with sets := s.cap.sets.alter n (fun r => { r with trim }) }

/-- The TRIM-SET reply's contents. -/
def trimView (s : State) (n : SetId) (clipped : Bool) : TrimView :=
  let r := s.cap.sets.at n
  ⟨n, r.trim, clipped, r.status, contribution s n, s.cap.c⟩

/-- The rule of TRIM-SET: a value above 100 is taken as 100. -/
def ruleTrimSet (f : TrimForm) (s : State) : Taken :=
  match numbered 4 f.set with
  | some n =>
    accept (complete (capacityEvent (begin s) (fun x => setTrim x n (min 100 f.trim.toNat))))
      (fun x => .trim (trimView x n (decide (100 < f.trim.toNat))))
  | none => refuse s .outOfRange

/-- TRIM_SET (R28). -/
def execTrimSet (tag : Byte) (body : Body TrimForm) (s : State) : Host.Outcome State Fault Refusal :=
  .next (takeRequest s .trimSet tag (withBody body ruleTrimSet))

/-! ## SET-SERVICE-COUNT (R154, R162) -/

/-- A bank's runtime count replaced. -/
def setCount (s : State) (b : BankId) (n : Nat) : State := s.setSvc { s.svc with counts := s.svc.counts.put b n }

/-- An accepted count: an increase reaches the selector, a decrease ends excess designations. -/
def changeCount (w : Work) (b : BankId) (n : Nat) : Work :=
  let w1 := w.up (fun s => setCount s b n)
  let w2 := if w.st.svc.counts.at b < n then w1.noteSs else w1
  trimDesignations w2 b

/-- The counts of every bank (R154). -/
def bankViews (s : State) : List BankView :=
  (indices 8).map (fun b => ⟨s.setup.limits.counts.at b, s.svc.counts.at b, designatedIn s b⟩)

/-- The rule of SET-SERVICE-COUNT. -/
def ruleServiceCount (f : CountForm) (s : State) : Taken :=
  match numbered 8 f.bank with
  | some b =>
    if f.count ≤ 12 then accept (complete (changeCount (begin s) b f.count)) (fun x => .counts (bankViews x))
    else refuse s .outOfRange
  | none => refuse s .outOfRange

/-- SET_SERVICE_COUNT (R154). -/
def execSetServiceCount (tag : Byte) (body : Body CountForm) (s : State) : Host.Outcome State Fault Refusal :=
  .next (takeRequest s .setServiceCount tag (withBody body ruleServiceCount))

/-! ## HOLD-OUT and READMIT (R49, R50) -/

/-- The conditions HOLD-OUT and READMIT share: WRONG-STATE in HALTED, OUT-OF-RANGE, NOT-ENROLLED (R49, R50). -/
def ofCar (n : Nat) (s : State) (rule : CarId → State → Taken) : Taken :=
  if s.plan.state = .halted then refuse s .wrongState
  else
    match numbered 48 n with
    | none => refuse s .outOfRange
    | some c => if enrolled s c then rule c s else refuse s .notEnrolled

/-- A car's state as a reply carries it. -/
def carStateView (s : State) (c : CarId) : Content :=
  match stateOf s c with
  | some st => .carState st
  | none => .nothing

/-- The plan states in which an IDLE car is held by HOLD-OUT (the table of R49). -/
def holdsIdle : PlanState → Bool
  | .settling => true
  | .returning => true
  | .service => true
  | .restoring => false
  | .halted => false
  | .watching => false
  | .outage => false

/-- A run or service ended by HOLD-OUT. -/
def stopForHoldOut (w : Work) (c : CarId) : Work :=
  (moveToStop w c .holdOut).up (fun s => moveCar (place s c .stopNext) c .stopping)

/-- What HOLD-OUT does by the car's state (the table of R49). -/
def holdOutBy (w : Work) (c : CarId) (st : CarState) : Work :=
  match st with
  | .starting => stopForHoldOut w c
  | .running => stopForHoldOut w c
  | .serving => stopForHoldOut w c
  | .queued => (leaveReturns w c).up (fun s => holdAs s c .held)
  | .staged => (leaveReturns w c).up (fun s => holdAs s c .held)
  | .parked => w.up (fun s => holdAs (clearPark s c) c .held)
  | .idle => if holdsIdle w.st.plan.state then w.up (fun s => holdAs (clearPark s c) c .held) else w
  | .stopping => w
  | .deferred => w
  | .silent => w
  | .absent => w
  | .held => w
  | .failed => w

/-- An accepted HOLD-OUT: a car whose flag is set already is left as it is (R49). -/
def holdOutCar (w : Work) (c : CarId) : Work :=
  match record w.st c with
  | none => w
  | some r =>
    if r.holdOut then w
    else
      (holdOutBy (w.up (fun s => alterCar s c (fun x => { x with holdOut := true }))) c r.state).up
        (fun s => reportCar s c (some r) .holdOut none)

/-- The rule of HOLD-OUT. -/
def ruleHoldOut (n : Nat) (s : State) : Taken :=
  ofCar n s fun c s => accept (complete (handSheds (holdOutCar (begin s) c))) (fun x => carStateView x c)

/-- HOLD_OUT (R49). -/
def execHoldOut (tag : Byte) (body : Body Nat) (s : State) : Host.Outcome State Fault Refusal :=
  .next (takeRequest s .holdOut tag (withBody body ruleHoldOut))

/-- What READMIT does with a HELD or FAILED car, its record as it now stands (R50). -/
def readmitHeld (w : Work) (c : CarId) (r : CarRecord) : Work :=
  let p := w.st.plan.state
  if r.linkStatus = .silent then w.up (fun s => moveCar s c .absent)
  else if isStopped r then (if adopts p then evaluate w c false else w)
  else if adopts p && isMoving r then
    if underLocal r then (if evaluates p then evaluate w c false else deferCar w c) else adoptCar w c
  else w

/-- READMIT's changes to the record and the selector's marker (R50, R161). -/
def clearForReadmit (s : State) (c : CarId) : State :=
  let s1 := alterCar s c (fun r => { r with holdOut := false, attempts := 0, failure := none })
  s1.setSvc { s1.svc with setAside := s1.svc.setAside.put c none }

/-- An accepted READMIT (R50). -/
def readmitCar (w : Work) (c : CarId) : Work :=
  match record w.st c with
  | none => w
  | some old =>
    let w1 := (w.up (fun s => clearForReadmit s c)).noteSs
    let w2 :=
      if old.state = .held ∨ old.state = .failed then
        match record w1.st c with
        | some r => readmitHeld w1 c r
        | none => w1
      else w1
    w2.up (fun s => reportCar s c (some old) .readmit none)

/-- The rule of READMIT. -/
def ruleReadmit (n : Nat) (s : State) : Taken :=
  ofCar n s fun c s => accept (complete (handSheds (readmitCar (begin s) c))) (fun x => carStateView x c)

/-- READMIT (R50). -/
def execReadmit (tag : Byte) (body : Body Nat) (s : State) : Host.Outcome State Fault Refusal :=
  .next (takeRequest s .readmit tag (withBody body ruleReadmit))

/-! ## RELEASE-GROUP (R143) -/

/-- The group and its readiness as they stand. -/
def groupView (s : State) : Content := .group ⟨s.ret.group, readiness s⟩

/-- The rule of RELEASE-GROUP: every reply carries the group and readiness as they stood when the request was taken. -/
def ruleReleaseGroup (s : State) : Taken :=
  if !granting s then ⟨s, .wrongState, groupView s⟩
  else if s.setup.limits.returnMode = .paced ∨ s.setup.limits.releaseSource = .timer then ⟨s, .wrongState, groupView s⟩
  else if s.ret.group.isEmpty || !(readiness s).all then ⟨s, .notReady, groupView s⟩
  else accept (complete (releaseStaged (begin s))) (fun _ => groupView s)

/-- RELEASE_GROUP (R143): a body is refused BAD-LENGTH, and that reply too carries the group and readiness. -/
def execReleaseGroup (tag : Byte) (body : List Byte) (s : State) : Host.Outcome State Fault Refusal :=
  .next (takeRequest s .releaseGroup tag (fun x =>
    if body.isEmpty then ruleReleaseGroup x else ⟨x, .badLength, groupView x⟩))

/-! ## LINE-REPORT (R10, R11) -/

/-- The items read out: every line 1..8 and named once, every level known (R10). -/
def readItems : List ReportItem → Option (List (LineId × Level))
  | [] => some []
  | x :: rest =>
    match numbered 8 x.line, x.level, readItems rest with
    | some l, some lev, some more => if more.any (fun y => y.1 == l) then none else some ((l, lev) :: more)
    | _, _, _ => none

/-- The level the items give a line. -/
def itemFor (items : List (LineId × Level)) (l : LineId) : Option Level :=
  (items.find? (fun y => y.1 == l)).map (·.2)

/-- The items applied in ascending line order (R11). -/
def applyItems (w : Work) (items : List (LineId × Level)) : Work :=
  (indices 8).foldl (fun acc l =>
    match itemFor items l with
    | some lev => applyItem acc l lev
    | none => acc) w

/-- Each line named, with its qualified level and change count (R10). DESIGN CHOICE: in ascending line order (log 41). -/
def reportedLines (s : State) (items : List (LineId × Level)) : List ReportedLine :=
  ((indices 8).filter (fun l => (itemFor items l).isSome)).map
    (fun l => ⟨l, (s.lines.at l).qualified, (s.lines.at l).count⟩)

/-- The rule of LINE-REPORT, its own refusals in its own order (R10). -/
def ruleLineReport (items : List ReportItem) (s : State) : Taken :=
  if within 1 8 items.length then
    match readItems items with
    | none => refuse s .outOfRange
    | some read =>
      if read.any (fun y => (lineSettings s y.1).source == .wired) then refuse s .wrongState
      else accept (complete (applyItems (begin s) read)) (fun x => .reported (reportedLines x read))
  else refuse s .badLength

/-- LINE_REPORT (R10). -/
def execLineReport (tag : Byte) (body : Body (List ReportItem)) (s : State) : Host.Outcome State Fault Refusal :=
  .next (takeRequest s .lineReport tag (withBody body ruleLineReport))

/-! ## CAPTURE and CAPTURE-RELEASE (R109) -/

/-- The rule of CAPTURE. -/
def ruleCapture (s : State) : Taken :=
  if s.plan.state = .halted ∨ !s.setup.limits.onHost then refuse s .wrongState
  else accept (offerTrigger s .host) (fun x => .capture ⟨triggerTaken s .host, x.hist.capture⟩)

/-- CAPTURE (R109). -/
def execCapture (tag : Byte) (body : List Byte) (s : State) : Host.Outcome State Fault Refusal :=
  .next (takeRequest s .capture tag (bare body ruleCapture))

/-- The record back to IDLE; a frozen ring is unfrozen, and sampling starts again outside HALTED (R109, R105). -/
def releaseCapture (s : State) : State :=
  let s1 := s.setHist { s.hist with capture := none }
  if frozen s.hist then startSampling s1 else s1

/-- The rule of CAPTURE-RELEASE: the reply carries the record as it stood before. -/
def ruleCaptureRelease (s : State) : Taken :=
  accept (releaseCapture s) (fun _ => .released s.hist.capture)

/-- CAPTURE_RELEASE (R109). -/
def execCaptureRelease (tag : Byte) (body : List Byte) (s : State) : Host.Outcome State Fault Refusal :=
  .next (takeRequest s .captureRelease tag (bare body ruleCaptureRelease))

/-! ## ACK-FLAGS (R175) -/

/-- Both flags cleared. -/
def clearFlags (s : State) : State := s.setPort { s.port with gapFlag := false, dipFlag := false }

/-- The rule of ACK-FLAGS: the reply carries the flags as they stood before. -/
def ruleAckFlags (s : State) : Taken :=
  accept (driveLines (clearFlags s)) (fun _ => .flags ⟨s.port.gapFlag, s.port.dipFlag⟩)

/-- ACK_FLAGS (R175). -/
def execAckFlags (tag : Byte) (body : List Byte) (s : State) : Host.Outcome State Fault Refusal :=
  .next (takeRequest s .ackFlags tag (bare body ruleAckFlags))

end Sys2Proof.Machine
end

