-- ==== Sys2Proof/Machine/Queries.lean ====
section
/-! DEFINITION. The meanings of the requests that read. -/

namespace Sys2Proof.Machine

/-! ## IDENTIFY (R171) -/

/-- The IDENTIFY reply's contents. -/
def identifyView (s : State) : IdentifyView :=
  ⟨Config.identifier, Config.revision, s.port.rateInUse, s.setup.limits.rate, s.time, s.plan.state, s.setup.planId⟩

/-- IDENTIFY (R171). -/
def execIdentify (tag : Byte) (body : List Byte) (s : State) : Host.Outcome State Fault Refusal :=
  .next (takeRequest s .identify tag (bare body (fun x => accept x (fun y => .identify (identifyView y)))))

/-! ## QUERY-PLAN (R130, R180) -/

/-- The car states in the order of Table 3-3. -/
def allCarStates : List CarState :=
  [.absent, .idle, .queued, .staged, .starting, .running, .stopping, .parked, .serving, .deferred, .held, .failed, .silent]

/-- The restore timer as QUERY-PLAN carries it. -/
def restoreView (s : State) : RestoreView :=
  match s.plan.restore with
  | .stopped => .stopped
  | .running expiry => .running (Time.since expiry s.time)
  | .lapsed => .lapsed

/-- The enrolled cars whose counted marker is as given. -/
def carsCounted (s : State) (b : Bool) : List CarId := (enrolledCars s).filter (fun c => s.plan.counted.at c == b)

/-- The cars whose marker is set in a table. -/
def carsMarked (t : Table Bool 48) : List CarId := (indices 48).filter t.at

/-- The QUERY-PLAN reply's contents (R130). DESIGN CHOICE: with every enrolled car counted there is no lowest-numbered car not yet
counted, and none is carried (log 49). -/
def planView (s : State) : PlanView where
  state := s.plan.state
  enteredAt := s.plan.enteredAt
  util := effective s utilLine
  retx := effective s retxLine
  online := setsWith s .online
  accepting := setsWith s .accepting
  settled := settled s
  c := s.cap.c
  sink := s.cap.sink
  census := s.plan.census
  enrolled := (enrolledCars s).length
  counted := (carsCounted s true).length
  firstUncounted := (carsCounted s false).head?
  restore := restoreView s
  cancelled := carsMarked s.plan.cancelled
  owed := carsMarked s.plan.owed
  states := allCarStates.map (carsIn s)
  outage := s.plan.outage
  gapFlag := s.port.gapFlag
  dipFlag := s.port.dipFlag
  imageStatus := s.store.status
  storeFault := s.store.fault
  planId := s.setup.planId
  autostart := s.setup.autostart
  modified := s.store.modified
  saving := saving s
  startup := s.store.startup

/-- QUERY_PLAN (R130). -/
def execQueryPlan (tag : Byte) (body : List Byte) (s : State) : Host.Outcome State Fault Refusal :=
  .next (takeRequest s .queryPlan tag (bare body (fun x => accept x (fun y => .plan (planView y)))))

/-! ## QUERY-CAR (R51, R74, R89, R165) -/

/-- The command in flight for a car (R60, R74). -/
def inFlight (s : State) (c : CarId) : Option CommandView :=
  match (linkLine s (profile s c).link).exchange with
  | some x =>
    match x.request with
    | .command cmd => if x.car = c then some ⟨cmd.kind, cmd.tag, cmd.tries⟩ else none
    | .poll => none
  | none => none

/-- What QUERY-CAR carries for a car with this record. -/
def enrolledView (s : State) (c : CarId) (r : CarRecord) : EnrolledView where
  record := r
  waiting := (carLink s c).slot.map (·.kind)
  entry := (entryOf s c).map (fun e => ⟨e.permit, e.kind, e.phase⟩)
  missed := (carLink s c).missed
  pollAge := if driven s then some (pollAge s c) else none
  inFlight := inFlight s c
  slot := (carLink s c).slot.map (fun cmd => ⟨cmd.kind, cmd.tag, cmd.slotTime, cmd.tries⟩)
  nextTag := (carLink s c).nextTag
  silentHold := if r.state = .silent then remaining s.time (carLink s c).silentHold else none
  run := recallRun s c
  designated := designated s c
  service := if designated s c then s.svc.records.at c else none
  setAside := s.svc.setAside.at c
  candidate := candidateFailure s c

/-- The QUERY-CAR reply's contents. -/
def carView (s : State) (c : CarId) : CarView := ⟨profile s c, worstOf s c, (record s c).map (enrolledView s c)⟩

/-- The rule of QUERY-CAR. -/
def ruleQueryCar (n : Nat) (s : State) : Taken :=
  match numbered 48 n with
  | some c => accept s (fun x => .car (carView x c))
  | none => refuse s .outOfRange

/-- QUERY_CAR (R51). -/
def execQueryCar (tag : Byte) (body : Body Nat) (s : State) : Host.Outcome State Fault Refusal :=
  .next (takeRequest s .queryCar tag (withBody body ruleQueryCar))

/-! ## QUERY-ACCOUNT (R29, R104) -/

/-- One set of the capacity summary (R29). -/
def setView (s : State) (n : SetId) : SetView :=
  let x := s.setup.sets.at n
  let r := s.cap.sets.at n
  ⟨x.enabled, x.allocation, r.trim, r.status, contribution s n⟩

/-- The capture settings. -/
def captureSettings (l : Limits) : CaptureSettings :=
  ⟨l.onTrip, l.onDraw, l.onHost, l.pre, l.post, l.freeze, l.captureMode⟩

/-- The SUMMARY reply's contents. `starting` counts the entries in START phase, which only RETURN entries have (Table 6-1). -/
def summaryView (s : State) : SummaryView where
  sets := (indices 4).map (setView s)
  bankAvailable := effective s bankLine
  bankRating := s.setup.limits.bankRating
  baseCounted := anyOnline s
  reserve := s.setup.limits.reserve
  derate := s.setup.limits.derate
  derated := derated s
  settle := remaining s.time s.cap.settle
  settled := settled s
  c := s.cap.c
  sink := s.cap.sink
  kd := s.acct.kd
  kr := s.acct.kr
  projectedDraw := projectedDraw s.acct
  projectedRegen := projectedRegen s.acct
  drawOver := s.acct.drawOver
  regenOver := s.acct.regenOver
  drawExhausted := s.acct.drawExhausted
  regenExhausted := s.acct.regenExhausted
  entries := s.acct.entries.length
  starting := startingCount s.acct
  shed := shedCount s.acct
  nextPermit := s.acct.nextPermit
  samplePeriod := s.setup.limits.samplePeriod
  writeIndex := s.hist.writeIndex
  held := s.hist.held
  sampling := s.hist.timer.isSome
  captureSettings := captureSettings s.setup.limits
  capture := s.hist.capture

/-- The rule of QUERY-ACCOUNT, part SUMMARY or an unknown part. -/
def ruleSummary (p : AccountPart) (s : State) : Taken :=
  match p with
  | .summary => accept s (fun x => .summary (summaryView x))
  | .unlisted => refuse s .outOfRange

/-- QUERY_ACCOUNT_SUMMARY (R104). -/
def execQueryAccountSummary (tag : Byte) (body : Body AccountPart) (s : State) : Host.Outcome State Fault Refusal :=
  .next (takeRequest s .queryAccount tag (withBody body ruleSummary))

/-- An entry with its remaining times and its position in the table's order, the first being 1. -/
def entryView (s : State) (e : Entry) : EntryView :=
  ⟨e, remaining s.time (e.window.map (·.expiry)), remaining s.time e.deadline,
    s.acct.entries.findIdx (fun x => x.car == e.car) + 1⟩

/-- The entries of the cars from `c` on, in ascending car number. -/
def entriesFrom (s : State) (c : CarId) : List Entry :=
  ((indices 48).filter (fun d => decide (c.val ≤ d.val))).filterMap (entryOf s)

/-- The ENTRIES reply's contents (R104). DESIGN CHOICE: the car to continue from is that of the first entry not carried (log 45). -/
def entriesView (s : State) (c : CarId) : EntriesView :=
  ⟨((entriesFrom s c).take Config.entriesPerReply).map (entryView s),
    ((entriesFrom s c).drop Config.entriesPerReply).head?.map (·.car)⟩

/-- The rule of QUERY-ACCOUNT, part ENTRIES. -/
def ruleEntries (n : Nat) (s : State) : Taken :=
  match numbered 48 n with
  | some c => accept s (fun x => .entries (entriesView x c))
  | none => refuse s .outOfRange

/-- QUERY_ACCOUNT_ENTRIES (R104). -/
def execQueryAccountEntries (tag : Byte) (body : Body Nat) (s : State) : Host.Outcome State Fault Refusal :=
  .next (takeRequest s .queryAccount tag (withBody body ruleEntries))

/-! ## QUERY-QUEUE (R151) -/

/-- Queue items with their positions, counted from `n`. -/
def positioned : Nat → List QueueItem → List ItemView
  | _, [] => []
  | n, x :: rest => ⟨n, x⟩ :: positioned (n + 1) rest

/-- The QUERY-QUEUE reply's contents from position `p`, the first being 1. -/
def queueView (s : State) (p : Nat) : QueueView where
  mode := s.setup.limits.returnMode
  source := s.setup.limits.releaseSource
  startSlots := s.setup.limits.startSlots
  starting := startingCount s.acct
  spacing := remaining s.time s.ret.spacing
  nextSeq := s.ret.nextSeq
  items := s.ret.queue.length
  group := s.ret.group
  groupDraw := groupDraw s.ret.group
  groupRegen := groupRegen s.ret.group
  readiness := if s.setup.limits.returnMode = .grouped then some (readiness s) else none
  listed := positioned p ((s.ret.queue.drop (p - 1)).take Config.itemsPerReply)
  next := if p - 1 + Config.itemsPerReply < s.ret.queue.length then some (p + Config.itemsPerReply) else none

/-- The rule of QUERY-QUEUE. -/
def ruleQueryQueue (p : Nat) (s : State) : Taken :=
  if within 1 48 p then accept s (fun x => .queue (queueView x p)) else refuse s .outOfRange

/-- QUERY_QUEUE (R151). -/
def execQueryQueue (tag : Byte) (body : Body Nat) (s : State) : Host.Outcome State Fault Refusal :=
  .next (takeRequest s .queryQueue tag (withBody body ruleQueryQueue))

/-! ## QUERY-LINES (R12) -/

/-- One line of the reply: a pending sample for a WIRED line, a last report time for a MESSAGE-source one. -/
def lineView (s : State) (l : LineId) : LineView :=
  let set := lineSettings s l
  let x := s.lines.at l
  { settings := set, qualified := x.qualified, effective := effectiveOf x, raw := x.raw
    held := if set.source = .wired then x.held else none
    lastChange := x.lastChange
    lastReport := if set.source = .message then x.lastReport else none
    count := x.count }

/-- Every change count set to 0. -/
def clearCounts (s : State) : State := s.setLines (s.lines.mapAll (fun _ x => { x with count := 0 }))

/-- The rule of QUERY-LINES: the reply is formed, then the counts are cleared. -/
def ruleQueryLines (s : State) : Taken :=
  ⟨clearCounts s, .ok, .lines ⟨s.time, (indices 8).map (lineView s)⟩⟩

/-- QUERY_LINES (R12). -/
def execQueryLines (tag : Byte) (body : List Byte) (s : State) : Host.Outcome State Fault Refusal :=
  .next (takeRequest s .queryLines tag (bare body ruleQueryLines))

/-! ## READ-HISTORY (R110) -/

/-- The samples present at `n` offsets from `offset` on, with their offsets. -/
def presentFrom (h : History) (r : CaptureRecord) : Nat → Nat → List (Nat × Sample)
  | _, 0 => []
  | offset, n + 1 =>
    match windowSample h r offset with
    | some x => (offset, x) :: presentFrom h r (offset + 1) n
    | none => presentFrom h r (offset + 1) n

/-- The READ-HISTORY reply's contents (R110). DESIGN CHOICE: with no sample in the span the offset of the first one is absent
(log 47). -/
def historyView (h : History) (r : CaptureRecord) (offset count : Nat) : HistoryView :=
  let present := presentFrom h r offset (min count (r.length - offset))
  ⟨r.state, r.length, offset, present.head?.map (·.1), present.length, present.map (fun x => x.2.encode)⟩

/-- The rule of READ-HISTORY. -/
def ruleReadHistory (f : HistoryForm) (s : State) : Taken :=
  match s.hist.capture with
  | none => refuse s .notReady
  | some r =>
    if decide (f.offset < r.length) && within 1 Config.samplesPerReply f.count then
      accept s (fun x => .history (historyView x.hist r f.offset f.count))
    else refuse s .outOfRange

/-- READ_HISTORY (R110). -/
def execReadHistory (tag : Byte) (body : Body HistoryForm) (s : State) : Host.Outcome State Fault Refusal :=
  .next (takeRequest s .readHistory tag (withBody body ruleReadHistory))

end Sys2Proof.Machine
end

