-- ==== Sys2Proof/Machine/Dispatch.lean ====
section
/-! DEFINITION. Each command's meaning: one arm per constructor. -/

namespace Sys2Proof.Machine

def exec (i : Instr) (s : State) : Host.Outcome State Fault Refusal :=
  match i with
  | .powerOnReset cut => Sys2Proof.Machine.execPowerOnReset cut s
  | .externalReset cut => Sys2Proof.Machine.execExternalReset cut s
  | .supplyDip => Sys2Proof.Machine.execSupplyDip s
  | .saveEnd readBack => Sys2Proof.Machine.execSaveEnd readBack s
  | .lineSample line pin => Sys2Proof.Machine.execLineSample line pin s
  | .settleExpiry => Sys2Proof.Machine.execSettleExpiry s
  | .carReply link reply => Sys2Proof.Machine.execCarReply link reply s
  | .carReplyInvalid link reply => Sys2Proof.Machine.execCarReplyInvalid link reply s
  | .missedExchange link order => Sys2Proof.Machine.execMissedExchange link order s
  | .silentHoldExpiry car => Sys2Proof.Machine.execSilentHoldExpiry car s
  | .startWindowExpiry car => Sys2Proof.Machine.execStartWindowExpiry car s
  | .historySample => Sys2Proof.Machine.execHistorySample s
  | .deadlineExpiry car => Sys2Proof.Machine.execDeadlineExpiry car s
  | .spacingExpiry => Sys2Proof.Machine.execSpacingExpiry s
  | .restoreTimeout => Sys2Proof.Machine.execRestoreTimeout s
  | .frameGapTimeout => Sys2Proof.Machine.execFrameGapTimeout s
  | .frameDiscarded rx => Sys2Proof.Machine.execFrameDiscarded rx s
  | .unknownKind kind tag body => Sys2Proof.Machine.execUnknownKind kind tag body s
  | .transmitEnd => Sys2Proof.Machine.execTransmitEnd s
  | .restartTaken => Sys2Proof.Machine.execRestartTaken s
  | .identify tag body => Sys2Proof.Machine.execIdentify tag body s
  | .setLimits tag body => Sys2Proof.Machine.execSetLimits tag body s
  | .setCar tag body => Sys2Proof.Machine.execSetCar tag body s
  | .dropCar tag body => Sys2Proof.Machine.execDropCar tag body s
  | .setGenset tag body => Sys2Proof.Machine.execSetGenset tag body s
  | .setLine tag body => Sys2Proof.Machine.execSetLine tag body s
  | .setIndicatorFull tag body => Sys2Proof.Machine.execSetIndicatorFull tag body s
  | .setIndicatorValue tag body => Sys2Proof.Machine.execSetIndicatorValue tag body s
  | .arm tag body => Sys2Proof.Machine.execArm tag body s
  | .halt tag body => Sys2Proof.Machine.execHalt tag body s
  | .savePlan tag body => Sys2Proof.Machine.execSavePlan tag body s
  | .restart tag body => Sys2Proof.Machine.execRestart tag body s
  | .trimSet tag body => Sys2Proof.Machine.execTrimSet tag body s
  | .setServiceCount tag body => Sys2Proof.Machine.execSetServiceCount tag body s
  | .holdOut tag body => Sys2Proof.Machine.execHoldOut tag body s
  | .readmit tag body => Sys2Proof.Machine.execReadmit tag body s
  | .releaseGroup tag body => Sys2Proof.Machine.execReleaseGroup tag body s
  | .lineReport tag body => Sys2Proof.Machine.execLineReport tag body s
  | .capture tag body => Sys2Proof.Machine.execCapture tag body s
  | .captureRelease tag body => Sys2Proof.Machine.execCaptureRelease tag body s
  | .queryPlan tag body => Sys2Proof.Machine.execQueryPlan tag body s
  | .queryCar tag body => Sys2Proof.Machine.execQueryCar tag body s
  | .queryAccountSummary tag body => Sys2Proof.Machine.execQueryAccountSummary tag body s
  | .queryAccountEntries tag body => Sys2Proof.Machine.execQueryAccountEntries tag body s
  | .queryQueue tag body => Sys2Proof.Machine.execQueryQueue tag body s
  | .queryLines tag body => Sys2Proof.Machine.execQueryLines tag body s
  | .readHistory tag body => Sys2Proof.Machine.execReadHistory tag body s
  | .ackFlags tag body => Sys2Proof.Machine.execAckFlags tag body s
  | .transmitStart => Sys2Proof.Machine.execTransmitStart s

end Sys2Proof.Machine
end

