-- ==== Sys2Proof/Machine/Wire.lean ====
section
/-! DEFINITION. What the part puts on its serial lines: host frames (Tables 10-1 to 10-4) and car-link requests (R55). The frames are
formed from the state that holds what they carry (log 30). -/

namespace Sys2Proof.Machine

/-! ## Host frames -/

/-- A host frame: sync, body length, kind, tag, body, and the CRC-16 over all but the sync (Table 10-1). -/
def envelope (kind tag : Byte) (body : List Byte) : List Byte :=
  let covered := BitVec.ofNat 8 body.length :: kind :: tag :: body
  syncByte :: covered ++ crcField (crc16 covered)

/-- The bytes of a reply's body after its result code. A refusal without further content has none (R168), and the samples of
READ-HISTORY stand last in the form of Table 6-3 (R110); what else there is has no layout in the manual (log 9). -/
def contentBytes (x : Content) : List Byte :=
  match x with
  | .nothing => []
  | .history v => (Config.historyHead v.state v.length v.offset v.first v.count).toList ++ v.samples.flatten
  | y => Config.contentBytes y

/-- The body of a reply: the result code, then the content (R168). -/
def Reply.body (r : Reply) : List Byte := resultValue r.code :: contentBytes r.content

/-- The frame of a reply, with the request's kind and tag echoed (R168). -/
def Reply.frame (r : Reply) : List Byte := envelope r.kind r.tag r.body

/-- The kind value of a report (Table 10-4). -/
def reportCode : Report → Byte
  | .planState _ => 0x80
  | .carState _ => 0x81
  | .carPosition _ => 0x82
  | .lineEvent _ => 0x83
  | .setTrip _ => 0x84
  | .alert _ => 0x84
  | .captureDone _ => 0x85
  | .captureStale _ => 0x86
  | .storeDone _ => 0x87

/-- The number that a report's subject byte holds (Table 10-4). -/
def reportSubject : Report → Nat
  | .planState _ => 0
  | .carState r => numberOf r.car
  | .carPosition r => numberOf r.car
  | .lineEvent r => numberOf r.line
  | .setTrip r => numberOf r.set
  | .alert _ => 0
  | .captureDone _ => 0
  | .captureStale _ => 0
  | .storeDone _ => 0

/-- The body of a report: the status flags byte, the subject byte, then the contents (R172). -/
def Report.body (flags : Byte) (r : Report) : List Byte :=
  flags :: BitVec.ofNat 8 (reportSubject r) :: Config.reportBytes r

/-- The frame of a report, with tag 0 (R172). -/
def Report.frame (flags : Byte) (r : Report) : List Byte := envelope (reportCode r) 0 (r.body flags)

/-- The bytes of a frame being sent. -/
def TxFrame.bytes : TxFrame → List Byte
  | .reply r => r.frame
  | .report flags r => r.frame flags

/-- The bytes that the message port is sending; none while the transmitter is idle (R169). -/
def portOut (s : State) : Option (List Byte) := s.port.tx.map TxFrame.bytes

/-! ## Car-link requests -/

/-- The target floor that a request carries: RUN-TO's alone (R55). -/
def requestTarget : Request → List Byte
  | .poll => []
  | .command cmd => if cmd.kind = .runTo then cmd.target.toList.map (BitVec.ofNat 8) else []

/-- The bytes of a request that its CRC covers: the drop address through the last content byte (R55), in the order in which
R55 names them (log 9). -/
def requestCovered (drop : Nat) (q : Request) : List Byte :=
  BitVec.ofNat 8 drop :: Config.linkCode (requestKind q) :: requestTag q :: requestTarget q

/-- The frame of a request to a drop: start marker, content, and the CRC least significant byte first (R55). -/
def requestFrame (drop : Nat) (q : Request) : List Byte :=
  Config.startMarker :: requestCovered drop q ++ crcField (crc16 (requestCovered drop q))

/-- The request that a link carries while an exchange is in flight (R54, R55). -/
def linkOut (s : State) (k : Link) : Option (List Byte) :=
  (linkLine s k).exchange.map (fun x => requestFrame (profile s x.car).drop x.request)

end Sys2Proof.Machine
end

