-- ==== Sys2Proof/Safety.lean ====
section
/-! DEFINITION. What counts as a safe run: the invariants that every step keeps, and the terms in which statements about the
commands are written. -/

namespace Sys2Proof.Safety

open Sys2Proof.Machine

/-! ## Invariants -/

/-- The committed totals are the sums of the entries' reservations (R92). -/
def TotalsMatch (s : State) : Prop :=
  s.acct.kd = (s.acct.entries.map (·.draw)).sum ∧ s.acct.kr = (s.acct.entries.map (·.regen)).sum

/-- The permit table holds at most one entry per car (R90). -/
def OneEntryPerCar (s : State) : Prop := (s.acct.entries.map (·.car)).Nodup

/-- A permit number: 1 to 65535 (Table 6-1, R91). -/
def PermitNumber (n : Nat) : Prop := 1 ≤ n ∧ n ≤ 65535

/-- The permit numbers in the table are distinct, and they and the counter lie in 1..65535 (R91). -/
def PermitsDistinct (s : State) : Prop :=
  (s.acct.entries.map (·.permit)).Nodup ∧ (∀ e ∈ s.acct.entries, PermitNumber e.permit) ∧ PermitNumber s.acct.nextPermit

/-- HALTED, WATCHING or OUTAGE. -/
def Quiet (p : PlanState) : Prop := p = .halted ∨ p = .watching ∨ p = .outage

/-- While the plan is HALTED, WATCHING or OUTAGE, the permit table, the return queue and the release group are empty (R113). -/
def QuietStage (s : State) : Prop :=
  Quiet s.plan.state → s.acct.entries = [] ∧ s.ret.queue = [] ∧ s.ret.group = []

/-- The contribution of a set (R24, stage 1). -/
def contributes (s : State) (n : SetId) : Nat :=
  if (s.cap.sets.at n).status = .online then (s.setup.sets.at n).allocation * (s.cap.sets.at n).trim / 100 else 0

/-- The derate in force: the setting while PREALM is ACTIVE (R25). -/
def derateInForce (s : State) : Nat :=
  if effective s alarmLine = .active then s.setup.limits.derate else 0

/-- C as the lines, statuses, trims and settings give it (R24). -/
def capacityGiven (s : State) : Nat :=
  (contributes s 0 + contributes s 1 + contributes s 2 + contributes s 3) * (100 - s.setup.limits.reserve)
    * (100 - derateInForce s) / 10000

/-- S as the lines, statuses and settings give it (R26). -/
def sinkGiven (s : State) : Nat :=
  (if effective s bankLine = .active then s.setup.limits.bankRating else 0)
    + (if ∃ n, (s.cap.sets.at n).status = .online then s.setup.limits.baseLoad else 0)

/-- Draw overcommit is set while K_d > C and regen overcommit while K_r > S (R100). -/
def OvercommitMatches (s : State) : Prop :=
  (s.acct.drawOver = true ↔ s.cap.c < s.acct.kd) ∧ (s.acct.regenOver = true ↔ s.cap.sink < s.acct.kr)

/-- C and S are those the plant gives (R24, R26). -/
def CapacityFollowsPlant (s : State) : Prop := s.cap.c = capacityGiven s ∧ s.cap.sink = sinkGiven s

/-- The condition of an indication source (Table 10-5). -/
def sourceTrue (s : State) : IndSource → Prop
  | .inReturn => s.plan.state = .returning
  | .allRecovered =>
    s.plan.state = .service
      ∧ ∀ c r, record s c = some r → r.state ∉ [.queued, .staged, .starting, .running, .stopping, .silent]
  | .overcommit => s.acct.drawOver = true ∨ s.acct.regenOver = true
  | .shedding => ∃ e ∈ s.acct.entries, e.phase = .stop ∧ e.stopCause = some .shed
  | .prealarm => effective s alarmLine = .active
  | .anyFailed => ∃ c r, record s c = some r ∧ r.state = .failed
  | .halted => s.plan.state = .halted
  | .supplyDip => s.port.dipFlag = true
  | .storeFault => s.store.fault = true
  | .direct => False

/-- An indication line drives the level its settings and condition give (R178). -/
def LineDriven (s : State) (i : IndId) : Prop :=
  ((s.setup.inds.at i).source = .direct → (s.inds.at i = .high ↔ (s.setup.inds.at i).direct = true))
    ∧ ((s.setup.inds.at i).source ≠ .direct → (s.setup.inds.at i).invert = false →
      (s.inds.at i = .high ↔ sourceTrue s (s.setup.inds.at i).source))
    ∧ ((s.setup.inds.at i).source ≠ .direct → (s.setup.inds.at i).invert = true →
      (s.inds.at i = .low ↔ sourceTrue s (s.setup.inds.at i).source))

/-- Both indication lines do (R178). -/
def LinesDriven (s : State) : Prop := ∀ i, LineDriven s i

/-- The report queue holds at most 64 reports and at most one CAR-POSITION report per car (R173). -/
def ReportsBounded (s : State) : Prop :=
  s.port.reports.length ≤ 64 ∧ (s.port.reports.filterMap Report.positionOf).Nodup

/-- The reply path holds at most 8 replies (R168). -/
def RepliesBounded (s : State) : Prop := s.port.replies.length ≤ 8

/-- An exchange is in flight on every link that has an enrolled car, while the plan is not HALTED (R54, R65, R71). -/
def LinksBusy (s : State) : Prop :=
  s.plan.state ≠ .halted → ∀ c, (profile s c).enrolled = true → (linkLine s (profile s c).link).exchange.isSome = true

/-- While the plan is HALTED no exchange is in flight, no command waits and no silent hold timer runs (R71, R72). -/
def LinksQuiet (s : State) : Prop :=
  s.plan.state = .halted →
    s.link.a.exchange = none ∧ s.link.b.exchange = none
      ∧ ∀ c, (s.link.cars.at c).slot = none ∧ (s.link.cars.at c).silentHold = none

/-- The sample timer is stopped while the plan is HALTED or the ring frozen (R105, R108). -/
def SamplingStopped (s : State) : Prop :=
  (s.plan.state = .halted ∨ ∃ r, s.hist.capture = some r ∧ r.state = .complete ∧ r.freeze = true) → s.hist.timer = none

/-- A car has a record when it is enrolled, and only then (R33, R34, R52). -/
def RecordsMatch (s : State) : Prop := ∀ c, (record s c).isSome = (profile s c).enrolled

/-- The return queue and the release group hold a car at most once together, the queue exactly the QUEUED cars and the group exactly
the STAGED ones (R131). -/
def ReturnsMatch (s : State) : Prop :=
  (s.ret.queue.map (·.car) ++ s.ret.group.map (·.car)).Nodup
    ∧ ∀ c, (c ∈ s.ret.queue.map (·.car) ↔ stateOf s c = some .queued) ∧ (c ∈ s.ret.group.map (·.car) ↔ stateOf s c = some .staged)

/-- A car in one of these states holds an entry, and no other car does (R40, R43, R48, R67, R98). -/
def holdsEntry (st : CarState) : Bool :=
  [.starting, .running, .stopping, .serving, .deferred, .silent].contains st

/-- The cars that hold an entry are those whose state says so. -/
def EntriesMatch (s : State) : Prop := ∀ c, (entryOf s c).isSome = ((stateOf s c).map holdsEntry).getD false

/-! ## Terms of the statements -/

/-- A complete frame is taken as a request: no RESTART has been accepted (R176), and the reply path has room (R168). -/
def Taking (s : State) : Prop := s.port.restart = none ∧ s.port.replies.length < 8

/-- The host requests. -/
def IsRequest : Instr → Prop
  | .unknownKind kind _ _ => kind ∉ requestCodes
  | .identify _ _ => True
  | .setLimits _ _ => True
  | .setCar _ _ => True
  | .dropCar _ _ => True
  | .setGenset _ _ => True
  | .setLine _ _ => True
  | .setIndicatorFull _ _ => True
  | .setIndicatorValue _ _ => True
  | .arm _ _ => True
  | .halt _ _ => True
  | .savePlan _ _ => True
  | .restart _ _ => True
  | .trimSet _ _ => True
  | .setServiceCount _ _ => True
  | .holdOut _ _ => True
  | .readmit _ _ => True
  | .releaseGroup _ _ => True
  | .lineReport _ _ => True
  | .capture _ _ => True
  | .captureRelease _ _ => True
  | .queryPlan _ _ => True
  | .queryCar _ _ => True
  | .queryAccountSummary _ _ => True
  | .queryAccountEntries _ _ => True
  | .queryQueue _ _ => True
  | .queryLines _ _ => True
  | .readHistory _ _ => True
  | .ackFlags _ _ => True
  | .powerOnReset _ => False
  | .externalReset _ => False
  | .supplyDip => False
  | .saveEnd _ => False
  | .lineSample _ _ => False
  | .settleExpiry => False
  | .carReply _ _ => False
  | .carReplyInvalid _ _ => False
  | .missedExchange _ _ => False
  | .silentHoldExpiry _ => False
  | .startWindowExpiry _ => False
  | .historySample => False
  | .deadlineExpiry _ => False
  | .spacingExpiry => False
  | .restoreTimeout => False
  | .frameGapTimeout => False
  | .frameDiscarded _ => False
  | .transmitEnd => False
  | .restartTaken => False
  | .transmitStart => False

/-- The resets that end with device time 0. -/
def IsReset : Instr → Prop
  | .powerOnReset _ => True
  | .externalReset _ => True
  | _ => False

/-- SET-INDICATOR, part VALUE. -/
def IsValueWrite : Instr → Prop
  | .setIndicatorValue _ _ => True
  | _ => False

/-- The state with the framer hunting and one more reply at the tail of the reply path (R167, R168). -/
def replied (s : State) (kind : ReqKind) (tag : Byte) (code : ResultCode) (content : Content) : State :=
  s.setPort
    { s.port with framer := .hunting, replies := s.port.replies ++ [⟨requestCode kind, tag, code, content⟩] }

/-- No reset, request or line has changed what the host has configured, what the store holds and what the lines read: the
configuration, the lines, the Plan Store, device time, the commands that wait, the runtime counts. -/
def SettingsKept (s t : State) : Prop :=
  t.setup = s.setup ∧ t.lines = s.lines ∧ t.store = s.store ∧ t.time = s.time ∧ t.pending = s.pending
    ∧ t.svc.counts = s.svc.counts

/-- The host's side of the port is unchanged: the rate, the framer, an awaited restart, the replies, the frame being sent, the
supply-dip flag. -/
def HostSideKept (s t : State) : Prop :=
  t.port.rateInUse = s.port.rateInUse ∧ t.port.framer = s.port.framer ∧ t.port.restart = s.port.restart
    ∧ t.port.replies = s.port.replies ∧ t.port.tx = s.port.tx ∧ t.port.dipFlag = s.port.dipFlag

/-- The plan's stage is unchanged: the account, the queue and group, the selector, the plan, the history. -/
def StageKept (s t : State) : Prop :=
  t.acct = s.acct ∧ t.ret = s.ret ∧ t.svc = s.svc ∧ t.plan = s.plan ∧ t.hist = s.hist

/-- A request was answered: one reply more, the framer hunting, the rest of the host's side unchanged. -/
def Answered (s t : State) (kind : ReqKind) (tag : Byte) (content : Content) : Prop :=
  t.port.replies = s.port.replies ++ [⟨requestCode kind, tag, .ok, content⟩] ∧ t.port.framer = .hunting
    ∧ t.port.rateInUse = s.port.rateInUse ∧ t.port.restart = s.port.restart ∧ t.port.tx = s.port.tx
    ∧ t.port.dipFlag = s.port.dipFlag

/-- The plan grants: RETURN or SERVICE (R135). -/
def Granting (s : State) : Prop := s.plan.state = .returning ∨ s.plan.state = .service

/-- Neither of the first two exits of RETURN and SERVICE holds: RETX inactive, UTIL absent, and a set ACCEPTING or ONLINE
(R113). -/
def GeneratorStays (s : State) : Prop :=
  effective s retxLine = .inactive ∧ effective s utilLine = .inactive ∧ ∃ n, (s.cap.sets.at n).status ≠ .offline

/-- No exit of the plan state has its condition met (the table of R113). -/
def NoExit (s : State) : Prop :=
  (s.plan.state = .watching → effective s utilLine = .active)
    ∧ (s.plan.state = .outage → effective s utilLine = .inactive ∧ ∀ n, (s.cap.sets.at n).status = .offline)
    ∧ (s.plan.state = .settling → GeneratorStays s ∧ ¬ (s.cap.settle = none ∧ s.plan.census = .complete ∧ 0 < s.cap.c))
    ∧ (s.plan.state = .returning → GeneratorStays s
      ∧ ¬ (s.ret.queue = [] ∧ s.ret.group = [] ∧ ∀ e ∈ s.acct.entries, e.kind ≠ .returning))
    ∧ (s.plan.state = .service → GeneratorStays s)
    ∧ (s.plan.state = .restoring →
      (effective s utilLine = .active → s.plan.restore ≠ .lapsed ∧ ∃ e ∈ s.acct.entries, e.kind ≠ .standing)
        ∧ (effective s utilLine = .inactive →
          effective s retxLine = .active ∧ ∃ n, (s.cap.sets.at n).status ≠ .offline))

/-- The plan grants and stays with the generators, the spacing timer runs, so that the event itself grants and designates nothing (R139),
the car is enrolled and not queued (R131), and the permit table is sound (R90, R92). -/
def Paused (s : State) (c : CarId) : Prop :=
  Granting s ∧ GeneratorStays s ∧ TotalsMatch s ∧ OneEntryPerCar s ∧ (profile s c).enrolled = true ∧ s.ret.spacing ≠ none
    ∧ ∀ x ∈ s.ret.queue, x.car ≠ c

/-- The configuration may be written: HALTED, and no plan save in progress (Table 10-3). -/
def Writable (s : State) : Prop := s.plan.state = .halted ∧ s.store.save = none

/-- A state as a reset rebuilds it from a configuration, before any arm: every block at its reset values (R13, R30, R52, R75, R111,
R112, R152, R153, R176, R183). -/
def rebuilt (pending : List Instr) (su : Setup) (hist : History) (dip : Bool) (store : Store) (inds : Table PinLevel 2) : State where
  pending := pending
  time := 0
  setup := su
  lines := Table.const 8 ⟨none, none, none, none, none, 0, 0⟩
  cap := ⟨Table.const 4 ⟨100, .offline⟩, some (BitVec.ofNat 32 su.limits.settle), 0, 0⟩
  cars := su.profiles.mapAll (fun _ p => if p.enrolled then some CarRecord.initial else none)
  link := ⟨⟨none, 0⟩, ⟨none, 0⟩, Table.const 48 ⟨none, 1, 0, 0, none⟩⟩
  acct := ⟨[], 0, 0, false, false, false, false, 1⟩
  hist := hist
  plan := ⟨.halted, 0, .none, Table.const 48 false, .stopped, Table.const 48 false, Table.const 48 false, none⟩
  ret := ⟨[], [], none, 0⟩
  svc := ⟨su.limits.counts, Table.const 48 none, Table.const 48 none, 0, 0⟩
  port := ⟨su.limits.rate, .hunting, none, [], none, [], false, dip⟩
  inds := inds
  store := store

/-- The reset commands by kind, with what each keeps of the history and the supply-dip flag: a power-on reset empties the ring and
sets the flag, an external reset keeps both (R111, R186). -/
structure ResetCase where
  command : SaveCut → Instr
  kind : ResetKind
  hist : State → History
  dip : State → Bool

/-- POWER_ON_RESET. -/
def powerOnCase : ResetCase :=
  ⟨.powerOnReset, .powerOn, fun _ => ⟨Table.const 512 none, 0, 0, none, none⟩, fun _ => true⟩

/-- EXTERNAL_RESET. -/
def externalCase : ResetCase :=
  ⟨.externalReset, .external, fun s => { s.hist with timer := none }, fun s => s.port.dipFlag⟩

/-- Device time has reached a moment: less than half the range of device time lies between (R4, log 2). -/
def Due (now expiry : Time) : Prop := (now - expiry).toNat < 2147483648

/-- The logical level that a pin's electrical level is through a polarity (R5). -/
def levelSeen (p : Polarity) (pin : PinLevel) : Level := if (pin = .high ↔ p = .activeHigh) then .active else .inactive

/-- A sample of this pin level, now due, makes a qualified change of a WIRED line to a level that its effective level is not
(R6, R7, R8). -/
def QualifiesAt (s : State) (l : LineId) (pin : PinLevel) (level : Level) : Prop :=
  (s.setup.lines.at l).source = .wired ∧ Due s.time (s.lines.at l).nextSample
    ∧ levelSeen (s.setup.lines.at l).polarity pin = level ∧ effective s l ≠ level
    ∧ (((∃ q, (s.lines.at l).qualified = some q ∧ q ≠ level) ∧ (s.lines.at l).held ≠ none)
      ∨ ((s.lines.at l).qualified = none ∧ (s.lines.at l).held = some level))

/-- A reply is valid for the exchange in flight (R56, Table 4-2). -/
def ValidReply (s : State) (x : Exchange) (r : CarReply) : Prop :=
  r.crc = crc16 [r.drop, r.kindCode, r.verdictCode, r.floor, r.bits, r.load, r.authority, r.fault, r.tag]
    ∧ r.drop.toNat = (profile s x.car).drop ∧ r.kind = requestKind x.request ∧ r.tag = requestTag x.request
    ∧ (x.request = .poll ↔ r.verdict = .none) ∧ r.floor.toNat ≤ 199 ∧ r.authority.toNat ≤ 4

/-- A stored image is valid: the format marker, a format version that the part reads, that version's length, and a check word that is
the CRC-32 over the header and the contents (R179). -/
def ValidImage (im : PlanImage) : Prop :=
  im.marker = Config.formatMarker ∧ (im.version = Config.formatVersion ∨ im.version ∈ Config.olderVersions)
    ∧ im.length = Config.lengthOf im.version ∧ im.check = some (crc32 im.bytes)

/-- The image of a configuration as the part writes it, its check word right (R179). -/
def copyOf (su : Setup) : PlanImage :=
  ⟨Config.formatMarker, Config.formatVersion, Config.contentsLength, Config.imageBytes su,
    some (crc32 (Config.imageBytes su)), su⟩

/-- What stands in the store when a reset comes (R182): the stored image; during a save, the new image without its check word, or, when
the read-back has begun, the new image, with its bytes as they were written or as the store has taken them (log 26). -/
def Stands (s : State) (cut : SaveCut) (x : StoredImage) : Prop :=
  (s.store.save = none ∧ x = s.store.image)
    ∨ ∃ su, s.store.save = some su
      ∧ ((cut = .beforeCheckWord ∧ x = .written { copyOf su with check := none })
        ∨ (cut = .duringReadBack none ∧ x = .written (copyOf su))
        ∨ ∃ bytes, cut = .duringReadBack (some bytes) ∧ x = .written { copyOf su with bytes })

/-- A valid reply to the exchange in flight on a link comes from an enrolled car, whose record was `old` (R56, R57). -/
def Replies (s : State) (k : Link) (x : Exchange) (r : CarReply) (old : CarRecord) : Prop :=
  (linkLine s k).exchange = some x ∧ ValidReply s x r ∧ (profile s x.car).enrolled = true ∧ record s x.car = some old

/-! ### Reports, frames and commands -/

/-- These reports and no others were queued, in this order (R173, R174). -/
def ReportsQueued (s t : State) (rs : List Report) : Prop :=
  t.port.reports = (rs.foldl Port.place s.port).reports ∧ t.port.gapFlag = (rs.foldl Port.place s.port).gapFlag

/-- A CAR-STATE report of a car was queued, with its states, cause and decline (R38). -/
def CarReported (s t : State) (c : CarId) (before after : CarState) (cause : CarCause) (decline : Option Decline) : Prop :=
  ∃ earlier rep later, ReportsQueued s t (earlier ++ .carState rep :: later) ∧ rep.car = c ∧ rep.before = before
    ∧ rep.after = after ∧ rep.cause = cause ∧ rep.decline = decline

/-- The bytes of a host frame (Table 10-1). -/
def FrameOf (bytes : List Byte) (kind tag : Byte) (body : List Byte) : Prop :=
  ∃ lo hi : Byte, bytes = 0xA5 :: BitVec.ofNat 8 body.length :: kind :: tag :: body ++ [lo, hi]
    ∧ crc16 (BitVec.ofNat 8 body.length :: kind :: tag :: body) = hi ++ lo

/-- The value of a result code (Table 10-2). -/
def resultNumber : ResultCode → Nat
  | .ok => 0
  | .unknownKind => 1
  | .badLength => 2
  | .outOfRange => 3
  | .wrongState => 4
  | .notEnrolled => 5
  | .busy => 6
  | .notReady => 7

/-- The kind value and the subject of a report (Table 10-4). -/
def reportRow : Report → Nat × Nat
  | .planState _ => (0x80, 0)
  | .carState r => (0x81, r.car.val + 1)
  | .carPosition r => (0x82, r.car.val + 1)
  | .lineEvent r => (0x83, r.line.val + 1)
  | .setTrip r => (0x84, r.set.val + 1)
  | .alert _ => (0x84, 0)
  | .captureDone _ => (0x85, 0)
  | .captureStale _ => (0x86, 0)
  | .storeDone _ => (0x87, 0)

/-- The car of a class that goes first: the eldest by an age, and of equals the lower drop (R65). -/
def Eldest (s : State) (age : CarId → Nat) (cars : List CarId) (c : CarId) : Prop :=
  c ∈ cars ∧ ∀ d ∈ cars, age d < age c ∨ (age d = age c ∧ (profile s c).drop ≤ (profile s d).drop)

/-- A command waits in a car's slot, or has left it for the try after (R60). -/
def Waits (s t : State) (c : CarId) (cmd : Command) : Prop :=
  (t.link.cars.at c).slot = some cmd
    ∨ ((t.link.cars.at c).slot = none
      ∧ (linkLine t (profile s c).link).exchange = some ⟨c, .command { cmd with tries := cmd.tries + 1 }⟩)

/-- No command waits for a car or is in flight to it. -/
def NoCommand (s t : State) (c : CarId) : Prop :=
  (t.link.cars.at c).slot = none ∧ ∀ x, (linkLine t (profile s c).link).exchange = some x → x.car = c → x.request = .poll

/-- A new command was placed for a car: it took the next tag, this moment as its slot time and no tries, and it waits or is in flight
already (R55, R58, R60). -/
def Slotted (s t : State) (c : CarId) (kind : CmdKind) (permit : Option Nat) : Prop :=
  Waits s t c ⟨kind, none, (s.link.cars.at c).nextTag, s.time, 0, permit⟩
    ∧ (t.link.cars.at c).nextTag = if (s.link.cars.at c).nextTag = 255 then 1 else (s.link.cars.at c).nextTag + 1

/-! ### What becomes of a car -/

/-- A local authority (Table 3-2). -/
def Local (a : Option Authority) : Prop := a = some .localFire ∨ a = some .localInspection ∨ a = some .localIndependent

/-- The state to which the evaluation rule takes a car, from its authority, hold-out flag and attempts used, and whether it stands at its
recall floor (R40). -/
def evaluationState (s : State) (a : Option Authority) (holdOut : Bool) (attempts : Nat) (home : Bool) : CarState :=
  if a = some .localFire ∨ a = some .localInspection ∨ a = some .localIndependent then .deferred
  else if a = some .outOfOrder ∨ holdOut = true then .held
  else if s.setup.limits.attempts ≤ attempts then .failed
  else if home = true then .idle
  else .queued

/-- The car holds a STANDING entry with its worst-case figures (R94). -/
def Stood (s t : State) (c : CarId) : Prop :=
  ∃ e, entryOf t c = some e ∧ e.kind = .standing ∧ e.phase = .fixed ∧ e.draw = (worstFigures (profile s c)).draw
    ∧ e.regen = (worstFigures (profile s c)).regen

/-- The evaluation rule has been applied in full: the state it gives, which a QUEUED car may have left for STAGED or STARTING by a grant
in the same event, with the entry or command of its step (R40). -/
def Evaluated (s t : State) (c : CarId) (a : Option Authority) (holdOut : Bool) (attempts : Nat) (home : Bool) : Prop :=
  ∃ new, record t c = some new ∧ new.attempts = attempts
    ∧ (evaluationState s a holdOut attempts home ≠ .queued → new.state = evaluationState s a holdOut attempts home)
    ∧ (evaluationState s a holdOut attempts home = .queued →
        new.state = .queued ∨ new.state = .staged ∨ new.state = .starting)
    ∧ (new.state = .deferred → Stood s t c)
    ∧ (new.state = .held → Slotted s t c .hold none)
    ∧ (new.state = .failed → new.failure = some .attempts ∧ Slotted s t c .hold none)
    ∧ (new.state = .idle → new.parkOut = true ∧ Slotted s t c .park none)

/-- A moving car has been adopted by its authority (R39, R43): DEFERRED with a STANDING entry under a local one, else STOPPING with an
ADOPTED entry and STOP-NEXT. -/
def Adopted (s t : State) (c : CarId) (a : Option Authority) : Prop :=
  ∃ new, record t c = some new
    ∧ (Local a → new.state = .deferred ∧ Stood s t c)
    ∧ (¬ Local a → new.state = .stopping ∧ Slotted s t c .stopNext none
      ∧ ∃ e, entryOf t c = some e ∧ e.kind = .adopted ∧ e.phase = .stop ∧ e.stopCause = some .adoption
        ∧ e.draw = (worstFigures (profile s c)).draw ∧ e.regen = (worstFigures (profile s c)).regen)

/-- The state after an adoption. -/
def adoptedState (a : Option Authority) : CarState :=
  if a = some .localFire ∨ a = some .localInspection ∨ a = some .localIndependent then .deferred else .stopping

/-- A car moved to a state with HOLD slotted. -/
def Held (s t : State) (c : CarId) (st : CarState) : Prop :=
  (∃ new, record t c = some new ∧ new.state = st) ∧ Slotted s t c .hold none

/-- The authority in a reply (Table 4-2). -/
def authorityIn (r : CarReply) : Option Authority :=
  [Authority.sequencer, .localFire, .localInspection, .localIndependent, .outOfOrder][r.authority.toNat]?

/-- A reply shows the car stopped (Table 4-2). -/
def StoppedIn (r : CarReply) : Prop := r.bits.getLsbD 3 = false ∧ r.bits.getLsbD 4 = false

/-- A reply shows the car at a floor and not between floors (Table 4-2). -/
def levelIn (r : CarReply) (floor : Nat) : Bool := decide (r.floor.toNat = floor) && !r.bits.getLsbD 0

/-- The recorded car stands at its recall floor. -/
def atHome (s : State) (c : CarId) (r : CarRecord) : Bool :=
  decide (r.floor = some (profile s c).recallFloor ∧ r.between = some false)

/-- An entry of kind RETURN, SERVICE or ADOPTED in a phase that Table 6-1 gives its kind. -/
def RunEntry (e : Entry) : Prop :=
  (e.kind = .returning ∧ (e.phase = .start ∨ e.phase = .run ∨ e.phase = .stop))
    ∨ (e.kind = .service ∧ (e.phase = .holding ∨ e.phase = .stop)) ∨ (e.kind = .adopted ∧ e.phase = .stop)

/-- The state of a car that runs under such an entry (R48). -/
def runState (e : Entry) : CarState :=
  match e.phase with
  | .start => .starting
  | .run => .running
  | .stop => .stopping
  | .holding => .serving
  | .fixed => .deferred

/-- The car runs under its entry: it has the state that the entry gives, or is SILENT, to take that state up on this reply (R42, R48). -/
def RunsUnder (old : CarRecord) (e : Entry) : Prop := RunEntry e ∧ (old.state = runState e ∨ old.state = .silent)

/-- The cause of a reply's CAR-STATE report: RESUMPTION for a car that was SILENT (R48). -/
def causeOf (old : CarRecord) (cause : CarCause) : CarCause := if old.state = .silent then .resumption else cause

/-- The start window of an entry has not lapsed, where it has one (R96). -/
def WindowOpen (e : Entry) : Prop := ∀ win, e.window = some win → win.lapsed = false

/-- The car stands in a reply at its entry's target floor: an arrival (R42, Table 8-3). -/
def Arrives (e : Entry) (r : CarReply) : Prop := e.kind = .returning ∧ ∃ f, e.target = some f ∧ levelIn r f = true

/-- A stop consumes an attempt (Table 8-3). -/
def Consumes (e : Entry) (r : CarReply) : Prop :=
  ¬ Arrives e r ∧ ((e.kind = .returning ∧ e.phase = .run) ∨ e.stopCause = some .deadline)

/-- A stop gives the car a front claim (Table 8-3). -/
def ClaimsFront (e : Entry) (r : CarReply) : Prop :=
  ¬ Arrives e r ∧ ¬ Consumes e r ∧ (e.stopCause = some .shed ∨ e.stopCause = some .count)

/-! ### Shedding -/

/-- The sum of an amount over the entries in STOP phase (R101, R102). -/
def stopped (amount : Entry → Nat) (es : List Entry) : Nat := ((es.filter (fun e => e.phase = .stop)).map amount).sum

/-- A shedding run by kind: its amount, its total and limit, the run, and whether an entry with an amount of 0 is passed over (R101,
R102). -/
structure ShedCase where
  amount : Entry → Nat
  total : Account → Nat
  limit : State → Nat
  flag : Account → Bool
  run : Work → Work × ShedRun
  needs : Entry → Prop

/-- Draw shedding (R101). -/
def drawCase : ShedCase := ⟨(·.draw), (·.kd), (·.cap.c), (·.drawOver), shedDraw, fun _ => True⟩

/-- Regen shedding (R102). -/
def regenCase : ShedCase := ⟨(·.regen), (·.kr), (·.cap.sink), (·.regenOver), shedRegen, fun e => 0 < e.regen⟩

/-- The class of a candidate: designated cars first, then START-phase runs, then RUN-phase runs (R101). -/
def shedClass (e : Entry) : Nat := if e.kind = .service then 0 else if e.phase = .start then 1 else 2

/-- The candidate at one place of the table is taken before that at another (R101): by class, within service by descending rank, within
runs the later grant first. -/
def TakenBefore (s : State) (i j : Nat) (x y : Entry) : Prop :=
  shedClass x < shedClass y
    ∨ (shedClass x = shedClass y
      ∧ ((shedClass x = 0 ∧ (profile s y.car).rank < (profile s x.car).rank) ∨ (shedClass x ≠ 0 ∧ j < i)))

/-- The entry as shedding leaves it (R97). -/
def shedForm (e : Entry) : Entry := { e with phase := .stop, stopCause := some .shed, window := none, deadline := none }

/-- A RETURN or SERVICE entry that R97 moves: a candidate for shedding (R101). -/
def Sheddable (e : Entry) : Prop :=
  (e.kind = .service ∧ e.phase = .holding) ∨ (e.kind = .returning ∧ (e.phase = .start ∨ e.phase = .run))

/-- The entry as a step to RUN phase leaves it (R95). -/
def runForm (e : Entry) (run : Nat) : Entry := { e with phase := .run, draw := run, window := none }

/-- A step of an entry to its run draw leaves an overcommit (R100). -/
def StepOverruns (s : State) (e : Entry) (run : Nat) : Prop := s.cap.c < s.acct.kd - e.draw + run ∨ s.cap.sink < s.acct.kr

/-- The car runs under its stepped entry, or, where the step leaves an overcommit, that entry was shed and the car is STOPPING with
STOP-NEXT (R95, R100). -/
def RunsOrShed (s t : State) (c : CarId) (e : Entry) (run : Nat) : Prop :=
  (entryOf t c = some (runForm e run) ∧ stateOf t c = some .running)
    ∨ (StepOverruns s e run ∧ entryOf t c = some (shedForm (runForm e run)) ∧ stateOf t c = some .stopping
      ∧ Slotted s t c .stopNext none)

/-- A shedding run over the entries `es` shed these, in this order (R101, R102): candidates that the run needs, in the order of R101, each
while the projection was still above the limit, until it was at most the limit or no candidate was left. -/
def ShedFrom (s : State) (amount : Entry → Nat) (needs : Entry → Prop) (total limit : Nat) (es shed : List Entry) : Prop :=
  (∀ e ∈ shed, e ∈ es ∧ Sheddable e ∧ needs e)
    ∧ (total - stopped amount es - (shed.map amount).sum ≤ limit ∨ ∀ e ∈ es, Sheddable e → needs e → e ∈ shed)
    ∧ (∀ (before after : List Entry) (e : Entry), shed = before ++ e :: after →
        limit < total - stopped amount es - (before.map amount).sum)
    ∧ (∀ (i j : Nat) (x y : Entry), es[i]? = some x → es[j]? = some y → Sheddable x → needs x → x ∉ shed → y ∈ shed →
        ¬ TakenBefore s i j x y)
    ∧ ∀ (i j : Nat) (x y : Entry), es[i]? = some x → es[j]? = some y → [x, y].Sublist shed → ¬ TakenBefore s j i y x

/-! ### Granting -/

/-- RUN figures of a car toward its recall floor, from its recorded floor and load (R76, R137). -/
def FiguresOf (s : State) (c : CarId) (f : RunFigures) : Prop :=
  ∃ old floor, record s c = some old ∧ old.floor = some floor
    ∧ f = runFigures (profile s c) (directionOf floor (profile s c).recallFloor) old.load

/-- Admission of a run with these figures, in a settled plant without overcommit (R93). -/
def RunFits (s : State) (c : CarId) (f : RunFigures) : Prop :=
  entryOf s c = none ∧ s.acct.kd + f.startDraw ≤ s.cap.c ∧ s.acct.kr + f.regen ≤ s.cap.sink

/-- A grant attempt may be made once the spacing timer has stopped (R136). -/
def AttemptOpen (s : State) : Prop :=
  Granting s ∧ GeneratorStays s ∧ s.cap.settle = none ∧ s.acct.drawOver = false ∧ s.acct.regenOver = false
    ∧ startingCount s.acct < s.setup.limits.startSlots

/-! ### Service -/

/-- The conditions of R157 for a candidate. -/
def Candidate (s : State) (c : CarId) : Prop :=
  (profile s c).enrolled = true ∧ stateOf s c = some .parked ∧ (profile s c).rank ≠ 0 ∧ s.svc.setAside.at c = none
    ∧ (∃ r, record s c = some r ∧ r.attempts < s.setup.limits.attempts)
    ∧ ∃ b : BankId, (profile s c).bank = b.val + 1 ∧ designatedIn s b < s.svc.counts.at b

/-- A car's worst-case figures fit (R93, R157). -/
def Fits (s : State) (c : CarId) : Prop :=
  s.acct.kd + (worstFigures (profile s c)).draw ≤ s.cap.c ∧ s.acct.kr + (worstFigures (profile s c)).regen ≤ s.cap.sink

/-- C and S have not risen above the values that the selector last read (R161). -/
def NotRisen (s : State) : Prop := s.cap.c ≤ s.svc.lastC ∧ s.cap.sink ≤ s.svc.lastS

/-- A SERVE for this car and permit number acts (R158, R159, R160): its service record carries the number and awaits the verdict, and its
entry is a SERVICE entry in HOLDING phase. -/
def ServeStands (s : State) (c : CarId) (permit : Option Nat) (e : Entry) : Prop :=
  entryOf s c = some e ∧ e.kind = .service ∧ e.phase = .holding
    ∧ ∃ rec, s.svc.records.at c = some rec ∧ rec.status = .awaiting ∧ permit = some rec.permit

/-- The designation of a stopped car has ended by release: PARKED, no entry, no service record, the marker set (R159, R160). -/
def Released (s t : State) (c : CarId) (e : Entry) (why : AsideReason) : Prop :=
  (∃ new, record t c = some new ∧ new.state = .parked) ∧ entryOf t c = none ∧ t.acct.kd = s.acct.kd - e.draw
    ∧ t.acct.kr = s.acct.kr - e.regen ∧ t.svc.records.at c = none ∧ t.svc.setAside.at c = some why

/-- The designation of a moving car has ended by a stop: STOPPING, the entry in STOP phase with cause COUNT and its reservations,
STOP-NEXT slotted, no service record, the marker set (R159, R160). -/
def StoppedForCount (s t : State) (c : CarId) (e : Entry) (why : AsideReason) : Prop :=
  (∃ new, record t c = some new ∧ new.state = .stopping)
    ∧ entryOf t c = some { e with phase := .stop, stopCause := some .count, window := none, deadline := none }
    ∧ t.acct = { s.acct with entries := t.acct.entries } ∧ (∀ d, d ≠ c → entryOf t d = entryOf s d)
    ∧ Slotted s t c .stopNext none ∧ t.svc.records.at c = none ∧ t.svc.setAside.at c = some why

/-! ### History -/

/-- A number as bytes, least significant first (00_scope.md, Layouts). -/
def leBytes (n x : Nat) : List Byte := (List.range n).map (fun i => BitVec.ofNat 8 (x / 256 ^ i))

/-- The number of a plan state in a sample (Table 6-3); HALTED has none there and is 0 (log 37). -/
def planNumber : PlanState → Nat
  | .halted => 0
  | .watching => 1
  | .outage => 2
  | .settling => 3
  | .returning => 4
  | .service => 5
  | .restoring => 6

/-- A sample as READ-HISTORY carries it (Table 6-3). -/
def sampleBytes (x : Sample) : List Byte :=
  leBytes 4 x.time.toNat
    ++ leBytes 3 (x.c + planNumber x.plan * 2 ^ 20 + (if x.settling = true then 2 ^ 23 else 0))
    ++ leBytes 3 (x.sink + x.entries * 2 ^ 18)
    ++ leBytes 5 (min 1048575 x.kd + x.kr * 2 ^ 20 + (if x.derated = true then 2 ^ 39 else 0))

/-- A slot lies in the window of a capture record (Table 6-4). -/
def InWindow (r : CaptureRecord) (slot : Nat) : Prop :=
  (slot + 512 - (r.index + 512 - r.pre) % 512) % 512 < r.pre + r.post

/-- The sample at a window offset, unless the position is absent (R110). -/
def presentAt (h : History) (r : CaptureRecord) (offset : Nat) : Option Sample :=
  if offset < r.overwritten then none
  else if r.state = .collecting ∧ r.pre + r.collected ≤ offset then none
  else h.slots.at ⟨((r.index + 512 - r.pre) % 512 + offset) % 512, Nat.mod_lt _ (by decide)⟩

/-! ### A line's change -/

/-- A command makes a qualified change of a line to a level that its effective level is not: a sample of its pin, or a LINE-REPORT that
names it (R6, R7, R8, R10, R11). -/
def ChangesLine (c : Instr) (s : State) (l : LineId) (level : Level) : Prop :=
  (∃ pin, c = .lineSample l pin ∧ QualifiesAt s l pin level)
    ∨ (∃ tag, c = .lineReport tag (.fields [⟨l.val + 1, some level⟩]) ∧ Taking s ∧ (s.setup.lines.at l).source = .message
      ∧ effective s l ≠ level)

/-- The LINE-EVENT report of a change of a line to a level (R9). -/
def changeReport (s : State) (l : LineId) (level : Level) : Report :=
  .lineEvent
    { line := l, source := (s.setup.lines.at l).source, level, first := decide ((s.lines.at l).qualified = none), time := s.time,
      count := min 255 ((s.lines.at l).count + 1) }

/-! ### Refusals -/

/-- Every field of SET-LIMITS lies in its range, a duration on a whole step of 100 ms (R18, R64, R106, R126, R134, R153, R166; for the
settle interval log 29). -/
def LimitsFit (f : LimitsForm) : Prop :=
  f.reserve ≤ 30 ∧ f.derate ≤ 50 ∧ 2000 ≤ f.settle ∧ f.settle ≤ 60000 ∧ f.settle % 100 = 0 ∧ f.bankRating ≤ 100000
    ∧ f.baseLoad ≤ 100000 ∧ 200 ≤ f.pollInterval ∧ f.pollInterval ≤ 2000 ∧ f.pollInterval % 100 = 0 ∧ 2 ≤ f.silenceThreshold
    ∧ f.silenceThreshold ≤ 10 ∧ 5000 ≤ f.silentHold ∧ f.silentHold ≤ 120000 ∧ f.silentHold % 100 = 0 ∧ 100 ≤ f.samplePeriod
    ∧ f.samplePeriod ≤ 2000 ∧ f.samplePeriod % 100 = 0 ∧ f.pre ≤ 511 ∧ 1 ≤ f.post ∧ f.post ≤ 512 ∧ f.pre + f.post ≤ 512
    ∧ 1 ≤ f.startSlots ∧ f.startSlots ≤ 4 ∧ 500 ≤ f.spacing ∧ f.spacing ≤ 30000 ∧ f.spacing % 100 = 0 ∧ f.lookahead ≤ 8
    ∧ 1 ≤ f.passLimit ∧ f.passLimit ≤ 7 ∧ 1 ≤ f.groupSize ∧ f.groupSize ≤ 4 ∧ f.stepLimit ≤ 100000 ∧ 1 ≤ f.attempts
    ∧ f.attempts ≤ 5 ∧ f.margin ≤ 100 ∧ 10000 ≤ f.restoreTimeout ∧ f.restoreTimeout ≤ 300000 ∧ f.restoreTimeout % 100 = 0
    ∧ (∀ b : BankId, f.counts.at b ≤ 12) ∧ f.rate ∈ [19200, 38400, 57600, 115200] ∧ f.onTrip ≠ none ∧ f.onDraw ≠ none
    ∧ f.onHost ≠ none ∧ f.freeze ≠ none ∧ f.captureMode ≠ none ∧ f.returnMode ≠ none ∧ f.releaseSource ≠ none

/-- Every field of SET-CAR but the car number lies in its range (Table 3-1, R32). -/
def CarFits (f : CarForm) : Prop :=
  f.enrolled ≠ none ∧ f.link ≠ none ∧ 1 ≤ f.drop ∧ f.drop ≤ 24 ∧ 1 ≤ f.bank ∧ f.bank ≤ 8
    ∧ (∀ r ∈ f.ranges, r.low ≤ 199 ∧ r.high ≤ 199) ∧ f.recallFloor ≤ 199 ∧ 50 ≤ f.power ∧ f.power ≤ 4000 ∧ 35 ≤ f.balance
    ∧ f.balance ≤ 55 ∧ 20 ≤ f.loss ∧ f.loss ≤ 300 ∧ 100 ≤ f.inrush ∧ f.inrush ≤ 350 ∧ f.regenCapable ≠ none
    ∧ 50 ≤ f.efficiency ∧ f.efficiency ≤ 100 ∧ 1000 ≤ f.startWindow ∧ f.startWindow ≤ 10000 ∧ f.startWindow % 100 = 0
    ∧ 500 ≤ f.floorTime ∧ f.floorTime ≤ 10000 ∧ f.floorTime % 100 = 0 ∧ 2000 ≤ f.doorTime ∧ f.doorTime ≤ 30000
    ∧ f.doorTime % 100 = 0 ∧ 1 ≤ f.returnClass ∧ f.returnClass ≤ 4 ∧ 5 ≤ f.occupiedAt ∧ f.occupiedAt ≤ 30 ∧ f.rank ≤ 48

/-- A request with a field outside its range, in a state that would take it otherwise: the refusal is OUT-OF-RANGE (R2, R16, R28, R32,
R34, R49, R50, R51, R104, R110, R151, R154, R170, R177, R181). -/
def OutOfRange (s : State) (c : Instr) (k : ReqKind) (tag : Byte) : Prop :=
  (Writable s
    ∧ ((∃ f, c = .setLimits tag (.fields f) ∧ k = .setLimits ∧ ¬ LimitsFit f)
      ∨ (∃ f : CarForm, c = .setCar tag (.fields f) ∧ k = .setCar ∧ 1 ≤ f.ranges.length ∧ f.ranges.length ≤ 4
          ∧ (f.car = 0 ∨ 48 < f.car ∨ ¬ CarFits f))
      ∨ (∃ n, c = .dropCar tag (.fields n) ∧ k = .dropCar ∧ (n = 0 ∨ 48 < n))
      ∨ (∃ f : GensetForm, c = .setGenset tag (.fields f) ∧ k = .setGenset
          ∧ (f.set = 0 ∨ 4 < f.set ∨ f.enabled = none ∨ 200000 < f.allocation))
      ∨ (∃ f : LineForm, c = .setLine tag (.fields f) ∧ k = .setLine
          ∧ (f.line = 0 ∨ 8 < f.line ∨ f.polarity = none ∨ f.period ∉ [2, 20, 80, 320] ∨ f.source = none))
      ∨ (∃ f : IndFullForm, c = .setIndicatorFull tag (.fields (.full f)) ∧ k = .setIndicator
          ∧ (f.line = 0 ∨ 2 < f.line ∨ f.source = none ∨ f.invert = none ∨ f.direct = none))
      ∨ (∃ b0 b1 b2 b3 flag : Byte, c = .savePlan tag [b0, b1, b2, b3, flag] ∧ k = .savePlan ∧ 1 < flag.toNat)))
    ∨ (c = .setIndicatorFull tag (.fields .unlisted) ∧ k = .setIndicator)
    ∨ (∃ f : IndValueForm, c = .setIndicatorValue tag (.fields f) ∧ k = .setIndicator
        ∧ (f.line = 0 ∨ 2 < f.line ∨ f.direct = none))
    ∨ (∃ f : TrimForm, c = .trimSet tag (.fields f) ∧ k = .trimSet ∧ (f.set = 0 ∨ 4 < f.set))
    ∨ (∃ f : CountForm, c = .setServiceCount tag (.fields f) ∧ k = .setServiceCount ∧ (f.bank = 0 ∨ 8 < f.bank ∨ 12 < f.count))
    ∨ (s.plan.state ≠ .halted ∧ ∃ n, (n = 0 ∨ 48 < n)
        ∧ (c = .holdOut tag (.fields n) ∧ k = .holdOut ∨ c = .readmit tag (.fields n) ∧ k = .readmit))
    ∨ (∃ n, (n = 0 ∨ 48 < n)
        ∧ (c = .queryCar tag (.fields n) ∧ k = .queryCar ∨ c = .queryAccountEntries tag (.fields n) ∧ k = .queryAccount
          ∨ c = .queryQueue tag (.fields n) ∧ k = .queryQueue))
    ∨ (c = .queryAccountSummary tag (.fields .unlisted) ∧ k = .queryAccount)
    ∨ (∃ (f : HistoryForm) (r : CaptureRecord), c = .readHistory tag (.fields f) ∧ k = .readHistory ∧ s.hist.capture = some r
        ∧ (r.pre + r.post ≤ f.offset ∨ f.count = 0 ∨ 16 < f.count))
    ∨ (∃ items : List ReportItem, c = .lineReport tag (.fields items) ∧ k = .lineReport ∧ 1 ≤ items.length ∧ items.length ≤ 8
        ∧ ((∃ x ∈ items, x.line = 0 ∨ 8 < x.line ∨ x.level = none) ∨ ¬ (items.map (·.line)).Nodup))

/-- A request that the plan state or the configuration does not let in: the refusal is WRONG-STATE (R10, R49, R50, R109, R118). -/
def WrongState (s : State) (c : Instr) (k : ReqKind) (tag : Byte) : Prop :=
  (c = .halt tag [] ∧ k = .halt ∧ s.plan.state ≠ .watching ∧ s.plan.state ≠ .outage)
    ∨ (s.plan.state = .halted ∧ ∃ n, c = .holdOut tag (.fields n) ∧ k = .holdOut ∨ c = .readmit tag (.fields n) ∧ k = .readmit)
    ∨ (c = .capture tag [] ∧ k = .capture ∧ (s.plan.state = .halted ∨ s.setup.limits.onHost = false))
    ∨ (∃ items : List ReportItem, c = .lineReport tag (.fields items) ∧ k = .lineReport ∧ 1 ≤ items.length ∧ items.length ≤ 8
        ∧ (∀ x ∈ items, ∃ (l : LineId) (lev : Level), x = ⟨l.val + 1, some lev⟩) ∧ (items.map (·.line)).Nodup
        ∧ ∃ x ∈ items, ∃ l : LineId, x.line = l.val + 1 ∧ (s.setup.lines.at l).source = .wired)

/-- The conditions of release readiness as they stand (R141). -/
def readinessNow (s : State) : Readiness :=
  ⟨decide ((s.plan.state = .returning ∨ s.plan.state = .service) ∧ s.ret.group ≠ []), decide (s.cap.settle = none),
    decide (s.acct.drawOver = false ∧ s.acct.regenOver = false),
    decide (∀ e ∈ s.acct.entries, ¬ (e.kind = .returning ∧ e.phase = .start)), decide (s.ret.spacing = none),
    decide (s.acct.kd + (s.ret.group.map (·.figures.startDraw)).sum ≤ s.cap.c),
    decide (s.acct.kr + (s.ret.group.map (·.figures.regen)).sum ≤ s.cap.sink)⟩

/-- The requests that only HALTED accepts and a plan save holds off, with a body of a length that their format allows
(Table 10-3). -/
def HaltedForm (c : Instr) (k : ReqKind) (tag : Byte) : Prop :=
  (∃ f, c = .setLimits tag (.fields f) ∧ k = .setLimits)
    ∨ (∃ f : CarForm, c = .setCar tag (.fields f) ∧ k = .setCar ∧ 1 ≤ f.ranges.length ∧ f.ranges.length ≤ 4)
    ∨ (∃ n, c = .dropCar tag (.fields n) ∧ k = .dropCar)
    ∨ (∃ f, c = .setGenset tag (.fields f) ∧ k = .setGenset)
    ∨ (∃ f, c = .setLine tag (.fields f) ∧ k = .setLine)
    ∨ (∃ f, c = .setIndicatorFull tag (.fields (.full f)) ∧ k = .setIndicator)
    ∨ (c = .arm tag [] ∧ k = .arm)
    ∨ (∃ body : List Byte, c = .savePlan tag body ∧ k = .savePlan ∧ body.length = 5)

/-- The requests with a body of a length that their format does not allow (R168). -/
def BadBody (c : Instr) (k : ReqKind) (tag : Byte) : Prop :=
  (∃ b, b ≠ [] ∧ ((c = .identify tag b ∧ k = .identify) ∨ (c = .arm tag b ∧ k = .arm) ∨ (c = .halt tag b ∧ k = .halt)
      ∨ (c = .restart tag b ∧ k = .restart)
      ∨ (c = .capture tag b ∧ k = .capture) ∨ (c = .captureRelease tag b ∧ k = .captureRelease)
      ∨ (c = .queryPlan tag b ∧ k = .queryPlan) ∨ (c = .queryLines tag b ∧ k = .queryLines)
      ∨ (c = .ackFlags tag b ∧ k = .ackFlags)))
    ∨ (∃ f : CarForm, c = .setCar tag (.fields f) ∧ k = .setCar ∧ (f.ranges = [] ∨ 4 < f.ranges.length))
    ∨ (∃ items : List ReportItem, c = .lineReport tag (.fields items) ∧ k = .lineReport ∧ (items = [] ∨ 8 < items.length))
    ∨ (∃ b : List Byte, b.length ≠ 5 ∧ c = .savePlan tag b ∧ k = .savePlan)
    ∨ (c = .setLimits tag .badLength ∧ k = .setLimits) ∨ (c = .setCar tag .badLength ∧ k = .setCar)
    ∨ (c = .dropCar tag .badLength ∧ k = .dropCar) ∨ (c = .setGenset tag .badLength ∧ k = .setGenset)
    ∨ (c = .setLine tag .badLength ∧ k = .setLine) ∨ (c = .setIndicatorFull tag .badLength ∧ k = .setIndicator)
    ∨ (c = .setIndicatorValue tag .badLength ∧ k = .setIndicator) ∨ (c = .trimSet tag .badLength ∧ k = .trimSet)
    ∨ (c = .setServiceCount tag .badLength ∧ k = .setServiceCount) ∨ (c = .holdOut tag .badLength ∧ k = .holdOut)
    ∨ (c = .readmit tag .badLength ∧ k = .readmit) ∨ (c = .lineReport tag .badLength ∧ k = .lineReport)
    ∨ (c = .queryCar tag .badLength ∧ k = .queryCar) ∨ (c = .queryAccountSummary tag .badLength ∧ k = .queryAccount)
    ∨ (c = .queryAccountEntries tag .badLength ∧ k = .queryAccount) ∨ (c = .queryQueue tag .badLength ∧ k = .queryQueue)
    ∨ (c = .readHistory tag .badLength ∧ k = .readHistory)

/-- The cars of a release group, in staging order (R141). -/
def carsOf (g : List StagedCar) : List CarId := g.map (·.car)

end Sys2Proof.Safety
end

