-- ==== Sys2Proof/Certificates/Slice0/Obligations.lean ====
section
/-! DEFINITION. The statements about the BV4830 that are to be proved. -/

open Sys2Proof Sys2Proof.Machine Sys2Proof.Safety

/-! ## The queue of commands -/

/-- A step runs the command at the front of the queue on the state with the queue's rest (95_what_each_step_holds.md). On an empty
queue one millisecond of device time passes and nothing else changes: that is the model's choice (log 1); the count goes from
4,294,967,295 to 0 as R4 says. -/
def Obligations.StepRunsFrontCommand : Prop :=
  (∀ (c : Instr) (rest : List Instr) (s : State), s.pending = c :: rest → step s = exec c (s.setPending rest))
    ∧ ∀ s : State, s.pending = [] →
        ∃ t, step s = .next t ∧ t.time.toNat = (s.time.toNat + 1) % 4294967296 ∧ t = { s with time := t.time }

/-- Every command answers a next state and leaves the commands that wait alone; device time is 0 after a power-on or external reset
and is otherwise kept (R4: a RESTART keeps it too). -/
def Obligations.EveryCommandCompletes : Prop :=
  ∀ (c : Instr) (s : State),
    ∃ t, exec c s = .next t ∧ t.pending = s.pending ∧ (IsReset c → t.time = 0) ∧ (¬ IsReset c → t.time = s.time)

/-- Outside HALTED no command writes the configuration, but for the resets, which load it, and SET-INDICATOR of part VALUE, which
writes the indication settings alone (R2, R16, R32, R34, R170, R177, R181, R183). -/
def Obligations.ConfigurationWrittenInHalted : Prop :=
  ∀ (c : Instr) (s t : State), exec c s = .next t → s.plan.state ≠ .halted → ¬ IsReset c →
    t.setup = { s.setup with inds := t.setup.inds } ∧ (¬ IsValueWrite c → t.setup = s.setup)

/-- Once a RESTART is accepted no request is taken (R176), and a request that completes while 8 replies wait is an overrun, without
action and without reply (R168); the framer returns to hunting (R167). -/
def Obligations.RequestsNotTaken : Prop :=
  ∀ (c : Instr) (s : State), IsRequest c →
    (s.port.restart ≠ none → exec c s = .next s)
      ∧ (s.port.restart = none → 8 ≤ s.port.replies.length →
        exec c s = .next (s.setPort { s.port with framer := .hunting }))

/-! ## Resets and the Plan Store -/

/-- What a power-on or external reset leaves, when no arm follows it: every block at its reset values, from the image when it is
valid and from the empty configuration when the store is blank or its image is not valid (R183). A save that the reset abandons
before its check word was written leaves an image that is not valid, and one abandoned in the read-back leaves the new image, which is
loaded (R182). The ring and the supply-dip flag are as R111 and R186 say for the kind of reset. That a last exchange end time
is 0 after the reset (log 8), that a line's first sample is due at once (log 7), and how the store's bytes stand for an image, with what
a flawed store holds in the read-back (log 26), are the model's choices. -/
def Obligations.ResetLoadsStore : Prop :=
  (∀ su, ValidImage (copyOf su) ∧ ¬ ValidImage { copyOf su with check := none })
  ∧ ∀ k : ResetCase, k = powerOnCase ∨ k = externalCase → ∀ (cut : SaveCut) (s : State) (x : StoredImage), Stands s cut x →
    (x = .neverWritten →
      ∃ t, exec (k.command cut) s = .next t ∧ LinesDriven t
        ∧ t = rebuilt s.pending Setup.empty (k.hist s) (k.dip s)
          ⟨.neverWritten, .blank, false, true, none, ⟨k.kind, .blank, .notCalled⟩⟩ t.inds)
    ∧ (∀ im, x = .written im → ValidImage im → im.contents.autostart ≠ some true →
      ∃ t, exec (k.command cut) s = .next t ∧ LinesDriven t
        ∧ t = rebuilt s.pending im.contents (k.hist s) (k.dip s)
          ⟨.written im, .valid, false, false, none, ⟨k.kind, .loaded, .notCalled⟩⟩ t.inds)
    ∧ (∀ im, x = .written im → ¬ ValidImage im →
      ∃ t, exec (k.command cut) s = .next t ∧ LinesDriven t
        ∧ t = rebuilt s.pending Setup.empty (k.hist s) (k.dip s)
          ⟨.written im, .invalid, true, true, none, ⟨k.kind, .invalid, .notCalled⟩⟩ t.inds)

/-- After a reset that loaded a valid image whose autostart flag is set, the part arms itself: when the commission check passes the
plan enters OUTAGE with a new outage record of origin ARM and a PLAN-STATE report of cause ARM, and when it fails the plan stays
HALTED with the fault in the start-up record and no report (R184). What stands in the store when the reset ends a save is
the model's representation (log 26). -/
def Obligations.ResetArmsItself : Prop :=
  ∀ k : ResetCase, k = powerOnCase ∨ k = externalCase → ∀ (cut : SaveCut) (s : State) (im : PlanImage),
    Stands s cut (.written im) → ValidImage im → im.contents.autostart = some true →
      (∀ f, commission im.contents = some f →
        ∃ t, exec (k.command cut) s = .next t ∧ t.setup = im.contents ∧ t.plan.state = .halted ∧ t.port.reports = []
          ∧ t.store.startup = ⟨k.kind, .loaded, .refused f⟩)
      ∧ (commission im.contents = none →
        ∃ t r rest, exec (k.command cut) s = .next t ∧ t.setup = im.contents ∧ t.plan.state = .outage
          ∧ t.plan.outage = some ⟨.arm, 0, none, none, none, none⟩ ∧ t.store.startup = ⟨k.kind, .loaded, .armed⟩
          ∧ t.port.reports = .planState r :: rest ∧ r.left = .halted ∧ r.entered = .outage ∧ r.cause = .arm)

/-- An accepted SAVE-PLAN: plan id (least significant byte first) and autostart flag stored, the configuration copied, the marker
cleared, the image INVALID and the save begun (R181). A supply dip sets the supply-dip flag and, when it ends a save in progress, ends
it with FAULT: check word cleared, image INVALID, store fault and modified marker set, a STORE-DONE report placed. A save ends OK when
the image read back is the copy's, and with FAULT, cause VERIFY, when it differs (R186, R182). Nothing else changes. What the store
holds while the save runs, after a dip and after a read-back that differs is the model's representation (log 26). -/
def Obligations.SavePlanStartsSave : Prop :=
  (∀ (s : State) (tag b0 b1 b2 b3 flag : Byte) (auto : Bool), Writable s → Taking s →
    (flag = 0 ∧ auto = false ∨ flag = 1 ∧ auto = true) →
    ∃ t su, exec (.savePlan tag [b0, b1, b2, b3, flag]) s = .next t ∧ LinesDriven t
      ∧ su = { s.setup with
          planId := some (BitVec.ofNat 32 (b0.toNat + 256 * b1.toNat + 65536 * b2.toNat + 16777216 * b3.toNat))
          autostart := some auto }
      ∧ t = { replied s .savePlan tag .ok (.saved ⟨su.planId, some auto, Config.contentsLength⟩) with
          setup := su
          store := { s.store with
            image := .written { copyOf su with check := none }, modified := false, status := .invalid, save := some su }
          inds := t.inds })
    ∧ ∀ s : State,
      (s.store.save = none →
        ∃ t, exec .supplyDip s = .next t ∧ LinesDriven t
          ∧ t = { s with port := { s.port with dipFlag := true }, inds := t.inds })
      ∧ ∀ su, s.store.save = some su →
        (∃ t, exec .supplyDip s = .next t ∧ LinesDriven t
          ∧ t = { s with
            port := Port.place { s.port with dipFlag := true }
              (.storeDone ⟨some .supplyDip, su.planId, Config.contentsLength, s.time⟩)
            store := { s.store with
              image := .written { copyOf su with check := none }, status := .invalid, fault := true, modified := true,
              save := none }
            inds := t.inds })
        ∧ (∃ t, exec (.saveEnd (copyOf su)) s = .next t ∧ LinesDriven t
          ∧ t = { s with
            port := s.port.place (.storeDone ⟨none, su.planId, Config.contentsLength, s.time⟩)
            store := { s.store with image := .written (copyOf su), status := .valid, fault := false, save := none }
            inds := t.inds })
        ∧ ∀ readBack : PlanImage, readBack ≠ copyOf su →
          ∃ t, exec (.saveEnd readBack) s = .next t ∧ LinesDriven t
            ∧ t = { s with
              port := s.port.place (.storeDone ⟨some .verify, su.planId, Config.contentsLength, s.time⟩)
              store := { s.store with
                image := .written readBack, status := .invalid, fault := true, modified := true, save := none }
              inds := t.inds }

/-- RESTART is answered OK in every plan state and refused BUSY while a save is in progress; an accepted one remembers whether the
plan was out of HALTED, and changes nothing else yet (R185, R176). The restart is taken when the RESTART reply has been sent. The
configuration, device time, the lines, the image, the flags and the ring stand and everything else is rebuilt; without an arm the plan
is HALTED; with one, the check's verdict stands in the start-up record and the plan is in the state that the lines call for (R176,
R185, R31, R117). The model's choices: that the end of sending, TRANSMIT_END, takes the restart as RESTART_TAKEN does (log 23), that a
last exchange end time is 0 (log 8), and that no CAR-STATE report is queued for the rebuilt records (log 22). -/
def Obligations.RestartRebuilds : Prop :=
  (∀ (s : State) (tag : Byte), Taking s →
    (s.store.save = none →
      ∃ t, exec (.restart tag []) s = .next t
        ∧ t = { replied s .restart tag .ok .nothing with port := t.port }
        ∧ t.port = { (replied s .restart tag .ok .nothing).port with restart := some (decide (s.plan.state ≠ .halted)) })
    ∧ (s.store.save ≠ none → exec (.restart tag []) s = .next (replied s .restart tag .busy .nothing)))
  ∧ ∀ c : Instr, c = .restartTaken ∨ c = .transmitEnd →
    ∀ (s : State) (tag : Byte) (content : Content) (arms : Bool),
      s.port.tx = some (.reply ⟨0x23, tag, .ok, content⟩) → s.port.restart = some arms →
      ∃ t, exec c s = .next t ∧ LinesDriven t ∧ t.setup = s.setup ∧ t.lines = s.lines ∧ t.time = s.time
        ∧ t.store = { s.store with startup := t.store.startup } ∧ t.svc.counts = s.setup.limits.counts
        ∧ t.port.rateInUse = s.setup.limits.rate ∧ t.port.framer = .hunting ∧ t.port.restart = none
        ∧ t.port.replies = [] ∧ t.port.tx = none ∧ t.port.dipFlag = s.port.dipFlag
        ∧ t.cap.settle = some (s.time + BitVec.ofNat 32 s.setup.limits.settle) ∧ CapacityFollowsPlant t
        ∧ (∀ n : SetId, t.cap.sets.at n =
            ⟨100, if (s.setup.sets.at n).enabled = true ∧ effective s (setLineOf n) = .active then .accepting
              else .offline⟩)
        ∧ (arms = false →
            t = { s with
              cap := t.cap, inds := t.inds
              cars := s.setup.profiles.mapAll (fun _ p => if p.enrolled then some CarRecord.initial else none)
              link := ⟨⟨none, 0⟩, ⟨none, 0⟩, Table.const 48 ⟨none, 1, 0, 0, none⟩⟩
              acct := ⟨[], 0, 0, false, false, false, false, 1⟩
              hist := { s.hist with timer := none }
              plan := ⟨.halted, s.time, .none, Table.const 48 false, .stopped, Table.const 48 false,
                Table.const 48 false, none⟩
              ret := ⟨[], [], none, 0⟩
              svc := ⟨s.setup.limits.counts, Table.const 48 none, Table.const 48 none, 0, 0⟩
              port := { s.port with
                rateInUse := s.setup.limits.rate, framer := .hunting, restart := none, replies := [], tx := none,
                reports := [] }
              store := { s.store with startup := ⟨.restart, .kept, .notCalled⟩ } })
        ∧ (∀ f, arms = true → commission s.setup = some f →
            t.plan.state = .halted ∧ t.store.startup = ⟨.restart, .kept, .refused f⟩)
        ∧ (arms = true → commission s.setup = none →
            t.store.startup = ⟨.restart, .kept, .armed⟩
              ∧ t.plan.state =
                if effective s utilLine = .active then .watching
                else if ∃ n, (t.cap.sets.at n).status = .accepting then
                  (if effective s retxLine = .active then .restoring else .settling)
                else .outage)

/-! ## Plant lines -/

/-- A sample of a line's pin: the raw level recorded and the timer restarted (R5); for a QUALIFIED WIRED line the three cases of R6,
for an UNQUALIFIED one the three of R7, with the change recorded as R8 says; a MESSAGE line's levels untouched. Each qualified change,
even one that leaves the effective level as it was, queues a LINE-EVENT report first; any other sample queues no report, while no exit
of the plan state has its condition met (R8, R9, R113). -/
def Obligations.LineSampled : Prop :=
  ∀ (s : State) (l : LineId) (pin : PinLevel), Due s.time (s.lines.at l).nextSample →
    ∃ t x changed, exec (.lineSample l pin) s = .next t ∧ t.setup = s.setup ∧ t.store = s.store ∧ HostSideKept s t
      ∧ (∀ m, m ≠ l → t.lines.at m = s.lines.at m)
      ∧ x = { s.lines.at l with
          raw := some pin, nextSample := s.time + BitVec.ofNat 32 (s.setup.lines.at l).period }
      ∧ (∀ level, levelSeen (s.setup.lines.at l).polarity pin = level →
          changed = { x with
            qualified := some level, held := none, lastChange := some s.time, count := min 255 (x.count + 1) })
      ∧ ((s.setup.lines.at l).source = .message → t.lines.at l = x)
      ∧ ((s.setup.lines.at l).source = .wired → ∀ level, levelSeen (s.setup.lines.at l).polarity pin = level →
          (x.qualified = some level → t.lines.at l = { x with held := none })
          ∧ (∀ q, x.qualified = some q → q ≠ level → x.held = none → t.lines.at l = { x with held := some level })
          ∧ (∀ q, x.qualified = some q → q ≠ level → x.held ≠ none → t.lines.at l = changed)
          ∧ (x.qualified = none → x.held ≠ some level → t.lines.at l = { x with held := some level })
          ∧ (x.qualified = none → x.held = some level → t.lines.at l = changed)
          ∧ ((∃ q, x.qualified = some q ∧ q ≠ level ∧ x.held ≠ none) ∨ (x.qualified = none ∧ x.held = some level) →
              ∃ rest, ReportsQueued s t (changeReport s l level :: rest)))
      ∧ (NoExit s →
          ((s.setup.lines.at l).source = .message
            ∨ ∃ level, levelSeen (s.setup.lines.at l).polarity pin = level
              ∧ (x.qualified = some level ∨ (x.qualified = none ∧ x.held ≠ some level)
                ∨ ∃ q, x.qualified = some q ∧ q ≠ level ∧ x.held = none)) →
          ReportsQueued s t [])

/-- An accepted LINE-REPORT: each line named has its last report time set and, when the level is new, a qualified change recorded;
the reply carries each line's qualified level and count as they then stand (R10, R11, R8). That the reply lists the lines in ascending
number is the model's choice (log 41). -/
def Obligations.LineReportApplies : Prop :=
  ∀ (s : State) (tag : Byte) (items : List ReportItem), Taking s → 1 ≤ items.length → items.length ≤ 8 →
    (∀ x ∈ items, ∃ (l : LineId) (lev : Level), x = ⟨l.val + 1, some lev⟩ ∧ (s.setup.lines.at l).source = .message) →
    (items.map (·.line)).Nodup →
    ∃ t views, exec (.lineReport tag (.fields items)) s = .next t ∧ Answered s t .lineReport tag (.reported views)
      ∧ t.setup = s.setup ∧ t.store = s.store
      ∧ (∀ (l : LineId) (lev : Level), ⟨l.val + 1, some lev⟩ ∈ items →
          ((s.lines.at l).qualified = some lev → t.lines.at l = { s.lines.at l with lastReport := some s.time })
          ∧ ((s.lines.at l).qualified ≠ some lev →
              t.lines.at l = { s.lines.at l with
                lastReport := some s.time, qualified := some lev, held := none, lastChange := some s.time,
                count := min 255 ((s.lines.at l).count + 1) }))
      ∧ (∀ l : LineId, l.val + 1 ∉ items.map (·.line) → t.lines.at l = s.lines.at l)
      ∧ (∀ l : LineId, l ∈ views.map (·.line) ↔ l.val + 1 ∈ items.map (·.line))
      ∧ (views.map (·.line)).Pairwise (· < ·)
      ∧ (∀ v ∈ views, v.qualified = (t.lines.at v.line).qualified ∧ v.count = (t.lines.at v.line).count)

/-- QUERY-LINES answers with device time and, for each line in order, its settings, qualified level, effective level, raw level,
pending sample (WIRED), last-change time, last report time (MESSAGE) and count; then every count is 0 and nothing else has changed
(R12). -/
def Obligations.QueryLinesClears : Prop :=
  ∀ (s : State) (tag : Byte), Taking s →
    ∃ t views, exec (.queryLines tag []) s = .next t
      ∧ t = { replied s .queryLines tag .ok (.lines ⟨s.time, views⟩) with lines := t.lines }
      ∧ (∀ l : LineId, t.lines.at l = { s.lines.at l with count := 0 })
      ∧ views.length = 8
      ∧ ∀ l : LineId, ∃ v, views[l.val]? = some v
          ∧ v.settings = s.setup.lines.at l ∧ v.qualified = (s.lines.at l).qualified ∧ v.effective = effective s l
          ∧ v.raw = (s.lines.at l).raw ∧ v.lastChange = (s.lines.at l).lastChange ∧ v.count = (s.lines.at l).count
          ∧ ((s.setup.lines.at l).source = .wired → v.held = (s.lines.at l).held)
          ∧ ((s.setup.lines.at l).source = .message → v.lastReport = (s.lines.at l).lastReport)

/-- An accepted SET-LINE stores the settings; the line is left, has its timer restarted, or is restarted, by what differs; the
history of the line is kept (R2, R3). That a WIRED line's first sample is due now is how the model has it taken "at once"
(log 7). -/
def Obligations.SetLineTakesEffect : Prop :=
  ∀ (s : State) (tag : Byte) (l : LineId) (pol : Polarity) (per : Nat) (src : LineSource), Writable s → Taking s →
    per ∈ [2, 20, 80, 320] →
    ∃ t, exec (.setLine tag (.fields ⟨l.val + 1, some pol, per, some src⟩)) s = .next t
      ∧ t.setup = { s.setup with lines := t.setup.lines } ∧ t.setup.lines.at l = ⟨pol, per, src⟩
      ∧ (∀ m, m ≠ l → t.setup.lines.at m = s.setup.lines.at m ∧ t.lines.at m = s.lines.at m)
      ∧ t.store = { s.store with modified := true } ∧ t.plan = s.plan
      ∧ Answered s t .setLine tag (.line ⟨⟨pol, per, src⟩, (t.lines.at l).qualified⟩)
      ∧ (s.setup.lines.at l = ⟨pol, per, src⟩ → t.lines.at l = s.lines.at l)
      ∧ ((s.setup.lines.at l).polarity = pol → (s.setup.lines.at l).source = src → (s.setup.lines.at l).period ≠ per →
          t.lines.at l = { s.lines.at l with nextSample := s.time + BitVec.ofNat 32 per })
      ∧ ((s.setup.lines.at l).polarity ≠ pol ∨ (s.setup.lines.at l).source ≠ src →
          t.lines.at l = { s.lines.at l with qualified := none, held := none, nextSample := (t.lines.at l).nextSample }
            ∧ (src = .wired → (t.lines.at l).nextSample = s.time))

/-! ## Capacity -/

/-- The settle expiry stops the timer, makes every ACCEPTING set ONLINE together and no other, and C and S are recomputed (R20,
R24, R26). -/
def Obligations.SettleExpiryOnline : Prop :=
  ∀ (s : State) (e : Time), s.cap.settle = some e → Due s.time e →
    ∃ t, exec .settleExpiry s = .next t ∧ SettingsKept s t ∧ HostSideKept s t ∧ t.cap.settle = none
      ∧ CapacityFollowsPlant t
      ∧ ∀ n : SetId, (t.cap.sets.at n).trim = (s.cap.sets.at n).trim
          ∧ (t.cap.sets.at n).status =
            if (s.cap.sets.at n).status = .accepting then .online else (s.cap.sets.at n).status

/-- A qualified change of a line that the Capacity Unit reads, by a sample or by a LINE-REPORT. A set's line becoming ACTIVE makes an
enabled OFFLINE set ACCEPTING, and becoming INACTIVE makes an ACCEPTING or ONLINE set OFFLINE at once; any other set is unaffected.
LBNK and PREALM change no set. Each of these starts the settle timer anew, and C and S follow at once; a change of UTIL or RETX, or of
a set's line that changes no status, leaves the Capacity Unit as it is (R19, R21, R22, R24, R25, R26). The LINE-EVENT report of the
change is the first report queued; the SET-TRIP report of an ONLINE set lost in RETURN or SERVICE is the second, with the contribution
lost and C, S and the counts that remain (R9, R23). -/
def Obligations.SetLineDrivesStatus : Prop :=
  ∀ (s : State) (l : LineId) (level : Level) (c : Instr), ChangesLine c s l level →
    ∃ t rest, exec c s = .next t ∧ t.setup = s.setup ∧ t.store = s.store ∧ effective t l = level
      ∧ (∀ n : SetId, l = setLineOf n →
          (∀ m, m ≠ n → t.cap.sets.at m = s.cap.sets.at m)
          ∧ (level = .active → (s.setup.sets.at n).enabled = true → (s.cap.sets.at n).status = .offline →
              t.cap.sets.at n = { s.cap.sets.at n with status := .accepting }
                ∧ t.cap.settle = some (s.time + BitVec.ofNat 32 s.setup.limits.settle) ∧ CapacityFollowsPlant t)
          ∧ (level = .inactive → (s.cap.sets.at n).status ≠ .offline →
              t.cap.sets.at n = { s.cap.sets.at n with status := .offline }
                ∧ t.cap.settle = some (s.time + BitVec.ofNat 32 s.setup.limits.settle) ∧ CapacityFollowsPlant t)
          ∧ (level = .active → ((s.setup.sets.at n).enabled = false ∨ (s.cap.sets.at n).status ≠ .offline) →
              t.cap = s.cap)
          ∧ (level = .inactive → (s.cap.sets.at n).status = .offline → t.cap = s.cap)
          ∧ (level = .inactive → (s.cap.sets.at n).status = .online → Granting s →
              ReportsQueued s t (changeReport s l level :: .setTrip
                { set := n, time := s.time, plan := s.plan.state, contribution := contributes s n, c := t.cap.c,
                  sink := t.cap.sink, online := setsWith t .online, accepting := setsWith t .accepting } :: rest)))
      ∧ (l = bankLine ∨ l = alarmLine →
          t.cap.sets = s.cap.sets ∧ t.cap.settle = some (s.time + BitVec.ofNat 32 s.setup.limits.settle)
            ∧ CapacityFollowsPlant t)
      ∧ (l = utilLine ∨ l = retxLine → t.cap = s.cap)
      ∧ ((∀ n : SetId, l = setLineOf n → ¬ (level = .inactive ∧ (s.cap.sets.at n).status = .online ∧ Granting s)) →
          ReportsQueued s t (changeReport s l level :: rest))

/-- TRIM-SET replaces one set's trim, a value above 100 taken as 100, and C is recomputed; it is not a stage change (R28, R24). A rise
of C or S above the values that the Service Selector last read clears every set-aside marker, and a fall clears none; the selector has
then read the new values (R161). -/
def Obligations.TrimSetApplies : Prop :=
  ∀ (s : State) (tag : Byte) (n : SetId) (v : Byte), Taking s →
    ∃ t, exec (.trimSet tag (.fields ⟨n.val + 1, v⟩)) s = .next t ∧ SettingsKept s t
      ∧ t.cap.sets.at n = { s.cap.sets.at n with trim := min 100 v.toNat }
      ∧ (∀ m, m ≠ n → t.cap.sets.at m = s.cap.sets.at m) ∧ t.cap.settle = s.cap.settle ∧ CapacityFollowsPlant t
      ∧ Answered s t .trimSet tag
          (.trim ⟨n, min 100 v.toNat, decide (100 < v.toNat), (s.cap.sets.at n).status, contributes t n, t.cap.c⟩)
      ∧ (s.cap.c < t.cap.c → (s.svc.lastC < t.cap.c ∨ s.svc.lastS < t.cap.sink) → t.svc.setAside = Table.const 48 none ∧ t.svc.lastC = t.cap.c
          ∧ t.svc.lastS = t.cap.sink)
      ∧ (t.cap.c < s.cap.c → t.cap.sink = s.cap.sink → s.plan.state = .service → GeneratorStays s →
          t.svc.setAside = s.svc.setAside ∧ t.svc.lastC = s.svc.lastC ∧ t.svc.lastS = s.svc.lastS)

/-- SET-GENSET stores a set's configuration; a disabled set goes OFFLINE, a newly enabled one ACCEPTING when its line is ACTIVE, and
either is a stage change; an allocation alone is none; C is recomputed and the trim is left (R16, R17, R19). -/
def Obligations.SetGensetApplies : Prop :=
  ∀ (s : State) (tag : Byte) (n : SetId) (en : Bool) (alloc : Nat), Writable s → Taking s → alloc ≤ 200000 →
    ∃ t, exec (.setGenset tag (.fields ⟨n.val + 1, some en, alloc⟩)) s = .next t
      ∧ t.setup = { s.setup with sets := t.setup.sets } ∧ t.setup.sets.at n = ⟨en, alloc⟩
      ∧ (∀ m, m ≠ n → t.setup.sets.at m = s.setup.sets.at m ∧ t.cap.sets.at m = s.cap.sets.at m)
      ∧ (t.cap.sets.at n).trim = (s.cap.sets.at n).trim ∧ t.lines = s.lines ∧ t.plan = s.plan
      ∧ t.store = { s.store with modified := true } ∧ CapacityFollowsPlant t
      ∧ Answered s t .setGenset tag
          (.genset ⟨en, alloc, (s.cap.sets.at n).trim, (t.cap.sets.at n).status, t.cap.c⟩)
      ∧ (en = false → (t.cap.sets.at n).status = .offline
          ∧ ((s.cap.sets.at n).status ≠ .offline →
            t.cap.settle = some (s.time + BitVec.ofNat 32 s.setup.limits.settle))
          ∧ ((s.cap.sets.at n).status = .offline → t.cap.settle = s.cap.settle))
      ∧ (en = true → (s.setup.sets.at n).enabled = false → effective s (setLineOf n) = .active →
          (t.cap.sets.at n).status = .accepting
            ∧ t.cap.settle = some (s.time + BitVec.ofNat 32 s.setup.limits.settle))
      ∧ (en = true → ((s.setup.sets.at n).enabled = true ∨ effective s (setLineOf n) = .inactive) →
          (t.cap.sets.at n).status = (s.cap.sets.at n).status ∧ t.cap.settle = s.cap.settle)

/-- SET-LIMITS replaces every limit setting together, each by the field of its name; C and S are recomputed, every runtime count
becomes the configured one, and it is not a stage change (R170, R153, R19). -/
def Obligations.SetLimitsStores : Prop :=
  ∀ (s : State) (tag : Byte) (f : LimitsForm) (lim : Limits), Writable s → Taking s → checkLimits f = some lim →
    (∃ t, exec (.setLimits tag (.fields f)) s = .next t ∧ t.setup = { s.setup with limits := lim }
      ∧ t.svc.counts = lim.counts ∧ CapacityFollowsPlant t ∧ t.cap.sets = s.cap.sets ∧ t.cap.settle = s.cap.settle
      ∧ t.lines = s.lines ∧ t.plan = s.plan ∧ t.store = { s.store with modified := true }
      ∧ Answered s t .setLimits tag (.limits lim))
    ∧ f = ⟨lim.reserve, lim.derate, lim.settle, lim.bankRating, lim.baseLoad, lim.pollInterval, lim.silenceThreshold,
        lim.silentHold, lim.samplePeriod, some lim.onTrip, some lim.onDraw, some lim.onHost, lim.pre, lim.post,
        some lim.freeze, some lim.captureMode, some lim.returnMode, lim.startSlots, lim.spacing, lim.lookahead,
        lim.passLimit, lim.groupSize, lim.stepLimit, some lim.releaseSource, lim.attempts, lim.margin,
        lim.restoreTimeout, lim.counts, lim.rate⟩

/-! ## Cars and the links -/

/-- SET-CAR replaces the whole profile and gives an enrolled car a record at the initial values, any other car none (R32, R33);
DROP-CAR takes an enrolled car's record and keeps the rest of its profile, and refuses one not enrolled (R34). Nothing else
changes, but that the dropped car's slot is empty (R59): that neither request queues a CAR-STATE report is the model's choice
(log 22). -/
def Obligations.CarProfileWritten : Prop :=
  ∀ (s : State) (tag : Byte) (c : CarId), Writable s → Taking s →
    (∀ (f : CarForm) (p : CarProfile), f.car = c.val + 1 → 1 ≤ f.ranges.length → f.ranges.length ≤ 4 →
      checkProfile f = some p →
      (∃ t, exec (.setCar tag (.fields f)) s = .next t ∧ LinesDriven t
        ∧ t = { replied s .setCar tag .ok (.profile p) with
            setup := { s.setup with profiles := s.setup.profiles.put c p }
            cars := s.cars.put c (if p.enrolled then some CarRecord.initial else none)
            store := { s.store with modified := true }
            inds := t.inds })
      ∧ f = ⟨c.val + 1, some p.enrolled, some p.link, p.drop, p.bank, p.ranges, p.recallFloor, p.power, p.balance, p.loss,
          p.inrush, some p.regenCapable, p.efficiency, p.startWindow, p.floorTime, p.doorTime, p.returnClass,
          p.occupiedAt, p.rank⟩)
    ∧ ((profile s c).enrolled = true →
      ∃ t, exec (.dropCar tag (.fields (c.val + 1))) s = .next t ∧ LinesDriven t
        ∧ (t.link.cars.at c) = { s.link.cars.at c with slot := none }
        ∧ t = { replied s .dropCar tag .ok .nothing with
            setup := { s.setup with profiles := s.setup.profiles.put c { profile s c with enrolled := false } }
            cars := s.cars.put c none
            link := { s.link with cars := s.link.cars.put c (t.link.cars.at c) }
            store := { s.store with modified := true }
            inds := t.inds })
    ∧ ((profile s c).enrolled = false →
      exec (.dropCar tag (.fields (c.val + 1))) s = .next (replied s .dropCar tag .notEnrolled .nothing))

/-- A valid reply's status is applied to the car record: floor, between-floors, motion, door, load (to at most 125, or UNKNOWN),
authority, fault code, time and occupancy; the hold-out flag stands (R35, R36, Table 4-2). The settings, the host's side of the
port and the Capacity Unit are untouched. Bytes on a link with no exchange in flight, and a reply that fails a test of R56, its CRC
among them, are discarded: nothing changes, and the exchange stays in flight (R54, R56). That the CRC covers the bytes of a reply in
the order in which R56 names the fields is the model's reading (log 9). -/
def Obligations.CarReplyRecorded : Prop :=
  (∀ (s : State) (k : Link) (x : Exchange) (r : CarReply) (old : CarRecord), (linkLine s k).exchange = some x →
    record s x.car = some old → ValidReply s x r →
    ∃ t new, exec (.carReply k r) s = .next t ∧ SettingsKept s t ∧ HostSideKept s t ∧ t.cap = s.cap
      ∧ record t x.car = some new
      ∧ new.floor = some r.floor.toNat ∧ new.between = some (r.bits.getLsbD 0)
      ∧ new.motion = some
          (if r.bits.getLsbD 4 then (if r.bits.getLsbD 3 then .decelerating else .atSpeed)
            else (if r.bits.getLsbD 3 then .accelerating else .stopped))
      ∧ new.door = some
          (if r.bits.getLsbD 6 then (if r.bits.getLsbD 5 then .closing else .opened)
            else (if r.bits.getLsbD 5 then .opening else .closed))
      ∧ new.load = (if r.bits.getLsbD 7 then none else some (min r.load.toNat 125))
      ∧ new.authority = authorityIn r
      ∧ new.faultCode = (if r.bits.getLsbD 2 then some r.fault else none)
      ∧ new.lastStatus = some s.time ∧ new.holdOut = old.holdOut
      ∧ (new.occupied = true ↔ r.bits.getLsbD 7 = true ∨ (profile s x.car).occupiedAt ≤ min r.load.toNat 125))
    ∧ ∀ (s : State) (k : Link) (r : CarReply),
      ((linkLine s k).exchange = none ∨ ∃ x, (linkLine s k).exchange = some x ∧ ¬ ValidReply s x r) →
        exec (.carReplyInvalid k r) s = .next s ∧ exec (.carReply k r) s = .next s

/-- A reply to a poll of an IDLE car while the plan is WATCHING with UTIL present updates its record and changes no state: the account,
queue, selector, plan and history, the car's own state and every other car stand; the missed count and poll age are 0 (R35,
R57). -/
def Obligations.WatchingPollReply : Prop :=
  ∀ (s : State) (k : Link) (c : CarId) (r : CarReply) (old : CarRecord), s.plan.state = .watching →
    effective s utilLine = .active → s.plan.census = .none → (linkLine s k).exchange = some ⟨c, .poll⟩ →
    record s c = some old → old.state = .idle → ValidReply s ⟨c, .poll⟩ r →
    ∃ t new, exec (.carReply k r) s = .next t ∧ SettingsKept s t ∧ HostSideKept s t ∧ StageKept s t ∧ t.cap = s.cap
      ∧ (∀ d, d ≠ c → record t d = record s d)
      ∧ record t c = some new ∧ new.state = .idle ∧ new.linkStatus = .inContact ∧ new.attempts = old.attempts
      ∧ new.failure = old.failure ∧ new.parkOut = old.parkOut
      ∧ (t.link.cars.at c).missed = 0 ∧ (t.link.cars.at c).lastEnd = s.time ∧ (t.link.cars.at c).silentHold = none

/-- A poll missed while the plan is WATCHING with UTIL present raises the car's missed count by one, to at most 255, and sets its
poll age to 0; at the silence threshold, and only there, an IDLE car goes ABSENT with link status SILENT, its slot is emptied and a
CAR-STATE report with cause SILENCE is placed (R63, R66, R67). -/
def Obligations.MissedExchangeCounted : Prop :=
  ∀ (s : State) (k : Link) (order : DropOrder) (c : CarId) (old : CarRecord), s.plan.state = .watching →
    effective s utilLine = .active → s.plan.census = .none → (linkLine s k).exchange = some ⟨c, .poll⟩ →
    record s c = some old → old.state = .idle → old.linkStatus = .inContact →
    ∃ t, exec (.missedExchange k order) s = .next t ∧ SettingsKept s t ∧ HostSideKept s t ∧ StageKept s t ∧ t.cap = s.cap
      ∧ (t.link.cars.at c).missed = min 255 ((s.link.cars.at c).missed + 1) ∧ (t.link.cars.at c).lastEnd = s.time
      ∧ (∀ d, d ≠ c → record t d = record s d ∧ (t.link.cars.at d).missed = (s.link.cars.at d).missed)
      ∧ (min 255 ((s.link.cars.at c).missed + 1) ≠ s.setup.limits.silenceThreshold →
          t.cars = s.cars ∧ t.port = s.port)
      ∧ (min 255 ((s.link.cars.at c).missed + 1) = s.setup.limits.silenceThreshold →
          record t c = some { old with state := .absent, linkStatus := .silent, parkOut := false, failure := none }
            ∧ (t.link.cars.at c).slot = none
            ∧ ∃ rep : CarStateReport, t.port = s.port.place (.carState rep) ∧ rep.car = c ∧ rep.before = .idle
              ∧ rep.after = .absent ∧ rep.cause = .silence ∧ rep.linkStatus = .silent)

/-- A reply to the poll of an ABSENT car, and in SETTLING the first reply since the census began of an IDLE one, is a first contact:
in WATCHING and OUTAGE the car goes IDLE, with the HAND-BACK it is owed or HOLD slotted; in RESTORING a stopped car goes IDLE with HOLD;
in SETTLING a stopped car takes the evaluation's SETTLING form, and in RETURN and SERVICE the evaluation in full; a moving car is adopted
by its authority in SETTLING, RETURN, SERVICE and RESTORING. One CAR-STATE report is queued, with cause CONTACT, or ADOPTION for an
adopted car (R39, R40, R128). -/
def Obligations.FirstContactActs : Prop :=
  ∀ (s : State) (k : Link) (c : CarId) (r : CarReply) (old : CarRecord), Replies s k ⟨c, .poll⟩ r old →
    (old.state = .absent → s.plan.state = .watching → effective s utilLine = .active →
      ∃ t new, exec (.carReply k r) s = .next t ∧ SettingsKept s t ∧ HostSideKept s t ∧ t.cap = s.cap ∧ t.acct = s.acct
        ∧ t.ret = s.ret ∧ t.plan.state = .watching ∧ record t c = some new ∧ new.state = .idle ∧ new.linkStatus = .inContact
        ∧ CarReported s t c .absent .idle .contact none ∧ (s.plan.owed.at c = true → Slotted s t c .handBack none))
    ∧ (old.state = .absent → s.plan.state = .outage → effective s utilLine = .inactive →
      (∀ n, (s.cap.sets.at n).status = .offline) →
      ∃ t, exec (.carReply k r) s = .next t ∧ SettingsKept s t ∧ HostSideKept s t ∧ t.cap = s.cap ∧ t.acct = s.acct
        ∧ t.ret = s.ret ∧ Held s t c .idle ∧ CarReported s t c .absent .idle .contact none)
    ∧ (s.plan.state = .settling → GeneratorStays s → s.cap.settle ≠ none → entryOf s c = none →
      (old.state = .absent ∨ (old.state = .idle ∧ s.plan.census = .inProgress ∧ s.plan.counted.at c = false)) →
      ∃ t, exec (.carReply k r) s = .next t ∧ SettingsKept s t ∧ HostSideKept s t ∧ t.cap = s.cap ∧ t.ret = s.ret
        ∧ (s.plan.census = .inProgress → t.plan.counted.at c = true)
        ∧ (StoppedIn r → ∃ new, record t c = some new
            ∧ (old.state ≠ new.state → CarReported s t c old.state new.state .contact none)
            ∧ (Local (authorityIn r) → new.state = .deferred ∧ Stood s t c)
            ∧ (¬ Local (authorityIn r) → authorityIn r = some .outOfOrder ∨ old.holdOut = true →
                new.state = .held ∧ Slotted s t c .hold none ∧ t.acct = s.acct)
            ∧ (authorityIn r = some .sequencer → old.holdOut = false →
                new.state = .idle ∧ Slotted s t c .hold none ∧ t.acct = s.acct))
        ∧ (¬ StoppedIn r → Adopted s t c (authorityIn r)
            ∧ CarReported s t c old.state (adoptedState (authorityIn r)) .adoption none))
    ∧ (old.state = .absent → s.plan.state = .restoring → effective s retxLine = .active → effective s utilLine = .inactive →
      (∃ n, (s.cap.sets.at n).status ≠ .offline) → entryOf s c = none →
      ∃ t, exec (.carReply k r) s = .next t ∧ SettingsKept s t ∧ HostSideKept s t ∧ t.cap = s.cap
        ∧ (StoppedIn r → Held s t c .idle ∧ t.acct = s.acct ∧ CarReported s t c .absent .idle .contact none)
        ∧ (¬ StoppedIn r → Adopted s t c (authorityIn r)
            ∧ CarReported s t c .absent (adoptedState (authorityIn r)) .adoption none))
    ∧ (old.state = .absent → Paused s c → entryOf s c = none →
      ∃ t, exec (.carReply k r) s = .next t ∧ SettingsKept s t ∧ HostSideKept s t ∧ t.cap = s.cap
        ∧ (StoppedIn r →
            Evaluated s t c (authorityIn r) old.holdOut old.attempts (levelIn r (profile s c).recallFloor)
            ∧ CarReported s t c .absent
                (evaluationState s (authorityIn r) old.holdOut old.attempts (levelIn r (profile s c).recallFloor))
                .contact none)
        ∧ (¬ StoppedIn r → Adopted s t c (authorityIn r)
            ∧ CarReported s t c .absent (adoptedState (authorityIn r)) .adoption none))

/-- A reply to the poll of a car that runs under a RETURN, SERVICE or ADOPTED entry, or of a DEFERRED one, in RETURN or SERVICE. A moving
car that shows speed steps its START-phase entry, and goes RUNNING (R95, R42). A car that stops under an entry in RUN or STOP phase, or at
its target floor before it has shown speed, has its entry released, the stop is classified by Table 8-3 and the car is evaluated; a queued
one has a front mark by its claim or from the retransfer-cancelled set (R42, R148, R127, R132). A local authority converts the entry to
STANDING and the car goes DEFERRED (R44); OUT-OF-ORDER ends the run (R46); a DEFERRED car that has left its local authority and stopped is
released and evaluated (R45). A car that was SILENT takes up the state of its entry, with cause RESUMPTION (R48). The first reply of a
SILENT car whose start window has lapsed steps the entry when the car moves, which OUT-OF-ORDER then takes to STOP phase; when the car has
stopped at the target it is an arrival, or R44 and R46 act under their authorities, and else it ends the run with an attempt consumed (R96).
That the Power Account acts on a reply before R44 and R46 do is the model's reading (log 13): a lapsed window ends the run with an attempt
consumed under a local or OUT-OF-ORDER authority too, though those rules consume none, and a moving car under OUT-OF-ORDER steps first. A
step that leaves an overcommit may shed the stepped entry itself (R100). -/
def Obligations.RunReplies : Prop :=
  ∀ (s : State) (k : Link) (c : CarId) (r : CarReply) (old : CarRecord) (e : Entry), Replies s k ⟨c, .poll⟩ r old →
    Paused s c → entryOf s c = some e →
    (∀ (win : StartWindow) (run : Nat), RunsUnder old e → e.phase = .start → e.window = some win → win.lapsed = false →
      e.runDraw = some run → authorityIn r = some .sequencer → ¬ StoppedIn r →
      (r.bits.getLsbD 1 = true ∨ r.bits.getLsbD 4 = true) →
      ∃ t new, exec (.carReply k r) s = .next t ∧ SettingsKept s t ∧ HostSideKept s t ∧ t.cap = s.cap
        ∧ t.acct.kd = s.acct.kd - e.draw + run ∧ t.acct.kr = s.acct.kr ∧ RunsOrShed s t c e run
        ∧ record t c = some new ∧ new.attempts = old.attempts
        ∧ CarReported s t c old.state .running (causeOf old .step) none)
    ∧ (∀ used : Nat, RunsUnder old e → StoppedIn r →
      ((authorityIn r = some .sequencer
          ∧ (e.phase = .run ∨ e.phase = .stop ∨ (e.phase = .start ∧ WindowOpen e ∧ Arrives e r ∧ r.bits.getLsbD 1 = false)))
        ∨ (authorityIn r = some .outOfOrder ∧ e.phase = .stop)) →
      (Consumes e r → used = min 5 (old.attempts + 1)) → (¬ Consumes e r → used = old.attempts) →
      ∃ t, exec (.carReply k r) s = .next t ∧ SettingsKept s t ∧ HostSideKept s t ∧ t.cap = s.cap
        ∧ entryOf t c = none ∧ t.acct.kd = s.acct.kd - e.draw ∧ t.acct.kr = s.acct.kr - e.regen
        ∧ Evaluated s t c (authorityIn r) old.holdOut used (levelIn r (profile s c).recallFloor)
        ∧ CarReported s t c old.state
            (evaluationState s (authorityIn r) old.holdOut used (levelIn r (profile s c).recallFloor)) (causeOf old .stop) none
        ∧ ((record t c).map (·.state) = some .queued → ∃ x ∈ t.ret.queue, x.car = c
            ∧ (x.front = true ↔ ClaimsFront e r ∨ s.plan.cancelled.at c = true) ∧ x.cls = (profile s c).returnClass
            ∧ x.seq = s.ret.nextSeq ∧ x.passed = 0 ∧ (record t c).map (·.occupied) = some x.occupied)
        ∧ t.plan.cancelled.at c = false)
    ∧ (RunEntry e → (old.state = runState e ∨ old.state = .silent) → WindowOpen e ∨ ¬ StoppedIn r ∨ Arrives e r →
      Local (authorityIn r) →
      ∃ t new, exec (.carReply k r) s = .next t ∧ SettingsKept s t ∧ HostSideKept s t ∧ t.cap = s.cap
        ∧ entryOf t c = some { e with
            kind := .standing, phase := .fixed, stopCause := none, draw := (worstFigures (profile s c)).draw
            regen := (worstFigures (profile s c)).regen, runDraw := none, target := none, window := none, deadline := none }
        ∧ record t c = some new ∧ new.state = .deferred ∧ new.attempts = old.attempts ∧ (t.link.cars.at c).slot = none
        ∧ CarReported s t c old.state .deferred (causeOf old .authority) none)
    ∧ (RunsUnder old e → WindowOpen e ∨ Arrives e r → e.phase ≠ .stop → authorityIn r = some .outOfOrder → StoppedIn r →
      ∃ t, exec (.carReply k r) s = .next t ∧ SettingsKept s t ∧ HostSideKept s t ∧ t.cap = s.cap
        ∧ entryOf t c = none ∧ t.acct.kr = s.acct.kr - e.regen
        ∧ Evaluated s t c (some .outOfOrder) old.holdOut old.attempts (levelIn r (profile s c).recallFloor)
        ∧ CarReported s t c old.state .held (causeOf old .authority) none)
    ∧ (RunsUnder old e → WindowOpen e → e.phase = .run ∨ e.phase = .holding → authorityIn r = some .outOfOrder → ¬ StoppedIn r →
      ∃ t new, exec (.carReply k r) s = .next t ∧ SettingsKept s t ∧ HostSideKept s t ∧ t.cap = s.cap
        ∧ entryOf t c = some { e with phase := .stop, stopCause := some .authority, window := none, deadline := none }
        ∧ t.acct = { s.acct with entries := t.acct.entries } ∧ (∀ d, d ≠ c → entryOf t d = entryOf s d)
        ∧ record t c = some new ∧ new.state = .stopping ∧ new.attempts = old.attempts ∧ (t.link.cars.at c).slot = none
        ∧ CarReported s t c old.state .stopping (causeOf old .authority) none)
    ∧ (old.state = .deferred → e.kind = .standing → ¬ Local (authorityIn r) → StoppedIn r →
      ∃ t, exec (.carReply k r) s = .next t ∧ SettingsKept s t ∧ HostSideKept s t ∧ t.cap = s.cap
        ∧ entryOf t c = none ∧ t.acct.kd = s.acct.kd - e.draw ∧ t.acct.kr = s.acct.kr - e.regen
        ∧ Evaluated s t c (authorityIn r) old.holdOut old.attempts (levelIn r (profile s c).recallFloor)
        ∧ CarReported s t c .deferred
            (evaluationState s (authorityIn r) old.holdOut old.attempts (levelIn r (profile s c).recallFloor)) .authority none)
    ∧ (∀ (win : StartWindow) (run f : Nat), e.kind = .returning → e.phase = .start → e.window = some win → win.lapsed = true →
      e.runDraw = some run → e.target = some f → old.state = .silent →
      (¬ StoppedIn r → ¬ Local (authorityIn r) →
        ∃ t new, exec (.carReply k r) s = .next t ∧ SettingsKept s t ∧ HostSideKept s t ∧ t.cap = s.cap
          ∧ t.acct.kd = s.acct.kd - e.draw + run ∧ t.acct.kr = s.acct.kr ∧ record t c = some new ∧ new.attempts = old.attempts
          ∧ (authorityIn r = some .sequencer → RunsOrShed s t c e run ∧ CarReported s t c .silent .running .resumption none)
          ∧ (authorityIn r = some .outOfOrder →
              new.state = .stopping ∧ CarReported s t c .silent .stopping .resumption none
              ∧ (entryOf t c = some { runForm e run with phase := .stop, stopCause := some .authority, deadline := none }
                ∨ (StepOverruns s e run ∧ entryOf t c = some (shedForm (runForm e run))))))
      ∧ (∀ used : Nat, StoppedIn r →
        (Arrives e r → authorityIn r = some .sequencer ∧ used = old.attempts) →
        (¬ Arrives e r → used = min 5 (old.attempts + 1)) →
        ∃ t, exec (.carReply k r) s = .next t ∧ SettingsKept s t ∧ HostSideKept s t ∧ t.cap = s.cap
          ∧ (¬ Local (authorityIn r) →
              entryOf t c = none ∧ t.acct.kd = s.acct.kd - e.draw ∧ t.acct.kr = s.acct.kr - e.regen)
          ∧ Evaluated s t c (authorityIn r) old.holdOut used (levelIn r (profile s c).recallFloor)
          ∧ CarReported s t c .silent
              (evaluationState s (authorityIn r) old.holdOut used (levelIn r (profile s c).recallFloor)) .resumption none))

/-- A reply to the poll of a QUEUED, STAGED, IDLE, PARKED or HELD car in contact that holds no entry and makes no first contact. A moving
car is adopted by its authority, with cause ADOPTION, or under a local authority with cause AUTHORITY; a stopped car whose authority is not
the one recorded is evaluated with cause AUTHORITY, or STATUS where its state stays (R38), in SETTLING by the SETTLING form. In either case
it has left the queue, or has a new item in it, and the group, and PARK outstanding is clear unless PARK is slotted anew (R40, R43, R47). In
RESTORING a stopped car, and in WATCHING and OUTAGE any car, keeps its state, and so does a FAILED car under whatever authority it moves
(R43, R47). -/
def Obligations.EntrylessReplies : Prop :=
  ∀ (s : State) (k : Link) (c : CarId) (r : CarReply) (old : CarRecord), Replies s k ⟨c, .poll⟩ r old →
    old.linkStatus = .inContact → entryOf s c = none →
    ((old.state = .queued ∨ old.state = .staged ∨ old.state = .idle ∨ old.state = .parked ∨ old.state = .held) →
      (∀ _ : Granting s, GeneratorStays s → TotalsMatch s → OneEntryPerCar s → s.ret.spacing ≠ none →
        (¬ StoppedIn r →
          ∃ t, exec (.carReply k r) s = .next t ∧ SettingsKept s t ∧ HostSideKept s t ∧ t.cap = s.cap
            ∧ Adopted s t c (authorityIn r) ∧ t.acct.kd = s.acct.kd + (worstFigures (profile s c)).draw
            ∧ t.acct.kr = s.acct.kr + (worstFigures (profile s c)).regen
            ∧ (∀ x ∈ t.ret.queue, x.car ≠ c) ∧ (∀ x ∈ t.ret.group, x.car ≠ c)
            ∧ (record t c).map (·.parkOut) = some false
            ∧ CarReported s t c old.state (adoptedState (authorityIn r))
                (if adoptedState (authorityIn r) = .deferred then .authority else .adoption) none)
        ∧ (StoppedIn r → old.authority ≠ authorityIn r →
          ∃ t, exec (.carReply k r) s = .next t ∧ SettingsKept s t ∧ HostSideKept s t ∧ t.cap = s.cap
            ∧ Evaluated s t c (authorityIn r) old.holdOut old.attempts (levelIn r (profile s c).recallFloor)
            ∧ (∀ x ∈ t.ret.queue, x.car = c → x.seq = s.ret.nextSeq)
            ∧ CarReported s t c old.state
                (evaluationState s (authorityIn r) old.holdOut old.attempts (levelIn r (profile s c).recallFloor))
                (if old.state = evaluationState s (authorityIn r) old.holdOut old.attempts (levelIn r (profile s c).recallFloor)
                  then .status else .authority) none))
      ∧ (s.plan.state = .settling → GeneratorStays s → s.cap.settle ≠ none →
        (old.state = .idle → s.plan.census = .inProgress → s.plan.counted.at c = true) →
        (¬ StoppedIn r →
          ∃ t, exec (.carReply k r) s = .next t ∧ SettingsKept s t ∧ HostSideKept s t ∧ t.cap = s.cap
            ∧ Adopted s t c (authorityIn r)
            ∧ CarReported s t c old.state (adoptedState (authorityIn r))
                (if adoptedState (authorityIn r) = .deferred then .authority else .adoption) none)
        ∧ (StoppedIn r → old.authority ≠ authorityIn r →
          ∃ t new, exec (.carReply k r) s = .next t ∧ SettingsKept s t ∧ HostSideKept s t ∧ t.cap = s.cap
            ∧ record t c = some new
            ∧ CarReported s t c old.state new.state (if old.state = new.state then .status else .authority) none
            ∧ (Local (authorityIn r) → new.state = .deferred ∧ Stood s t c)
            ∧ (¬ Local (authorityIn r) → authorityIn r = some .outOfOrder ∨ old.holdOut = true →
                new.state = .held ∧ Slotted s t c .hold none)
            ∧ (authorityIn r = some .sequencer → old.holdOut = false → new.state = .idle ∧ Slotted s t c .hold none)))
      ∧ (s.plan.state = .restoring → NoExit s → effective s utilLine = .inactive →
        (¬ StoppedIn r →
          ∃ t, exec (.carReply k r) s = .next t ∧ SettingsKept s t ∧ HostSideKept s t ∧ t.cap = s.cap
            ∧ Adopted s t c (authorityIn r)
            ∧ CarReported s t c old.state (adoptedState (authorityIn r))
                (if adoptedState (authorityIn r) = .deferred then .authority else .adoption) none)
        ∧ (StoppedIn r →
          ∃ t, exec (.carReply k r) s = .next t ∧ SettingsKept s t ∧ HostSideKept s t ∧ t.cap = s.cap ∧ t.acct = s.acct
            ∧ (record t c).map (·.state) = some old.state)))
    ∧ ((s.plan.state = .watching ∨ s.plan.state = .outage) → NoExit s → old.state ≠ .absent →
      ∃ t, exec (.carReply k r) s = .next t ∧ SettingsKept s t ∧ HostSideKept s t ∧ t.cap = s.cap ∧ t.acct = s.acct
        ∧ (record t c).map (·.state) = some old.state)
    ∧ (old.state = .failed → Granting s → GeneratorStays s → s.ret.spacing ≠ none →
      ∃ t, exec (.carReply k r) s = .next t ∧ SettingsKept s t ∧ HostSideKept s t ∧ t.cap = s.cap ∧ t.acct = s.acct
        ∧ (record t c).map (·.state) = some .failed)

/-- The verdict in a reply from a car under SEQUENCER authority as before, in RETURN or SERVICE. PARK accepted makes the car PARKED;
declined, it consumes an attempt and the car is evaluated (R41). RUN-TO declined by a stopped car whose permit number and START phase match
releases the entry, consumes an attempt and evaluates the car (R146). SERVE accepted confirms the designation (R158); declined, it consumes
an attempt, sets the marker and ends the designation, by release when the car is stopped and by a stop when it is moving (R159). A declined
STOP-NEXT is placed again while the car still moves under its entry (R62). In WATCHING a HAND-BACK accepted ends the car's claim and one
declined is placed again (R73, R128). For a released SERVE, C and S have not risen meanwhile (R161). The causes of the reports of a declined
PARK, STOP-NEXT and HAND-BACK are the model's reading (log 15). -/
def Obligations.VerdictsAct : Prop :=
  ∀ (s : State) (k : Link) (c : CarId) (cmd : Command) (r : CarReply) (old : CarRecord), Replies s k ⟨c, .command cmd⟩ r old →
    authorityIn r = some .sequencer → old.authority = some .sequencer →
    (Paused s c →
      (cmd.kind = .park → old.state = .idle → old.parkOut = true → entryOf s c = none → StoppedIn r →
        (r.verdict = .accepted →
          ∃ t new, exec (.carReply k r) s = .next t ∧ SettingsKept s t ∧ HostSideKept s t ∧ t.cap = s.cap ∧ t.acct = s.acct
            ∧ record t c = some new ∧ new.state = .parked ∧ new.parkOut = false ∧ new.attempts = old.attempts
            ∧ CarReported s t c .idle .parked .park none)
        ∧ (∀ (reason : DeclineReason) (used : Nat) (st : CarState), r.verdict = .declined reason →
          used = min 5 (old.attempts + 1) →
          st = evaluationState s (some .sequencer) old.holdOut used (levelIn r (profile s c).recallFloor) →
          ∃ t, exec (.carReply k r) s = .next t ∧ SettingsKept s t ∧ HostSideKept s t ∧ t.cap = s.cap ∧ t.acct = s.acct
            ∧ Evaluated s t c (some .sequencer) old.holdOut used (levelIn r (profile s c).recallFloor)
            ∧ CarReported s t c .idle st (if st = .idle then .declined else .evaluation) (some ⟨.park, reason⟩)))
      ∧ (∀ (e : Entry) (reason : DeclineReason) (used : Nat), cmd.kind = .runTo → old.state = .starting →
        entryOf s c = some e → e.kind = .returning → e.phase = .start → WindowOpen e → cmd.permit = some e.permit →
        StoppedIn r → r.bits.getLsbD 1 = false → ¬ Arrives e r → r.verdict = .declined reason →
        used = min 5 (old.attempts + 1) →
        ∃ t, exec (.carReply k r) s = .next t ∧ SettingsKept s t ∧ HostSideKept s t ∧ t.cap = s.cap
          ∧ entryOf t c = none ∧ t.acct.kd = s.acct.kd - e.draw ∧ t.acct.kr = s.acct.kr - e.regen
          ∧ Evaluated s t c (some .sequencer) old.holdOut used (levelIn r (profile s c).recallFloor)
          ∧ CarReported s t c .starting
              (evaluationState s (some .sequencer) old.holdOut used (levelIn r (profile s c).recallFloor)) .declined
              (some ⟨.runTo, reason⟩))
      ∧ (∀ (e : Entry) (rec : ServiceRecord), cmd.kind = .serve → old.state = .serving → ServeStands s c cmd.permit e →
        s.svc.records.at c = some rec →
        (r.verdict = .accepted →
          ∃ t new, exec (.carReply k r) s = .next t ∧ SettingsKept s t ∧ HostSideKept s t ∧ t.cap = s.cap ∧ t.acct = s.acct
            ∧ t.svc.records.at c = some { rec with status := .confirmed } ∧ t.svc.setAside = s.svc.setAside
            ∧ record t c = some new ∧ new.state = .serving ∧ new.attempts = old.attempts
            ∧ CarReported s t c .serving .serving .service none)
        ∧ (∀ reason : DeclineReason, r.verdict = .declined reason →
          ∃ t, exec (.carReply k r) s = .next t ∧ SettingsKept s t ∧ HostSideKept s t ∧ t.cap = s.cap
            ∧ (record t c).map (·.attempts) = some (min 5 (old.attempts + 1))
            ∧ (StoppedIn r → NotRisen s →
                Released s t c e .declined ∧ CarReported s t c .serving .parked .declined (some ⟨.serve, reason⟩))
            ∧ (¬ StoppedIn r →
                StoppedForCount s t c e .declined
                ∧ CarReported s t c .serving .stopping .declined (some ⟨.serve, reason⟩))))
      ∧ (∀ (e : Entry) (reason : DeclineReason), cmd.kind = .stopNext → old.state = .stopping → entryOf s c = some e →
        RunEntry e → e.phase = .stop → ¬ StoppedIn r → r.verdict = .declined reason →
        ((∀ newer, (s.link.cars.at c).slot = some newer → newer.kind ≠ .stopNext) →
          ∃ t, exec (.carReply k r) s = .next t ∧ SettingsKept s t ∧ HostSideKept s t ∧ t.cap = s.cap ∧ t.acct = s.acct
            ∧ Slotted s t c .stopNext none ∧ CarReported s t c .stopping .stopping .declined (some ⟨.stopNext, reason⟩))))
    ∧ (s.plan.state = .watching → effective s utilLine = .active → old.state = .idle → cmd.kind = .handBack →
      (r.verdict = .accepted →
        ∃ t, exec (.carReply k r) s = .next t ∧ SettingsKept s t ∧ HostSideKept s t ∧ t.cap = s.cap ∧ t.acct = s.acct
          ∧ t.plan.owed.at c = false ∧ (record t c).map (·.state) = some .idle)
      ∧ (∀ reason : DeclineReason, r.verdict = .declined reason →
        ∃ t, exec (.carReply k r) s = .next t ∧ SettingsKept s t ∧ HostSideKept s t ∧ t.cap = s.cap ∧ t.acct = s.acct
          ∧ t.plan.owed.at c = s.plan.owed.at c ∧ (record t c).map (·.state) = some .idle ∧ Slotted s t c .handBack none
          ∧ CarReported s t c .idle .idle .declined (some ⟨.handBack, reason⟩)))

/-- A missed exchange that carried a command, short of the silence threshold. A newer command in the slot supersedes it; with fewer
than three tries it returns to the slot with its tag, slot time and tries; after the third it is dropped: RUN-TO, HOLD and HAND-BACK
are discarded, STOP-NEXT is placed anew while the car moves under SEQUENCER authority with an entry in STOP phase or an ADOPTED one,
PARK has the car evaluated without an attempt, SERVE ends the designation without one, with the marker DROPPED, and in WATCHING
HAND-BACK is placed again (R61, R62, R41, R160, R73). A command placed takes the next tag and the present slot time (R58, R55). For a
released SERVE, C and S have not risen meanwhile (R161). That a missed
RUN-TO or SERVE returns to the slot though its entry has been released meanwhile (log 18), and the cause of the report of a dropped PARK
(log 15), are the model's. -/
def Obligations.MissedCommands : Prop :=
  ∀ (s : State) (k : Link) (order : DropOrder) (c : CarId) (cmd : Command) (old : CarRecord),
    (linkLine s k).exchange = some ⟨c, .command cmd⟩ → (profile s c).link = k → (profile s c).enrolled = true →
    record s c = some old → old.linkStatus = .inContact →
    min 255 ((s.link.cars.at c).missed + 1) ≠ s.setup.limits.silenceThreshold →
    (Paused s c →
      (∀ newer, (s.link.cars.at c).slot = some newer →
        ∃ t, exec (.missedExchange k order) s = .next t ∧ SettingsKept s t ∧ HostSideKept s t ∧ t.cap = s.cap
          ∧ t.acct = s.acct ∧ t.cars = s.cars ∧ Waits s t c newer
          ∧ (t.link.cars.at c).nextTag = (s.link.cars.at c).nextTag)
      ∧ ((s.link.cars.at c).slot = none → cmd.tries < 3 →
        ∃ t, exec (.missedExchange k order) s = .next t ∧ SettingsKept s t ∧ HostSideKept s t ∧ t.cap = s.cap
          ∧ t.acct = s.acct ∧ t.cars = s.cars ∧ Waits s t c cmd ∧ (t.link.cars.at c).nextTag = (s.link.cars.at c).nextTag)
      ∧ ((s.link.cars.at c).slot = none → 3 ≤ cmd.tries →
        ((cmd.kind = .runTo ∨ cmd.kind = .hold ∨ cmd.kind = .handBack) →
          ∃ t, exec (.missedExchange k order) s = .next t ∧ SettingsKept s t ∧ HostSideKept s t ∧ t.cap = s.cap
            ∧ t.acct = s.acct ∧ t.cars = s.cars ∧ NoCommand s t c
            ∧ (t.link.cars.at c).nextTag = (s.link.cars.at c).nextTag)
        ∧ (cmd.kind = .stopNext →
          ∃ t, exec (.missedExchange k order) s = .next t ∧ SettingsKept s t ∧ HostSideKept s t ∧ t.cap = s.cap
            ∧ t.acct = s.acct ∧ t.cars = s.cars
            ∧ ((∃ e, entryOf s c = some e ∧ (e.phase = .stop ∨ e.kind = .adopted)) → old.authority = some .sequencer →
                (∃ m, old.motion = some m ∧ m ≠ .stopped) → Slotted s t c .stopNext none)
            ∧ (entryOf s c = none ∨ old.authority ≠ some .sequencer ∨ old.motion = some .stopped → NoCommand s t c))
        ∧ (cmd.kind = .park → old.state = .idle → old.parkOut = true → entryOf s c = none → old.motion = some .stopped →
          ∃ t, exec (.missedExchange k order) s = .next t ∧ SettingsKept s t ∧ HostSideKept s t ∧ t.cap = s.cap
            ∧ Evaluated s t c old.authority old.holdOut old.attempts (atHome s c old)
            ∧ (evaluationState s old.authority old.holdOut old.attempts (atHome s c old) ≠ .idle →
                CarReported s t c .idle (evaluationState s old.authority old.holdOut old.attempts (atHome s c old))
                  .evaluation none))
        ∧ (∀ e : Entry, cmd.kind = .serve → old.state = .serving → ServeStands s c cmd.permit e →
          ∃ t, exec (.missedExchange k order) s = .next t ∧ SettingsKept s t ∧ HostSideKept s t ∧ t.cap = s.cap
            ∧ (record t c).map (·.attempts) = some old.attempts
            ∧ (old.motion = some .stopped → NotRisen s →
                Released s t c e .dropped ∧ CarReported s t c .serving .parked .service none)
            ∧ ((∃ m, old.motion = some m ∧ m ≠ .stopped) →
                StoppedForCount s t c e .dropped ∧ CarReported s t c .serving .stopping .service none))))
    ∧ (s.plan.state = .watching → effective s utilLine = .active → cmd.kind = .handBack → 3 ≤ cmd.tries →
      (s.link.cars.at c).slot = none →
      ∃ t, exec (.missedExchange k order) s = .next t ∧ SettingsKept s t ∧ HostSideKept s t ∧ t.cap = s.cap
        ∧ t.acct = s.acct ∧ t.cars = s.cars ∧ Slotted s t c .handBack none)

/-- HOLD-OUT sets the named car's hold-out flag and READMIT clears it, in every plan state but HALTED, and the reply carries the car's state
as it then stands; every other car's flag stands. HOLD-OUT of a QUEUED, STAGED, PARKED or IDLE car in RETURN or SERVICE takes it from the
queue and group and holds it (R49). READMIT leaves attempts used 0, no failure reason and no set-aside marker (R50, R161), and acts on a
HELD or FAILED car: a SILENT one goes ABSENT; in RETURN and SERVICE a stopped one is evaluated, in SETTLING by the SETTLING form, in
RESTORING it goes IDLE with HOLD; a moving one is adopted by its authority; a car in another state keeps it (R50). Premise for a cleared
failure reason: the configured attempts are not 0 (Table 8-2 gives 1 to 5). That a car which moves under a local authority goes DEFERRED is
the model's reading (log 40). -/
def Obligations.HoldOutFlagWritten : Prop :=
  ∀ (s : State) (tag : Byte) (c : CarId) (old : CarRecord), Taking s → s.plan.state ≠ .halted →
    (profile s c).enrolled = true → record s c = some old →
    (∃ t new, exec (.holdOut tag (.fields (c.val + 1))) s = .next t ∧ SettingsKept s t ∧ t.cap = s.cap
      ∧ record t c = some new ∧ new.holdOut = true ∧ Answered s t .holdOut tag (.carState new.state)
      ∧ (∀ d, d ≠ c → (record t d).map (·.holdOut) = (record s d).map (·.holdOut))
      ∧ (old.holdOut = false → Granting s → GeneratorStays s → s.ret.spacing ≠ none →
          (old.state = .queued ∨ old.state = .staged ∨ old.state = .parked ∨ old.state = .idle) →
          new.state = .held ∧ (old.state = .parked ∨ old.state = .idle → new.parkOut = false)
            ∧ Slotted s t c .hold none ∧ CarReported s t c old.state .held .holdOut none
            ∧ (old.state = .queued ∨ old.state = .staged →
                (∀ x ∈ t.ret.queue, x.car ≠ c) ∧ ∀ x ∈ t.ret.group, x.car ≠ c)))
    ∧ (∃ t new, exec (.readmit tag (.fields (c.val + 1))) s = .next t ∧ SettingsKept s t ∧ t.cap = s.cap
      ∧ record t c = some new ∧ new.holdOut = false ∧ Answered s t .readmit tag (.carState new.state)
      ∧ new.attempts = 0 ∧ (1 ≤ s.setup.limits.attempts → new.failure = none) ∧ t.svc.setAside.at c = none
      ∧ (∀ d, d ≠ c → (record t d).map (·.holdOut) = (record s d).map (·.holdOut))
      ∧ (Paused s c → old.state ≠ .held → old.state ≠ .failed → new.state = old.state)
      ∧ (old.state = .held ∨ old.state = .failed →
        (old.linkStatus = .silent → new.state = .absent)
        ∧ (old.linkStatus = .inContact → entryOf s c = none →
          (∀ _ : Paused s c,
            (old.motion = some .stopped → Evaluated s t c old.authority false 0 (atHome s c old)
              ∧ (evaluationState s old.authority false 0 (atHome s c old) ≠ old.state →
                  CarReported s t c old.state (evaluationState s old.authority false 0 (atHome s c old)) .readmit none))
            ∧ ((∃ m, old.motion = some m ∧ m ≠ .stopped) → Adopted s t c old.authority
                ∧ CarReported s t c old.state (adoptedState old.authority) .readmit none))
          ∧ (s.plan.state = .settling → GeneratorStays s → s.cap.settle ≠ none →
            (old.motion = some .stopped →
              (Local old.authority → new.state = .deferred ∧ Stood s t c)
              ∧ (old.authority = some .outOfOrder → new.state = .held ∧ Slotted s t c .hold none)
              ∧ (old.authority = some .sequencer → new.state = .idle ∧ Slotted s t c .hold none))
            ∧ ((∃ m, old.motion = some m ∧ m ≠ .stopped) → Adopted s t c old.authority))
          ∧ (s.plan.state = .restoring → effective s retxLine = .active → effective s utilLine = .inactive →
            (∃ n, (s.cap.sets.at n).status ≠ .offline) →
            (old.motion = some .stopped → new.state = .idle ∧ Slotted s t c .hold none)
            ∧ ((∃ m, old.motion = some m ∧ m ≠ .stopped) → Adopted s t c old.authority)))))

/-- HOLD-OUT of a STARTING or RUNNING car in RETURN or SERVICE: its RETURN entry goes to STOP phase with cause HOLD-OUT and its
reservations unchanged, the car goes STOPPING, and no other entry changes (R49, R97). Premise: the totals are the sums (R92), an
invariant stated below. -/
def Obligations.HoldOutStopsRun : Prop :=
  ∀ (s : State) (tag : Byte) (c : CarId) (old : CarRecord) (e : Entry), Taking s → Granting s → GeneratorStays s →
    TotalsMatch s → (profile s c).enrolled = true → record s c = some old → old.holdOut = false →
    (old.state = .starting ∨ old.state = .running) → entryOf s c = some e → e.kind = .returning →
    (e.phase = .start ∨ e.phase = .run) →
    ∃ t new, exec (.holdOut tag (.fields (c.val + 1))) s = .next t ∧ SettingsKept s t ∧ t.cap = s.cap
      ∧ t.ret = s.ret ∧ t.svc = s.svc ∧ t.plan = s.plan ∧ t.hist = s.hist
      ∧ entryOf t c = some { e with phase := .stop, stopCause := some .holdOut, window := none, deadline := none }
      ∧ t.acct = { s.acct with entries := t.acct.entries } ∧ (∀ d, d ≠ c → entryOf t d = entryOf s d)
      ∧ t.acct.entries.map (·.permit) = s.acct.entries.map (·.permit)
      ∧ record t c = some new ∧ new.state = .stopping ∧ new.attempts = old.attempts
      ∧ ∀ d, d ≠ c → record t d = record s d

/-- The silent hold's expiry for a SILENT car in RETURN or SERVICE: its entry is released and the totals fall by its reservations,
and the car goes FAILED with reason SILENT, no attempt consumed (R70, R98). The spacing timer runs, so that nothing is granted in
the same event (R139). Premises: R90's and R92's invariants, stated below, and that the car is not queued (R131). -/
def Obligations.SilentHoldFails : Prop :=
  ∀ (s : State) (c : CarId) (old : CarRecord) (e : Entry) (expiry spacing : Time), Granting s → GeneratorStays s →
    TotalsMatch s → OneEntryPerCar s → record s c = some old → old.state = .silent → entryOf s c = some e →
    (s.link.cars.at c).silentHold = some expiry → Due s.time expiry → s.ret.spacing = some spacing →
    (∀ x ∈ s.ret.queue, x.car ≠ c) →
    ∃ t new, exec (.silentHoldExpiry c) s = .next t ∧ SettingsKept s t ∧ HostSideKept s t ∧ t.cap = s.cap
      ∧ entryOf t c = none ∧ t.acct.kd = s.acct.kd - e.draw ∧ t.acct.kr = s.acct.kr - e.regen
      ∧ t.acct.entries.map (·.permit) = (s.acct.entries.filter (fun x => x.car != c)).map (·.permit)
      ∧ record t c = some new ∧ new.state = .failed ∧ new.failure = some .silent ∧ new.attempts = old.attempts
      ∧ new.linkStatus = old.linkStatus ∧ (t.link.cars.at c).slot = none

/-- The arbiter: after four URGENT exchanges in a row a due car goes first, when there is one; before that an URGENT command goes
first, then a due car, then a NORMAL command, then any car of the link. Within a class the eldest goes first, by slot time or by poll
age, and of equals the lower drop (R65). The model's readings: slot times are compared as ages modulo 2^32 (log 19), and a car whose
link status is SILENT has no command in a class (log 17). The request of an exchange in flight carries the drop, the kind's code, the
tag, 0 for a POLL, the target for RUN-TO alone, and the CRC-16 over them, least significant byte first (R55). That these stand in the
order in which R55 names them is the model's reading (log 9). -/
def Obligations.ArbiterLimitsUrgent : Prop :=
  ∀ (s : State) (k : Link),
    (4 ≤ (linkLine s k).urgentRun → dueCars s k ≠ [] →
      ∃ x, choose s k = some x ∧ x.urgent = false ∧ Eldest s (pollAge s) (dueCars s k) x.car)
    ∧ ((linkLine s k).urgentRun < 4 ∨ dueCars s k = [] →
      (urgentCars s k ≠ [] → ∃ x, choose s k = some x ∧ x.urgent = true ∧ Eldest s (slotAge s) (urgentCars s k) x.car)
      ∧ (urgentCars s k = [] → dueCars s k ≠ [] →
          ∃ x, choose s k = some x ∧ x.urgent = false ∧ Eldest s (pollAge s) (dueCars s k) x.car)
      ∧ (urgentCars s k = [] → dueCars s k = [] → normalCars s k ≠ [] →
          ∃ x, choose s k = some x ∧ x.urgent = false ∧ Eldest s (slotAge s) (normalCars s k) x.car)
      ∧ (urgentCars s k = [] → dueCars s k = [] → normalCars s k = [] → linkCars s k ≠ [] →
          ∃ x, choose s k = some x ∧ x.urgent = false ∧ Eldest s (pollAge s) (linkCars s k) x.car)
      ∧ (linkCars s k = [] → choose s k = none))
    ∧ ((linkLine s k).exchange = none → linkOut s k = none)
    ∧ ∀ x, (linkLine s k).exchange = some x →
      ∃ (code lo hi : Byte) (target : List Byte),
        linkOut s k = some (Config.startMarker
          :: ([BitVec.ofNat 8 (profile s x.car).drop, code, requestTag x.request] ++ target) ++ [lo, hi])
        ∧ crc16 ([BitVec.ofNat 8 (profile s x.car).drop, code, requestTag x.request] ++ target) = hi ++ lo
        ∧ (x.request = .poll → code = Config.linkCode .poll ∧ requestTag x.request = 0 ∧ target = [])
        ∧ ∀ cmd, x.request = .command cmd → code = Config.linkCode (.command cmd.kind) ∧ requestTag x.request = cmd.tag
          ∧ (∀ f, cmd.kind = .runTo → cmd.target = some f → target = [BitVec.ofNat 8 f])
          ∧ (cmd.kind ≠ .runTo → target = [])

/-! ## Demand, admission, shedding -/

/-- For every profile whose figures lie in the ranges of Table 3-1 and every signed imbalance m: the run draw is
P × (s_m + loss) / 1000 rounded up and lies in 1..7200 (R82); the start draw is P × (max(s_m, 200) + loss) × inrush / 100,000 rounded up
and lies in 11..25,200 (R83); the regeneration of a regen-capable car is P × s_r × η / 100,000 rounded up, that of any other car is 0,
and it lies in 0..6,000 (R84); the products stay in the bounds that these rules give. A car that does not motor has s_m = 0, and one that
does not regenerate s_r = 0. -/
def Obligations.FiguresRoundedUp : Prop :=
  ∀ (p : CarProfile) (m : Int), 50 ≤ p.power → p.power ≤ 4000 → 35 ≤ p.balance → p.balance ≤ 55 → 20 ≤ p.loss →
    p.loss ≤ 300 → 100 ≤ p.inrush → p.inrush ≤ 350 → 50 ≤ p.efficiency → p.efficiency ≤ 100 →
    (m ≤ 0 → motoringShare m p.balance = 0) ∧ (0 ≤ m → regenShare m p.balance = 0)
      ∧ p.power * (motoringShare m p.balance + p.loss) ≤ 7200000
      ∧ p.power * (motoringShare m p.balance + p.loss) ≤ 1000 * runDraw p m
      ∧ 1000 * runDraw p m < p.power * (motoringShare m p.balance + p.loss) + 1000
      ∧ 1 ≤ runDraw p m ∧ runDraw p m ≤ 7200
      ∧ p.power * (max (motoringShare m p.balance) 200 + p.loss) * p.inrush ≤ 2520000000
      ∧ p.power * (max (motoringShare m p.balance) 200 + p.loss) * p.inrush ≤ 100000 * startDraw p m
      ∧ 100000 * startDraw p m < p.power * (max (motoringShare m p.balance) 200 + p.loss) * p.inrush + 100000
      ∧ 11 ≤ startDraw p m ∧ startDraw p m ≤ 25200
      ∧ p.power * regenShare m p.balance * p.efficiency ≤ 600000000
      ∧ (p.regenCapable = true →
          p.power * regenShare m p.balance * p.efficiency ≤ 100000 * regeneration p m
            ∧ 100000 * regeneration p m < p.power * regenShare m p.balance * p.efficiency + 100000)
      ∧ (p.regenCapable = false → regeneration p m = 0) ∧ regeneration p m ≤ 6000

/-- The tests of admission in their order, the first that fails giving the reason: DUPLICATE, UNSETTLED, OVERCOMMIT, DRAW, REGEN, each
exactly when every test before it has passed and its own fails; admitted exactly when all pass (R93). -/
def Obligations.AdmissionTests : Prop :=
  ∀ (s : State) (c : CarId) (draw regen : Nat),
    (admitRefusal s c draw regen = some .duplicate ↔ ∃ e ∈ s.acct.entries, e.car = c)
    ∧ (admitRefusal s c draw regen = some .unsettled ↔ (∀ e ∈ s.acct.entries, e.car ≠ c) ∧ s.cap.settle ≠ none)
    ∧ (admitRefusal s c draw regen = some .overcommit ↔
      (∀ e ∈ s.acct.entries, e.car ≠ c) ∧ s.cap.settle = none ∧ (s.acct.drawOver = true ∨ s.acct.regenOver = true))
    ∧ (admitRefusal s c draw regen = some .draw ↔
      (∀ e ∈ s.acct.entries, e.car ≠ c) ∧ s.cap.settle = none ∧ s.acct.drawOver = false ∧ s.acct.regenOver = false
        ∧ s.cap.c < s.acct.kd + draw)
    ∧ (admitRefusal s c draw regen = some .regen ↔
      (∀ e ∈ s.acct.entries, e.car ≠ c) ∧ s.cap.settle = none ∧ s.acct.drawOver = false ∧ s.acct.regenOver = false
        ∧ s.acct.kd + draw ≤ s.cap.c ∧ s.cap.sink < s.acct.kr + regen)
    ∧ (admitRefusal s c draw regen = none ↔
      (∀ e ∈ s.acct.entries, e.car ≠ c) ∧ s.cap.settle = none ∧ s.acct.drawOver = false ∧ s.acct.regenOver = false
        ∧ s.acct.kd + draw ≤ s.cap.c ∧ s.acct.kr + regen ≤ s.cap.sink)

/-- A shedding run, for draw and for regen alike: it ends with the projection at most the limit or with no candidate left, and is
exhausted in the second case alone. Every entry shed was a candidate and is in STOP phase with cause SHED; no other entry, no total,
permit or reservation changes. Candidates are taken in the order of R101: no candidate that is left goes before one that is shed, and
the shed list is in that order. No more is shed than needed: at each choice the projection was still above the limit (R101, R102,
R97). Regen shedding passes over an entry whose regen reservation is 0. Premises: one entry per car (R90) and totals that are the sums
(R92), invariants stated below. -/
def Obligations.DrawSheddingEnds : Prop :=
  ∀ k : ShedCase, k = drawCase ∨ k = regenCase → ∀ (w : Work), k.flag w.st.acct = true → OneEntryPerCar w.st →
    TotalsMatch w.st →
    ∃ t run, k.run w = (t, run)
      ∧ (k.total t.st.acct - stopped k.amount t.st.acct.entries ≤ k.limit w.st
          ∨ ∀ e ∈ t.st.acct.entries, ¬ (Sheddable e ∧ k.needs e))
      ∧ (run.exhausted = true ↔ k.limit w.st < k.total t.st.acct - stopped k.amount t.st.acct.entries)
      ∧ t.st.acct = { w.st.acct with entries := t.st.acct.entries }
      ∧ t.st.acct.entries = w.st.acct.entries.map (fun e => if e ∈ run.shed then shedForm e else e)
      ∧ (∀ e ∈ run.shed, e ∈ w.st.acct.entries ∧ Sheddable e ∧ k.needs e)
      ∧ (∀ (i j : Nat) (x y : Entry), w.st.acct.entries[i]? = some x → w.st.acct.entries[j]? = some y → Sheddable x →
          k.needs x → x ∉ run.shed → y ∈ run.shed → ¬ TakenBefore w.st i j x y)
      ∧ (∀ (i j : Nat) (x y : Entry), w.st.acct.entries[i]? = some x → w.st.acct.entries[j]? = some y →
          [x, y].Sublist run.shed → ¬ TakenBefore w.st j i y x)
      ∧ (∀ (before after : List Entry) (e : Entry), run.shed = before ++ e :: after →
          k.limit w.st < k.total w.st.acct - stopped k.amount w.st.acct.entries - (before.map k.amount).sum)
      ∧ t.nt.sheds = w.nt.sheds ++ run.shed.map (·.car)
      ∧ ∀ e : Entry, e.car ∈ run.shed.map (·.car) → e ∈ w.st.acct.entries → e.kind = .service →
          t.st.svc.records.at e.car = none

/-- The completion of an event in the Power Account: both flags are set or cleared to match the totals, shedding is run for a set
flag, first for draw and then for regen on what that leaves, and not for a clear one, and the ACCOUNT-ALERT reports are queued in the
order of R103's table, each with the totals, projections, flags and the entries shed in shed order; draw overcommit that has become set
is offered to the capture; nothing else of the account changes (R100, R101, R102, R103, R107). A notice of easing has the Service
Selector read C and S, and clears the set-aside markers when either has risen (R100, R161). Draw before regen where both runs end
exhausted is the model's choice (log 44). Premises: R90's and R92's invariants, stated below. -/
def Obligations.AccountEventCompleted : Prop :=
  ∀ (w : Work) (eased : Bool), OneEntryPerCar w.st → TotalsMatch w.st →
    ∃ (t : State) (causes : List AlertCause) (drawn fed : List Entry) (shed : List ShedEntry),
      (settleAccount w eased).st = t
      ∧ (t.acct.drawOver = false → drawn = []) ∧ (t.acct.regenOver = false → fed = [])
      ∧ (t.acct.drawOver = true →
          ShedFrom w.st (·.draw) (fun _ => True) w.st.acct.kd w.st.cap.c w.st.acct.entries drawn)
      ∧ (t.acct.regenOver = true →
          ShedFrom w.st (·.regen) (fun e => 0 < e.regen) w.st.acct.kr w.st.cap.sink
            (w.st.acct.entries.map (fun e => if e ∈ drawn then shedForm e else e)) fed)
      ∧ shed = (drawn ++ fed).map (fun e => ⟨e.permit, e.car⟩)
      ∧ t.acct.kd = w.st.acct.kd ∧ t.acct.kr = w.st.acct.kr ∧ t.acct.nextPermit = w.st.acct.nextPermit
      ∧ t.acct.entries = w.st.acct.entries.map (fun e => if e ∈ drawn ++ fed then shedForm e else e)
      ∧ (t.acct.drawOver = true ↔ w.st.cap.c < w.st.acct.kd) ∧ (t.acct.regenOver = true ↔ w.st.cap.sink < w.st.acct.kr)
      ∧ (t.acct.drawExhausted = true ↔ w.st.cap.c < w.st.acct.kd ∧ w.st.cap.c < t.acct.kd - stopped (·.draw) t.acct.entries)
      ∧ (t.acct.regenExhausted = true ↔
          w.st.cap.sink < w.st.acct.kr ∧ w.st.cap.sink < t.acct.kr - stopped (·.regen) t.acct.entries)
      ∧ causes.Sublist [.drawOvercommit, .drawRecovered, .regenOvercommit, .regenRecovered, .shedExhausted .draw,
          .shedExhausted .regen]
      ∧ (.drawOvercommit ∈ causes ↔ w.st.acct.drawOver = false ∧ t.acct.drawOver = true)
      ∧ (.drawRecovered ∈ causes ↔ w.st.acct.drawOver = true ∧ t.acct.drawOver = false)
      ∧ (.regenOvercommit ∈ causes ↔ w.st.acct.regenOver = false ∧ t.acct.regenOver = true)
      ∧ (.regenRecovered ∈ causes ↔ w.st.acct.regenOver = true ∧ t.acct.regenOver = false)
      ∧ (.shedExhausted .draw ∈ causes ↔ w.st.acct.drawExhausted = false ∧ t.acct.drawExhausted = true)
      ∧ (.shedExhausted .regen ∈ causes ↔ w.st.acct.regenExhausted = false ∧ t.acct.regenExhausted = true)
      ∧ t.port = (causes.map (fun cause => Report.alert
          { cause, time := w.st.time, c := w.st.cap.c, sink := w.st.cap.sink, kd := t.acct.kd, kr := t.acct.kr,
            projectedDraw := t.acct.kd - stopped (·.draw) t.acct.entries
            projectedRegen := t.acct.kr - stopped (·.regen) t.acct.entries
            drawOver := t.acct.drawOver, regenOver := t.acct.regenOver, shed })).foldl Port.place w.st.port
      ∧ (w.st.acct.drawOver = false → t.acct.drawOver = true → w.st.setup.limits.onDraw = true →
          w.st.hist.capture = none → t.hist = { w.st.hist with
            capture := some ⟨.collecting, .drawOvercommit, w.st.time, w.st.hist.writeIndex, w.st.setup.limits.pre,
              w.st.setup.limits.post, w.st.setup.limits.freeze, w.st.setup.limits.captureMode, 0, 0⟩ })
      ∧ (w.st.acct.drawOver = true ∨ t.acct.drawOver = false ∨ w.st.setup.limits.onDraw = false → t.hist = w.st.hist)
      ∧ (eased = true → t.svc.lastC = w.st.cap.c ∧ t.svc.lastS = w.st.cap.sink
          ∧ (w.st.svc.lastC < w.st.cap.c ∨ w.st.svc.lastS < w.st.cap.sink → t.svc.setAside = Table.const 48 none)
          ∧ (w.st.cap.c ≤ w.st.svc.lastC → w.st.cap.sink ≤ w.st.svc.lastS → t.svc.setAside = w.st.svc.setAside))
      ∧ (eased = false → t.svc = { w.st.svc with records := t.svc.records })
      ∧ t = { w.st with acct := t.acct, port := t.port, hist := t.hist, svc := t.svc }

/-- The start window's expiry in RETURN or SERVICE (R96): a moving car's entry steps to RUN phase with its run draw; a SILENT car
recorded stopped keeps its entry with the window lapsed; a car in contact recorded stopped loses its entry and an attempt and, with
attempts left and no reason to be held, goes back to the queue. The spacing timer runs, so that nothing is granted in the same
event (R139). Premises: R90's and R92's invariants, stated below; the car is not queued (R131); the step leaves no overcommit. -/
def Obligations.StartWindowExpires : Prop :=
  ∀ (s : State) (c : CarId) (old : CarRecord) (e : Entry) (win : StartWindow) (run : Nat) (spacing : Time), Granting s →
    GeneratorStays s → TotalsMatch s → OneEntryPerCar s → record s c = some old → entryOf s c = some e →
    e.kind = .returning → e.phase = .start → e.window = some win → win.lapsed = false → Due s.time win.expiry →
    e.runDraw = some run → s.ret.spacing = some spacing → (∀ x ∈ s.ret.queue, x.car ≠ c) →
    (∀ m, old.motion = some m → m ≠ .stopped → s.acct.kd - e.draw + run ≤ s.cap.c → s.acct.kr ≤ s.cap.sink →
      ∃ t new, exec (.startWindowExpiry c) s = .next t ∧ SettingsKept s t ∧ HostSideKept s t ∧ t.cap = s.cap
        ∧ entryOf t c = some { e with phase := .run, draw := run, window := none }
        ∧ t.acct.kd = s.acct.kd - e.draw + run ∧ t.acct.kr = s.acct.kr ∧ record t c = some new
        ∧ new.state = (if old.state = .starting then .running else old.state) ∧ new.attempts = old.attempts)
    ∧ (old.motion = some .stopped → old.linkStatus = .silent →
      ∃ t, exec (.startWindowExpiry c) s = .next t ∧ SettingsKept s t ∧ HostSideKept s t ∧ t.cap = s.cap
        ∧ t.ret = s.ret ∧ t.svc = s.svc ∧ t.plan = s.plan ∧ t.hist = s.hist ∧ t.cars = s.cars
        ∧ entryOf t c = some { e with window := some { win with lapsed := true } }
        ∧ t.acct = { s.acct with entries := t.acct.entries } ∧ (∀ d, d ≠ c → entryOf t d = entryOf s d))
    ∧ (old.motion = some .stopped → old.linkStatus = .inContact → old.authority = some .sequencer →
      old.holdOut = false → old.attempts + 1 < s.setup.limits.attempts → s.setup.limits.attempts ≤ 5 →
      ¬ (old.floor = some (profile s c).recallFloor ∧ old.between = some false) →
      ∃ t new, exec (.startWindowExpiry c) s = .next t ∧ SettingsKept s t ∧ HostSideKept s t ∧ t.cap = s.cap
        ∧ entryOf t c = none ∧ t.acct.kd = s.acct.kd - e.draw ∧ t.acct.kr = s.acct.kr - e.regen
        ∧ record t c = some new ∧ new.attempts = old.attempts + 1 ∧ (new.state = .queued ∨ new.state = .staged))

/-- A deadline's expiry in RETURN or SERVICE: the RETURN entry goes to STOP phase with cause DEADLINE and its reservations unchanged;
the car goes STOPPING unless it is SILENT; no attempt is consumed and no other entry or car changes (R147, R97). Premise: the
totals are the sums (R92), an invariant stated below. -/
def Obligations.DeadlineStopsRun : Prop :=
  ∀ (s : State) (c : CarId) (old : CarRecord) (e : Entry) (deadline : Time), Granting s → GeneratorStays s → TotalsMatch s →
    record s c = some old → entryOf s c = some e → e.kind = .returning → (e.phase = .start ∨ e.phase = .run) →
    e.deadline = some deadline → Due s.time deadline →
    ∃ t new, exec (.deadlineExpiry c) s = .next t ∧ SettingsKept s t ∧ HostSideKept s t ∧ t.cap = s.cap
      ∧ t.ret = s.ret ∧ t.svc = s.svc ∧ t.plan = s.plan ∧ t.hist = s.hist
      ∧ entryOf t c = some { e with phase := .stop, stopCause := some .deadline, window := none, deadline := none }
      ∧ t.acct = { s.acct with entries := t.acct.entries } ∧ (∀ d, d ≠ c → entryOf t d = entryOf s d)
      ∧ record t c = some new ∧ new.state = (if old.state = .silent then .silent else .stopping)
      ∧ new.attempts = old.attempts ∧ ∀ d, d ≠ c → record t d = record s d

/-! ## Granting -/

/-- The spacing expiry stops the timer (R139). In PACED mode, while the plant is unsettled nothing is granted by it; when a grant may be
made and the queue's head fits, that car is granted: its entry appended with the figures and deadline of R138 and in START phase, its
item gone, the spacing timer running again, the car STARTING (R136 to R138, R93). In SERVICE with the queue and group empty and no
RETURN entry, the selection pass that it brings designates the candidate of the lowest rank whose worst-case figures fit: a SERVICE
entry in HOLDING phase, a service record AWAITING, SERVE with the permit number, SERVING with cause SERVICE, the spacing timer running
again; when none fits, nothing is designated (R156, R157). -/
def Obligations.SpacingExpiryGrants : Prop :=
  ∀ (s : State) (expiry : Time), s.ret.spacing = some expiry → Due s.time expiry → Granting s → GeneratorStays s →
    (s.setup.limits.returnMode = .paced → s.cap.settle ≠ none →
      (s.plan.state = .service ∨ s.ret.queue ≠ [] ∨ s.ret.group ≠ []) →
      ∃ t, exec .spacingExpiry s = .next t ∧ SettingsKept s t ∧ HostSideKept s t ∧ t.cap = s.cap ∧ t.cars = s.cars
        ∧ t.acct = s.acct ∧ t.ret = { s.ret with spacing := none } ∧ t.svc = s.svc ∧ t.plan = s.plan ∧ t.hist = s.hist)
    ∧ (s.setup.limits.returnMode = .paced →
      ∀ (x : QueueItem) (rest : List QueueItem) (old : CarRecord) (floor : Nat) (f : RunFigures), s.cap.settle = none →
      s.acct.drawOver = false → s.acct.regenOver = false → startingCount s.acct < s.setup.limits.startSlots →
      s.ret.queue = x :: rest → record s x.car = some old → old.floor = some floor → entryOf s x.car = none →
      f = runFigures (profile s x.car) (directionOf floor (profile s x.car).recallFloor) old.load →
      s.acct.kd + f.startDraw ≤ s.cap.c → s.acct.kr + f.regen ≤ s.cap.sink →
      ∃ t e new, exec .spacingExpiry s = .next t ∧ SettingsKept s t ∧ HostSideKept s t ∧ t.cap = s.cap ∧ t.plan = s.plan
        ∧ t.acct.entries = s.acct.entries ++ [e] ∧ t.acct.kd = s.acct.kd + f.startDraw
        ∧ t.acct.kr = s.acct.kr + f.regen ∧ t.ret.queue = rest
        ∧ t.ret.spacing = some (s.time + BitVec.ofNat 32 s.setup.limits.spacing)
        ∧ e.car = x.car ∧ e.kind = .returning ∧ e.phase = .start ∧ e.draw = f.startDraw ∧ e.runDraw = some f.runDraw
        ∧ e.regen = f.regen ∧ e.target = some (profile s x.car).recallFloor ∧ e.grantTime = s.time
        ∧ e.window = some ⟨s.time + BitVec.ofNat 32 (profile s x.car).startWindow, false⟩
        ∧ e.deadline = some (s.time + BitVec.ofNat 32 (min 600000
            ((((profile s x.car).startWindow
                + (max floor (profile s x.car).recallFloor - min floor (profile s x.car).recallFloor)
                  * (profile s x.car).floorTime
                + (profile s x.car).doorTime) * (100 + s.setup.limits.margin) + 99) / 100)))
        ∧ record t x.car = some new ∧ new.state = .starting ∧ new.attempts = old.attempts
        ∧ ∀ d, d ≠ x.car → record t d = record s d)
    ∧ (s.plan.state = .service → s.ret.queue = [] → s.ret.group = [] → (∀ e ∈ s.acct.entries, e.kind ≠ .returning) →
      s.cap.settle = none → s.acct.drawOver = false → s.acct.regenOver = false →
      (∀ c : CarId, Candidate s c → Fits s c → entryOf s c = none →
        (∀ d, d ≠ c → Candidate s d → Fits s d → entryOf s d = none → (profile s c).rank < (profile s d).rank) →
        ∃ t e new, exec .spacingExpiry s = .next t ∧ SettingsKept s t ∧ HostSideKept s t ∧ t.cap = s.cap ∧ t.plan = s.plan
          ∧ t.acct.entries = s.acct.entries ++ [e] ∧ e.car = c ∧ e.kind = .service ∧ e.phase = .holding
          ∧ e.draw = (worstFigures (profile s c)).draw ∧ e.regen = (worstFigures (profile s c)).regen
          ∧ e.grantTime = s.time ∧ t.acct.kd = s.acct.kd + e.draw ∧ t.acct.kr = s.acct.kr + e.regen
          ∧ t.svc = { s.svc with records := s.svc.records.put c (some ⟨e.permit, s.time, .awaiting⟩) }
          ∧ Slotted s t c .serve (some e.permit) ∧ CarReported s t c .parked .serving .service none
          ∧ t.ret = { s.ret with spacing := some (s.time + BitVec.ofNat 32 s.setup.limits.spacing) }
          ∧ record t c = some new ∧ new.state = .serving ∧ new.attempts = ((record s c).map (·.attempts)).getD 0
          ∧ ∀ d, d ≠ c → record t d = record s d)
      ∧ ((∀ d, Candidate s d → Fits s d → entryOf s d ≠ none) →
        ∃ t, exec .spacingExpiry s = .next t ∧ SettingsKept s t ∧ HostSideKept s t ∧ t.cap = s.cap ∧ t.cars = s.cars
          ∧ t.acct = s.acct ∧ t.ret = { s.ret with spacing := none } ∧ t.svc = s.svc ∧ t.plan = s.plan))

/-- The Return Sequencer's work on the queue as the spacing timer stops. In PACED mode the walk grants the first item that is admitted
among the head and up to lookahead depth further items, when every item ahead of it is refused below the pass limit: that item leaves,
each item ahead is passed once more, to at most 7, and the items behind stand. It grants nothing, and changes no item, when the items
tried are all refused and the last of them has reached the pass limit, or is the last within the lookahead depth, or ends the queue
(R136, R137). In GROUPED mode with the group empty, cars are staged from the head with their figures, the first always, a further one
while the group stays within the group size and the start draws within the step limit; they leave the queue and go STAGED with cause
GRANT, the others stand, and the account is not asked (R140). For a HOST release source; premise: the queue holds a car once (R131), an
invariant stated below. -/
def Obligations.QueueServed : Prop :=
  ∀ (s : State) (expiry : Time), s.ret.spacing = some expiry → Due s.time expiry → Granting s → GeneratorStays s →
    (s.ret.queue.map (·.car)).Nodup →
    (s.setup.limits.returnMode = .paced → AttemptOpen s →
      (∀ (ahead behind : List QueueItem) (x : QueueItem) (f : RunFigures), s.ret.queue = ahead ++ x :: behind →
        ahead.length ≤ s.setup.limits.lookahead →
        (∀ y ∈ ahead, y.passed < s.setup.limits.passLimit ∧ ∃ g, FiguresOf s y.car g ∧ ¬ RunFits s y.car g) →
        FiguresOf s x.car f → RunFits s x.car f →
        ∃ t e new, exec .spacingExpiry s = .next t ∧ SettingsKept s t ∧ HostSideKept s t ∧ t.cap = s.cap ∧ t.plan = s.plan
          ∧ t.ret = { s.ret with
              queue := ahead.map (fun y => { y with passed := min 7 (y.passed + 1) }) ++ behind
              spacing := some (s.time + BitVec.ofNat 32 s.setup.limits.spacing) }
          ∧ t.acct.entries = s.acct.entries ++ [e] ∧ e.car = x.car ∧ e.kind = .returning ∧ e.phase = .start
          ∧ e.draw = f.startDraw ∧ e.runDraw = some f.runDraw ∧ e.regen = f.regen
          ∧ record t x.car = some new ∧ new.state = .starting ∧ ∀ d, d ≠ x.car → record t d = record s d)
      ∧ (∀ (tried rest : List QueueItem) (last : QueueItem), s.ret.queue = tried ++ last :: rest →
        tried.length ≤ s.setup.limits.lookahead → (∀ y ∈ tried, y.passed < s.setup.limits.passLimit) →
        (∀ y ∈ tried ++ [last], ∃ g, FiguresOf s y.car g ∧ ¬ RunFits s y.car g) →
        (s.setup.limits.passLimit ≤ last.passed ∨ tried.length = s.setup.limits.lookahead ∨ rest = []) →
        ∃ t, exec .spacingExpiry s = .next t ∧ SettingsKept s t ∧ HostSideKept s t ∧ t.cap = s.cap ∧ t.cars = s.cars
          ∧ t.acct = s.acct ∧ t.ret = { s.ret with spacing := none } ∧ t.svc = s.svc ∧ t.plan = s.plan))
    ∧ (s.setup.limits.returnMode = .grouped → s.setup.limits.releaseSource = .host → s.ret.group = [] →
      ∀ (staged rest : List QueueItem) (g : CarId → RunFigures), s.ret.queue = staged ++ rest → staged ≠ [] →
        (∀ y ∈ s.ret.queue, FiguresOf s y.car (g y.car)) →
        (staged.length = 1 ∨ (staged.length ≤ s.setup.limits.groupSize
          ∧ (staged.map (fun y => (g y.car).startDraw)).sum ≤ s.setup.limits.stepLimit)) →
        (∀ y more, rest = y :: more → s.setup.limits.groupSize ≤ staged.length
          ∨ s.setup.limits.stepLimit < (staged.map (fun y => (g y.car).startDraw)).sum + (g y.car).startDraw) →
        ∃ t, exec .spacingExpiry s = .next t ∧ SettingsKept s t ∧ HostSideKept s t ∧ t.cap = s.cap ∧ t.acct = s.acct
          ∧ t.plan = s.plan ∧ t.svc = s.svc
          ∧ t.ret = { s.ret with
              queue := rest, group := staged.map (fun y => ⟨y.car, g y.car⟩), spacing := none }
          ∧ (∀ y ∈ staged, ∃ old new, record s y.car = some old ∧ record t y.car = some new
              ∧ new = { old with state := .staged, failure := none }
              ∧ (old.state ≠ .staged → CarReported s t y.car old.state .staged .grant none))
          ∧ ∀ d, (∀ y ∈ staged, y.car ≠ d) → record t d = record s d)

/-- An accepted RELEASE-GROUP: an entry in START phase for each staged car in staging order with its carried start draw, the totals
up by the sums tested, every staged car STARTING, the spacing timer running; the reply carries the group and readiness as they stood
(R141 to R143). Premises: the staged cars are distinct, hold no entry and are not queued as well (R141). -/
def Obligations.ReleaseGroupStarts : Prop :=
  ∀ (s : State) (tag : Byte), Taking s → Granting s → GeneratorStays s → s.setup.limits.returnMode = .grouped →
    s.setup.limits.releaseSource = .host → s.ret.group ≠ [] → s.cap.settle = none → s.acct.drawOver = false →
    s.acct.regenOver = false → startingCount s.acct = 0 → s.ret.spacing = none →
    s.acct.kd + (s.ret.group.map (·.figures.startDraw)).sum ≤ s.cap.c →
    s.acct.kr + (s.ret.group.map (·.figures.regen)).sum ≤ s.cap.sink → (carsOf s.ret.group).Nodup →
    (∀ x ∈ s.ret.group, entryOf s x.car = none ∧ (record s x.car).isSome = true ∧ ∀ y ∈ s.ret.queue, y.car ≠ x.car) →
    ∃ t new, exec (.releaseGroup tag []) s = .next t ∧ SettingsKept s t ∧ t.cap = s.cap ∧ t.plan = s.plan
      ∧ t.acct.entries = s.acct.entries ++ new ∧ new.map (·.car) = carsOf s.ret.group
      ∧ new.map (·.draw) = s.ret.group.map (·.figures.startDraw)
      ∧ new.map (·.regen) = s.ret.group.map (·.figures.regen)
      ∧ (∀ e ∈ new, e.kind = .returning ∧ e.phase = .start ∧ e.grantTime = s.time)
      ∧ t.acct.kd = s.acct.kd + (s.ret.group.map (·.figures.startDraw)).sum
      ∧ t.acct.kr = s.acct.kr + (s.ret.group.map (·.figures.regen)).sum
      ∧ t.ret.spacing = some (s.time + BitVec.ofNat 32 s.setup.limits.spacing)
      ∧ (∀ x ∈ s.ret.group, (record t x.car).map (·.state) = some .starting)
      ∧ Answered s t .releaseGroup tag (.group ⟨s.ret.group, ⟨true, true, true, true, true, true, true⟩⟩)

/-- SET-SERVICE-COUNT replaces one runtime count and answers with the counts of every bank; in SERVICE it leaves no more designated
cars of the bank than the count, while the spacing timer keeps the selector from designating (R154, R162). Premise: one entry per
car (R90), an invariant stated below. -/
def Obligations.ServiceCountSet : Prop :=
  ∀ (s : State) (tag : Byte) (b : BankId) (n : Nat), Taking s → n ≤ 12 →
    ∃ t views, exec (.setServiceCount tag (.fields ⟨b.val + 1, n⟩)) s = .next t
      ∧ t.setup = s.setup ∧ t.lines = s.lines ∧ t.store = s.store ∧ t.cap = s.cap
      ∧ t.svc.counts.at b = n ∧ (∀ d, d ≠ b → t.svc.counts.at d = s.svc.counts.at d)
      ∧ Answered s t .setServiceCount tag (.counts views) ∧ views.length = 8
      ∧ (∀ d : BankId, views[d.val]? =
          some ⟨s.setup.limits.counts.at d, t.svc.counts.at d, designatedIn t d⟩)
      ∧ (s.plan.state = .service → GeneratorStays s → OneEntryPerCar s → s.ret.spacing ≠ none →
          designatedIn t b = min (designatedIn s b) n)

/-! ## History -/

/-- CAPTURE starts a capture where R107's table takes the trigger and is ignored where it does not; CAPTURE-RELEASE returns the record
to IDLE, and unfreezes a frozen ring with an immediate sample outside HALTED; nothing else changes (R107, R109, R105). -/
def Obligations.CaptureCommands : Prop :=
  ∀ (s : State) (tag : Byte), Taking s →
    (s.plan.state ≠ .halted → s.setup.limits.onHost = true →
      ((s.hist.capture = none
          ∨ ∃ r, s.hist.capture = some r ∧ r.mode = .repeated
            ∧ (r.state = .stale ∨ r.state = .complete ∧ r.freeze = false)) →
        ∃ t r, exec (.capture tag []) s = .next t
          ∧ r = ⟨.collecting, .host, s.time, s.hist.writeIndex, s.setup.limits.pre, s.setup.limits.post,
              s.setup.limits.freeze, s.setup.limits.captureMode, 0, 0⟩
          ∧ t = { replied s .capture tag .ok (.capture ⟨true, some r⟩) with hist := { s.hist with capture := some r } })
      ∧ (∀ r, s.hist.capture = some r →
          (r.state = .collecting ∨ r.mode = .once ∨ r.state = .complete ∧ r.freeze = true) →
          exec (.capture tag []) s = .next (replied s .capture tag .ok (.capture ⟨false, some r⟩))))
    ∧ ((s.plan.state = .halted ∨ ¬ ∃ r, s.hist.capture = some r ∧ r.state = .complete ∧ r.freeze = true) →
      ∃ t, exec (.captureRelease tag []) s = .next t
        ∧ t = { replied s .captureRelease tag .ok (.released s.hist.capture) with
            hist := { s.hist with capture := none } })
    ∧ (∀ (r : CaptureRecord) (i : Fin 512), s.plan.state ≠ .halted → s.hist.capture = some r → r.state = .complete →
      r.freeze = true → s.hist.writeIndex = i.val →
      ∃ t x, exec (.captureRelease tag []) s = .next t
        ∧ t = { replied s .captureRelease tag .ok (.released (some r)) with hist := t.hist }
        ∧ t.hist = ⟨s.hist.slots.put i (some x), (i.val + 1) % 512, min 512 (s.hist.held + 1),
            some (s.time + BitVec.ofNat 32 s.setup.limits.samplePeriod), none⟩
        ∧ x.time = s.time ∧ x.c = s.cap.c ∧ x.plan = s.plan.state)

/-- A history sample records device time, C, S, the totals, the number of entries, the plan state, both flags, the settle timer and
the derate in the slot at the write index; index and count advance; a COLLECTING capture advances, and at its post is COMPLETE, with
a CAPTURE-DONE report and, when it freezes, the sample timer stopped. A sample written inside the window of a COMPLETE capture that is
not frozen makes it STALE, with one sample overwritten more and a CAPTURE-STALE report of the same contents, and inside that of a STALE
one raises the samples overwritten, to at most the window length; outside the window the record stands (R105, R108). -/
def Obligations.HistorySampleWritten : Prop :=
  ∀ (s : State) (expiry : Time) (i : Fin 512), s.hist.timer = some expiry → Due s.time expiry →
    s.hist.writeIndex = i.val →
    ∃ t, exec .historySample s = .next t ∧ t = { s with hist := t.hist, port := t.port }
      ∧ t.hist.slots = s.hist.slots.put i (some ⟨s.time, s.cap.c, s.cap.sink, s.acct.kd, s.acct.kr, s.acct.entries.length,
          s.plan.state, s.acct.drawOver, s.acct.regenOver, s.cap.settle.isSome,
          decide (effective s alarmLine = .active)⟩)
      ∧ t.hist.writeIndex = (i.val + 1) % 512 ∧ t.hist.held = min 512 (s.hist.held + 1)
      ∧ (s.hist.capture = none → t.port = s.port ∧ t.hist.capture = none
          ∧ t.hist.timer = some (s.time + BitVec.ofNat 32 s.setup.limits.samplePeriod))
      ∧ (∀ r, s.hist.capture = some r → r.state = .collecting → r.collected + 1 ≠ r.post →
          t.port = s.port ∧ t.hist.capture = some { r with collected := r.collected + 1 }
            ∧ t.hist.timer = some (s.time + BitVec.ofNat 32 s.setup.limits.samplePeriod))
      ∧ (∀ r, s.hist.capture = some r → r.state = .collecting → r.collected + 1 = r.post →
          t.hist.capture = some { r with collected := r.collected + 1, state := .complete }
            ∧ t.port = s.port.place
              (.captureDone ⟨r.trigger, r.time, (r.index + 512 - r.pre) % 512, r.pre + r.post⟩)
            ∧ (r.freeze = true → t.hist.timer = none)
            ∧ (r.freeze = false → t.hist.timer = some (s.time + BitVec.ofNat 32 s.setup.limits.samplePeriod)))
      ∧ (∀ r, s.hist.capture = some r → (r.state = .complete ∧ r.freeze = false ∨ r.state = .stale) →
          t.hist.timer = some (s.time + BitVec.ofNat 32 s.setup.limits.samplePeriod)
          ∧ (¬ InWindow r i.val → t.port = s.port ∧ t.hist.capture = some r)
          ∧ (InWindow r i.val → t.hist.capture = some
              { r with state := .stale, overwritten := min (r.pre + r.post) (r.overwritten + 1) })
          ∧ (InWindow r i.val → r.state = .stale → t.port = s.port)
          ∧ (InWindow r i.val → r.state = .complete → t.port = s.port.place
              (.captureStale ⟨r.trigger, r.time, (r.index + 512 - r.pre) % 512, r.pre + r.post⟩)))

/-! ## The plan -/

/-- An accepted ARM: WATCHING when UTIL is qualified present; else, when a set is ACCEPTING or ONLINE, SETTLING, and from there at once
RESTORING when RETX is active; else OUTAGE. The reply carries the state reached (R115, R117, R113). Premise: the silence threshold
is not 0 (Table 4-3 gives 2 to 10), so that no car is counted silent before it is polled. That the start-up record's arm outcome
stands at an ARM request is the model's choice (log 31). -/
def Obligations.ArmEntersPlan : Prop :=
  ∀ (s : State) (tag : Byte), Writable s → Taking s → commission s.setup = none → 0 < s.setup.limits.silenceThreshold →
    ∃ t, exec (.arm tag []) s = .next t ∧ SettingsKept s t ∧ t.cap = s.cap
      ∧ Answered s t .arm tag (.armed t.plan.state)
      ∧ t.plan.state =
        if effective s utilLine = .active then .watching
        else if ∃ n, (s.cap.sets.at n).status ≠ .offline then
          (if effective s retxLine = .active then .restoring else .settling)
        else .outage

/-- An accepted HALT, in WATCHING or OUTAGE: every car ABSENT and SILENT with attempts used 0 and no failure reason, its hold-out
flag standing; the links not driven, sampling stopped, census NONE, the hand-back markers and the retransfer-cancelled set cleared, the
outage record kept, and the account, queue and selector untouched (R118, R72). That the counted markers stand is the model's choice
(log 32). -/
def Obligations.HaltEntersHalted : Prop :=
  ∀ (s : State) (tag : Byte), Taking s → (s.plan.state = .watching ∨ s.plan.state = .outage) →
    ∃ t, exec (.halt tag []) s = .next t ∧ SettingsKept s t ∧ LinesDriven t ∧ Answered s t .halt tag .nothing
      ∧ t.cap = s.cap ∧ t.acct = s.acct ∧ t.ret = s.ret ∧ t.svc = s.svc ∧ t.hist = { s.hist with timer := none }
      ∧ t.plan = ⟨.halted, s.time, .none, s.plan.counted, s.plan.restore, Table.const 48 false, Table.const 48 false,
          s.plan.outage⟩
      ∧ t.link.a = ⟨none, 0⟩ ∧ t.link.b = ⟨none, 0⟩
      ∧ (∀ c, t.link.cars.at c = { s.link.cars.at c with slot := none, missed := 0, silentHold := none })
      ∧ ∀ c, record t c = (record s c).map (fun r =>
          { r with state := .absent, linkStatus := .silent, attempts := 0, failure := none, parkOut := false })

/-- The restore timer's expiry in RESTORING: with UTIL present the plan enters WATCHING and its table and queue are empty; with UTIL
absent, RETX active and a set available the timer stays lapsed and nothing else changes (R126, R113, R128). Premise of the second: every
link with an enrolled car has an exchange in flight, an invariant stated below. -/
def Obligations.RestoreTimeoutEnds : Prop :=
  ∀ (s : State) (expiry : Time), s.plan.state = .restoring → s.plan.restore = .running expiry → Due s.time expiry →
    (effective s utilLine = .active →
      ∃ t, exec .restoreTimeout s = .next t ∧ SettingsKept s t ∧ HostSideKept s t ∧ t.cap = s.cap
        ∧ t.plan.state = .watching ∧ t.plan.restore = .stopped ∧ t.plan.enteredAt = s.time ∧ t.acct.entries = []
        ∧ t.acct.kd = 0 ∧ t.acct.kr = 0 ∧ t.ret.queue = [] ∧ t.ret.group = [] ∧ t.ret.nextSeq = s.ret.nextSeq
        ∧ t.acct.nextPermit = s.acct.nextPermit ∧ ∀ c, t.plan.owed.at c = (profile s c).enrolled)
    ∧ (effective s utilLine = .inactive → effective s retxLine = .active → (∃ n, (s.cap.sets.at n).status ≠ .offline) →
      LinksBusy s →
      ∃ t, exec .restoreTimeout s = .next t ∧ LinesDriven t
        ∧ t = { s with plan := { s.plan with restore := .lapsed }, inds := t.inds })

/-- When UTIL qualifies present in OUTAGE, with no entry standing, the plan passes through RESTORING to WATCHING in the one event; every
enrolled car is owed a HAND-BACK, and an open outage record is closed now (R113, R117's note, R128, R129). -/
def Obligations.UtilityReturnsFromOutage : Prop :=
  ∀ (s : State) (pin : PinLevel), s.plan.state = .outage → s.acct.entries = [] → QualifiesAt s utilLine pin .active →
    ∃ t, exec (.lineSample utilLine pin) s = .next t ∧ t.plan.state = .watching ∧ t.plan.enteredAt = s.time
      ∧ t.plan.restore = .stopped ∧ t.acct.entries = [] ∧ t.setup = s.setup ∧ t.cap = s.cap ∧ t.store = s.store
      ∧ HostSideKept s t ∧ (∀ c, t.plan.owed.at c = (profile s c).enrolled)
      ∧ (∀ c, (record t c).map (·.state) = (record s c).map (fun r =>
          if r.linkStatus = .inContact then .idle else .absent))
      ∧ ∀ o, s.plan.outage = some o → o.finish = none → t.plan.outage = some { o with finish := some s.time }

/-! ## The Message Port -/

/-- IDENTIFY, QUERY-PLAN, QUERY-CAR and QUERY-QUEUE change nothing but the framer and the reply path, and answer with what stands
(R171, R130, R51, R151). That a queue position is counted from 1 is the model's reading (log 34); the revision is any number from 1 to
255 (log 11). -/
def Obligations.ReadingChangesNothing : Prop :=
  ∀ (s : State) (tag : Byte), Taking s →
    (∃ v, exec (.identify tag []) s = .next (replied s .identify tag .ok (.identify v))
      ∧ v.part = "BV4830" ∧ 1 ≤ v.revision ∧ v.revision ≤ 255 ∧ v.rateInUse = s.port.rateInUse
      ∧ v.configuredRate = s.setup.limits.rate ∧ v.time = s.time ∧ v.plan = s.plan.state ∧ v.planId = s.setup.planId)
    ∧ (∃ v, exec (.queryPlan tag []) s = .next (replied s .queryPlan tag .ok (.plan v))
      ∧ v.state = s.plan.state ∧ v.enteredAt = s.plan.enteredAt ∧ v.util = effective s utilLine ∧ v.c = s.cap.c
      ∧ v.sink = s.cap.sink ∧ v.census = s.plan.census ∧ v.outage = s.plan.outage ∧ v.gapFlag = s.port.gapFlag
      ∧ v.dipFlag = s.port.dipFlag ∧ v.imageStatus = s.store.status ∧ v.startup = s.store.startup
      ∧ v.states.length = 13 ∧ v.states.sum = ((indices 48).filter (fun c => (record s c).isSome)).length)
    ∧ (∀ c : CarId, ∃ v, exec (.queryCar tag (.fields (c.val + 1))) s = .next (replied s .queryCar tag .ok (.car v))
      ∧ v.profile = profile s c ∧ v.worst = worstFigures (profile s c)
      ∧ v.enrolled.map (·.record) = record s c
      ∧ ∀ x, v.enrolled = some x → x.entry = (entryOf s c).map (fun e => ⟨e.permit, e.kind, e.phase⟩))
    ∧ (∀ p, 1 ≤ p → p ≤ 48 →
        ∃ v, exec (.queryQueue tag (.fields p)) s = .next (replied s .queryQueue tag .ok (.queue v))
        ∧ v.items = s.ret.queue.length ∧ v.group = s.ret.group ∧ v.nextSeq = s.ret.nextSeq
        ∧ v.listed.map (·.item) = (s.ret.queue.drop (p - 1)).take 12)

/-- QUERY-ACCOUNT and READ-HISTORY change nothing but the framer and the reply path. SUMMARY answers with the totals, C, S, the
projections, flags, counts, permit number and capture record as they stand. ENTRIES answers with the entries of the first eight cars
from the car named on that hold one, ascending, each with its remaining times and its position in the table, and with the car to
continue from when more hold one (R104). READ-HISTORY answers with the samples present in the span, in offset order, in the form of
Table 6-3 (R110). Positions counted from 1 (log 34), the first car not carried as the one to continue from (log 45), and an
absent offset of the first sample when the span holds none (log 47), are the model's choices. -/
def Obligations.AccountRead : Prop :=
  ∀ (s : State) (tag : Byte), Taking s →
    (∃ v, exec (.queryAccountSummary tag (.fields .summary)) s = .next (replied s .queryAccount tag .ok (.summary v))
      ∧ v.kd = s.acct.kd ∧ v.kr = s.acct.kr ∧ v.c = s.cap.c ∧ v.sink = s.cap.sink
      ∧ v.projectedDraw = s.acct.kd - stopped (·.draw) s.acct.entries
      ∧ v.projectedRegen = s.acct.kr - stopped (·.regen) s.acct.entries
      ∧ v.drawOver = s.acct.drawOver ∧ v.regenOver = s.acct.regenOver ∧ v.drawExhausted = s.acct.drawExhausted
      ∧ v.regenExhausted = s.acct.regenExhausted ∧ v.entries = s.acct.entries.length
      ∧ v.starting = (s.acct.entries.filter (fun e => e.kind = .returning ∧ e.phase = .start)).length
      ∧ v.shed = (s.acct.entries.filter (fun e => e.phase = .stop ∧ e.stopCause = some .shed)).length
      ∧ v.nextPermit = s.acct.nextPermit ∧ v.samplePeriod = s.setup.limits.samplePeriod
      ∧ v.writeIndex = s.hist.writeIndex ∧ v.held = s.hist.held ∧ v.capture = s.hist.capture
      ∧ ∀ n : SetId, v.sets[n.val]? = some ⟨(s.setup.sets.at n).enabled, (s.setup.sets.at n).allocation,
          (s.cap.sets.at n).trim, (s.cap.sets.at n).status, contributes s n⟩)
    ∧ (∀ (c : CarId) (all : List Entry), all = ((indices 48).filter (fun d => c.val ≤ d.val)).filterMap (entryOf s) →
        ∃ v, exec (.queryAccountEntries tag (.fields (c.val + 1))) s = .next (replied s .queryAccount tag .ok (.entries v))
        ∧ v.entries.map (·.entry) = all.take 8 ∧ v.next = all[8]?.map (·.car)
        ∧ ∀ x ∈ v.entries,
            x.windowRemaining = x.entry.window.map (fun win => (win.expiry - s.time).toNat)
              ∧ x.deadlineRemaining = x.entry.deadline.map (fun d => (d - s.time).toNat)
              ∧ 1 ≤ x.position ∧ s.acct.entries[x.position - 1]? = some x.entry)
    ∧ (∀ (r : CaptureRecord) (offset count : Nat) (span : List Nat), s.hist.capture = some r → offset < r.pre + r.post →
        1 ≤ count → count ≤ 16 →
        span = ((List.range (min count (r.pre + r.post - offset))).map (offset + ·)).filter
          (fun o => (presentAt s.hist r o).isSome) →
        ∃ v, exec (.readHistory tag (.fields ⟨offset, count⟩)) s = .next (replied s .readHistory tag .ok (.history v))
        ∧ v.state = r.state ∧ v.length = r.pre + r.post ∧ v.offset = offset ∧ v.first = span.head?
        ∧ v.count = span.length ∧ v.samples = (span.filterMap (presentAt s.hist r)).map sampleBytes)
    ∧ (s.hist.capture = none → ∀ f : HistoryForm,
        exec (.readHistory tag (.fields f)) s = .next (replied s .readHistory tag .notReady .nothing))

/-- ACK-FLAGS clears the report-gap flag and the supply-dip flag, in every plan state and during a save, and the reply carries both as
they stood just before (R175). -/
def Obligations.AckFlagsClears : Prop :=
  ∀ (s : State) (tag : Byte), Taking s →
    ∃ t, exec (.ackFlags tag []) s = .next t ∧ LinesDriven t
      ∧ t = { s with
        port := { (replied s .ackFlags tag .ok (.flags ⟨s.port.gapFlag, s.port.dipFlag⟩)).port with
          gapFlag := false, dipFlag := false }
        inds := t.inds }

/-- SET-INDICATOR: FULL replaces the three settings in HALTED, VALUE the direct value alone in every plan state; the marker is set,
the line's level follows, the reply carries both (R177, R178, R180). -/
def Obligations.IndicatorsWritten : Prop :=
  ∀ (s : State) (tag : Byte) (i : IndId), Taking s →
    (∀ (src : IndSource) (inv direct : Bool), Writable s →
      ∃ t, exec (.setIndicatorFull tag (.fields (.full ⟨i.val + 1, some src, some inv, some direct⟩))) s = .next t
        ∧ LinesDriven t
        ∧ t = { replied s .setIndicator tag .ok (.indicator ⟨⟨src, inv, direct⟩, t.inds.at i⟩) with
            setup := { s.setup with inds := s.setup.inds.put i ⟨src, inv, direct⟩ }
            store := { s.store with modified := true }
            inds := t.inds })
    ∧ (∀ direct : Bool,
      ∃ t set, exec (.setIndicatorValue tag (.fields ⟨i.val + 1, some direct⟩)) s = .next t ∧ LinesDriven t
        ∧ set = { s.setup.inds.at i with direct := direct }
        ∧ t = { replied s .setIndicator tag .ok (.indicator ⟨set, t.inds.at i⟩) with
            setup := { s.setup with inds := s.setup.inds.put i set }
            store := { s.store with modified := true }
            inds := t.inds })

/-- The receive framer: a gap of 20 ms discards the frame in progress; while hunting, bytes other than A5H change nothing; a length
above 250, a framing error and a wrong CRC each discard the frame without reply or report; a complete frame of an unknown kind is
answered UNKNOWN-KIND (R167, R168). Nothing else changes. That the gap has passed at 20 ms is the model's reading (log 2). -/
def Obligations.FramerDiscards : Prop :=
  ∀ s : State, s.port.restart = none →
    (∀ bytes last, s.port.framer = .assembling bytes last → 20 ≤ (s.time - last).toNat →
      exec .frameGapTimeout s = .next (s.setPort { s.port with framer := .hunting }))
    ∧ (∀ bytes : List Byte, s.port.framer = .hunting → (∀ b ∈ bytes, b ≠ 0xA5) →
      exec (.frameDiscarded (bytes.map .byte)) s = .next s)
    ∧ (∀ len : Byte, s.port.framer = .hunting → 250 < len.toNat →
      exec (.frameDiscarded [.byte 0xA5, .byte len]) s = .next s)
    ∧ (∀ (f : Framer), s.port.framer = f →
      exec (.frameDiscarded [.framingError]) s = .next (s.setPort { s.port with framer := .hunting }))
    ∧ (∀ (len : Byte) (body : List Byte) (lo hi : Byte), s.port.framer = .hunting → len.toNat ≤ 250 →
      body.length = len.toNat + 2 → crc16 (len :: body) ≠ hi ++ lo →
      exec (.frameDiscarded ((0xA5 :: len :: body ++ [lo, hi]).map .byte)) s = .next s)
    ∧ (∀ (kind tag : Byte) (body : List Byte), s.port.replies.length < 8 → kind ∉ requestCodes →
      exec (.unknownKind kind tag body) s = .next (s.setPort { s.port with
        framer := .hunting, replies := s.port.replies ++ [⟨kind, tag, .unknownKind, .nothing⟩] }))

/-- A free transmitter takes the oldest waiting reply, else the report at the head of the queue, whose flags byte is formed now (bit 0
the gap flag, bit 1 the dip flag), else it is idle; an idle one at TRANSMIT_START, a sending one at TRANSMIT_END of a frame that is
not the reply to an accepted RESTART, be it sent ahead of that reply; nothing else changes (R169, R172, R176). What it then puts out is
the frame of Table 10-1: of a reply, with the request's kind and tag, and its result code and content; of a report, with the kind value
and subject of Table 10-4, tag 0 and the flags byte (R168, R172). In a READ-HISTORY reply eight bytes stand before the samples, so that
16 samples make a body of 249 bytes (R110). -/
def Obligations.TransmitterTakesNext : Prop :=
  ∀ (c : Instr) (s : State),
    (c = .transmitStart ∧ s.port.tx = none
      ∨ c = .transmitEnd ∧ s.port.tx ≠ none
        ∧ (s.port.restart = none ∨ ∀ tag content, s.port.tx ≠ some (.reply ⟨0x23, tag, .ok, content⟩))) →
    (∀ r rest, s.port.replies = r :: rest →
      ∃ t bytes more, exec c s = .next t ∧ t = s.setPort { s.port with tx := some (.reply r), replies := rest }
        ∧ portOut t = some bytes ∧ FrameOf bytes r.kind r.tag (BitVec.ofNat 8 (resultNumber r.code) :: more)
        ∧ (r.content = .nothing → more = [])
        ∧ ∀ v, r.content = .history v → ∃ front, more = front ++ v.samples.flatten ∧ front.length = 8)
    ∧ (∀ r rest, s.port.replies = [] → s.port.reports = r :: rest →
      ∃ (t : State) (flags : Byte) (bytes more : List Byte), exec c s = .next t
        ∧ t = s.setPort { s.port with tx := some (.report flags r), reports := rest }
        ∧ flags.getLsbD 0 = s.port.gapFlag ∧ flags.getLsbD 1 = s.port.dipFlag ∧ flags.toNat < 4
        ∧ portOut t = some bytes
        ∧ FrameOf bytes (BitVec.ofNat 8 (reportRow r).1) 0 (flags :: BitVec.ofNat 8 (reportRow r).2 :: more))
    ∧ (s.port.replies = [] → s.port.reports = [] →
      ∃ t, exec c s = .next t ∧ t = s.setPort { s.port with tx := none } ∧ portOut t = none)

/-- Refusals change nothing but the framer and the reply path: the configuration requests, SAVE-PLAN and ARM outside HALTED (WRONG-STATE)
and in HALTED during a save (BUSY), a failed commission check (NOT-READY with its fault), bodies of a length the format does not allow
(BAD-LENGTH), fields outside their ranges (OUT-OF-RANGE), HALT, HOLD-OUT, READMIT, CAPTURE and LINE-REPORT in a state or for a line that
does not let them in (WRONG-STATE), and a car not enrolled (NOT-ENROLLED) (R168, R115, R10, R49, R50, R109, R118, Table 10-3). RELEASE-GROUP
is refused with the group, its figures and each condition of readiness in every reply (R143). The ranges of SET-LIMITS and SET-CAR are those
of the tables (R170, R32). For the settle interval the range is the model's reading (log 29), and so is the refusal of an unlisted part of
SET-INDICATOR in every plan state (log 33). -/
def Obligations.RefusalsChangeNothing : Prop :=
  (∀ (s : State) (c : Instr) (k : ReqKind) (tag : Byte), Taking s →
    (HaltedForm c k tag → s.plan.state ≠ .halted → exec c s = .next (replied s k tag .wrongState .nothing))
    ∧ (HaltedForm c k tag → s.plan.state = .halted → s.store.save ≠ none →
        exec c s = .next (replied s k tag .busy .nothing))
    ∧ (∀ f, Writable s → commission s.setup = some f →
        exec (.arm tag []) s = .next (replied s .arm tag .notReady (.armRefused f)))
    ∧ (BadBody c k tag → exec c s = .next (replied s k tag .badLength .nothing))
    ∧ (OutOfRange s c k tag → exec c s = .next (replied s k tag .outOfRange .nothing))
    ∧ (WrongState s c k tag → exec c s = .next (replied s k tag .wrongState .nothing))
    ∧ (∀ d : CarId, s.plan.state ≠ .halted → (profile s d).enrolled = false →
        (c = .holdOut tag (.fields (d.val + 1)) ∧ k = .holdOut ∨ c = .readmit tag (.fields (d.val + 1)) ∧ k = .readmit) →
        exec c s = .next (replied s k tag .notEnrolled .nothing))
    ∧ (∀ b, b ≠ [] → exec (.releaseGroup tag b) s
        = .next (replied s .releaseGroup tag .badLength (.group ⟨s.ret.group, readinessNow s⟩)))
    ∧ (¬ Granting s ∨ s.setup.limits.returnMode = .paced ∨ s.setup.limits.releaseSource = .timer →
        exec (.releaseGroup tag []) s
          = .next (replied s .releaseGroup tag .wrongState (.group ⟨s.ret.group, readinessNow s⟩)))
    ∧ (Granting s → s.setup.limits.returnMode = .grouped → s.setup.limits.releaseSource = .host →
        readinessNow s ≠ ⟨true, true, true, true, true, true, true⟩ →
        exec (.releaseGroup tag []) s
          = .next (replied s .releaseGroup tag .notReady (.group ⟨s.ret.group, readinessNow s⟩))))
    ∧ (∀ f : LimitsForm, (checkLimits f).isSome = true ↔ LimitsFit f)
    ∧ ∀ f : CarForm, (checkProfile f).isSome = true ↔ CarFits f

/-! ## Invariants that every step keeps -/

/-- Through every step K_d and K_r stay the sums of the entries' reservations (R92); the table keeps one entry per car and distinct
permit numbers in 1..65535 (R90, R91); and draw overcommit stays K_d > C and regen overcommit K_r > S (R100), for which the first
invariant is a premise. -/
def Obligations.TotalsMatchKept : Prop :=
  ∀ s t : State, step s = .next t →
    (TotalsMatch s → TotalsMatch t)
    ∧ (OneEntryPerCar s → PermitsDistinct s → OneEntryPerCar t ∧ PermitsDistinct t)
    ∧ (TotalsMatch s → OvercommitMatches s → OvercommitMatches t)

/-- While the plan is HALTED, WATCHING or OUTAGE the permit table, the return queue and the release group are empty, through every
step (R113). While it is HALTED, or the ring is frozen, the sample timer is stopped, through every step (R105, R108). -/
def Obligations.QuietStageKept : Prop :=
  ∀ s t : State, step s = .next t → (QuietStage s → QuietStage t) ∧ (SamplingStopped s → SamplingStopped t)

/-- C and S stay those that the lines, statuses, trims and settings give (R24, R25, R26), and both indication lines drive the levels that
their settings and conditions give (R178), through every step. -/
def Obligations.CapacityFollowsPlantKept : Prop :=
  ∀ s t : State, step s = .next t → (CapacityFollowsPlant s → CapacityFollowsPlant t) ∧ (LinesDriven s → LinesDriven t)

/-- At most 64 reports, at most one CAR-POSITION report per car, and at most 8 replies, through every step (R173, R174, R168). -/
def Obligations.QueuesBoundedKept : Prop :=
  ∀ s t : State, ReportsBounded s → RepliesBounded s → step s = .next t → ReportsBounded t ∧ RepliesBounded t

/-- A link with an enrolled car always has an exchange in flight while the plan is not HALTED, and in HALTED neither link carries or
holds anything, through every step (R54, R65, R71, R72). -/
def Obligations.LinksKept : Prop :=
  ∀ s t : State, LinksBusy s → LinksQuiet s → step s = .next t → LinksBusy t ∧ LinksQuiet t

/-- A car has a record when it is enrolled and only then, through every step (R33, R34, R52, R53). A car is once in the return queue
and the release group together, in the queue exactly when QUEUED and in the group exactly when STAGED (R131), and a car holds an entry
exactly when its state says so (R40, R43, R48, R67, R98), through every step as well; premises for these two: the invariants of R90
and R113, stated here. -/
def Obligations.RecordsMatchKept : Prop :=
  ∀ s t : State, step s = .next t →
    (RecordsMatch s → RecordsMatch t)
    ∧ (RecordsMatch s → ReturnsMatch s → EntriesMatch s → OneEntryPerCar s → QuietStage s →
        ReturnsMatch t ∧ EntriesMatch t)

/-- Every invariant stated above holds right after reset. -/
def Obligations.InvariantsHoldAtReset : Prop :=
  TotalsMatch State.reset ∧ OneEntryPerCar State.reset ∧ PermitsDistinct State.reset ∧ OvercommitMatches State.reset
    ∧ QuietStage State.reset ∧ CapacityFollowsPlant State.reset ∧ LinesDriven State.reset ∧ ReportsBounded State.reset
    ∧ RepliesBounded State.reset ∧ LinksBusy State.reset ∧ LinksQuiet State.reset ∧ SamplingStopped State.reset
    ∧ RecordsMatch State.reset ∧ ReturnsMatch State.reset ∧ EntriesMatch State.reset
end

