-- ==== Sys2Proof/Laws/State.lean ====
section
/-! SUPPORT. One lemma for each field of each update of the state. -/

namespace Sys2Proof.Machine

section
variable (s : State) (x : List Instr)
@[simp] theorem State.setPending_pending : (s.setPending x).pending = x := rfl
@[simp] theorem State.setPending_time : (s.setPending x).time = s.time := rfl
@[simp] theorem State.setPending_setup : (s.setPending x).setup = s.setup := rfl
@[simp] theorem State.setPending_lines : (s.setPending x).lines = s.lines := rfl
@[simp] theorem State.setPending_cap : (s.setPending x).cap = s.cap := rfl
@[simp] theorem State.setPending_cars : (s.setPending x).cars = s.cars := rfl
@[simp] theorem State.setPending_link : (s.setPending x).link = s.link := rfl
@[simp] theorem State.setPending_acct : (s.setPending x).acct = s.acct := rfl
@[simp] theorem State.setPending_hist : (s.setPending x).hist = s.hist := rfl
@[simp] theorem State.setPending_plan : (s.setPending x).plan = s.plan := rfl
@[simp] theorem State.setPending_ret : (s.setPending x).ret = s.ret := rfl
@[simp] theorem State.setPending_svc : (s.setPending x).svc = s.svc := rfl
@[simp] theorem State.setPending_port : (s.setPending x).port = s.port := rfl
@[simp] theorem State.setPending_inds : (s.setPending x).inds = s.inds := rfl
@[simp] theorem State.setPending_store : (s.setPending x).store = s.store := rfl
end

section
variable (s : State) (x : Time)
@[simp] theorem State.setTime_pending : (s.setTime x).pending = s.pending := rfl
@[simp] theorem State.setTime_time : (s.setTime x).time = x := rfl
@[simp] theorem State.setTime_setup : (s.setTime x).setup = s.setup := rfl
@[simp] theorem State.setTime_lines : (s.setTime x).lines = s.lines := rfl
@[simp] theorem State.setTime_cap : (s.setTime x).cap = s.cap := rfl
@[simp] theorem State.setTime_cars : (s.setTime x).cars = s.cars := rfl
@[simp] theorem State.setTime_link : (s.setTime x).link = s.link := rfl
@[simp] theorem State.setTime_acct : (s.setTime x).acct = s.acct := rfl
@[simp] theorem State.setTime_hist : (s.setTime x).hist = s.hist := rfl
@[simp] theorem State.setTime_plan : (s.setTime x).plan = s.plan := rfl
@[simp] theorem State.setTime_ret : (s.setTime x).ret = s.ret := rfl
@[simp] theorem State.setTime_svc : (s.setTime x).svc = s.svc := rfl
@[simp] theorem State.setTime_port : (s.setTime x).port = s.port := rfl
@[simp] theorem State.setTime_inds : (s.setTime x).inds = s.inds := rfl
@[simp] theorem State.setTime_store : (s.setTime x).store = s.store := rfl
end

section
variable (s : State) (x : Setup)
@[simp] theorem State.setSetup_pending : (s.setSetup x).pending = s.pending := rfl
@[simp] theorem State.setSetup_time : (s.setSetup x).time = s.time := rfl
@[simp] theorem State.setSetup_setup : (s.setSetup x).setup = x := rfl
@[simp] theorem State.setSetup_lines : (s.setSetup x).lines = s.lines := rfl
@[simp] theorem State.setSetup_cap : (s.setSetup x).cap = s.cap := rfl
@[simp] theorem State.setSetup_cars : (s.setSetup x).cars = s.cars := rfl
@[simp] theorem State.setSetup_link : (s.setSetup x).link = s.link := rfl
@[simp] theorem State.setSetup_acct : (s.setSetup x).acct = s.acct := rfl
@[simp] theorem State.setSetup_hist : (s.setSetup x).hist = s.hist := rfl
@[simp] theorem State.setSetup_plan : (s.setSetup x).plan = s.plan := rfl
@[simp] theorem State.setSetup_ret : (s.setSetup x).ret = s.ret := rfl
@[simp] theorem State.setSetup_svc : (s.setSetup x).svc = s.svc := rfl
@[simp] theorem State.setSetup_port : (s.setSetup x).port = s.port := rfl
@[simp] theorem State.setSetup_inds : (s.setSetup x).inds = s.inds := rfl
@[simp] theorem State.setSetup_store : (s.setSetup x).store = s.store := rfl
end

section
variable (s : State) (x : Table LineState 8)
@[simp] theorem State.setLines_pending : (s.setLines x).pending = s.pending := rfl
@[simp] theorem State.setLines_time : (s.setLines x).time = s.time := rfl
@[simp] theorem State.setLines_setup : (s.setLines x).setup = s.setup := rfl
@[simp] theorem State.setLines_lines : (s.setLines x).lines = x := rfl
@[simp] theorem State.setLines_cap : (s.setLines x).cap = s.cap := rfl
@[simp] theorem State.setLines_cars : (s.setLines x).cars = s.cars := rfl
@[simp] theorem State.setLines_link : (s.setLines x).link = s.link := rfl
@[simp] theorem State.setLines_acct : (s.setLines x).acct = s.acct := rfl
@[simp] theorem State.setLines_hist : (s.setLines x).hist = s.hist := rfl
@[simp] theorem State.setLines_plan : (s.setLines x).plan = s.plan := rfl
@[simp] theorem State.setLines_ret : (s.setLines x).ret = s.ret := rfl
@[simp] theorem State.setLines_svc : (s.setLines x).svc = s.svc := rfl
@[simp] theorem State.setLines_port : (s.setLines x).port = s.port := rfl
@[simp] theorem State.setLines_inds : (s.setLines x).inds = s.inds := rfl
@[simp] theorem State.setLines_store : (s.setLines x).store = s.store := rfl
end

section
variable (s : State) (x : Capacity)
@[simp] theorem State.setCap_pending : (s.setCap x).pending = s.pending := rfl
@[simp] theorem State.setCap_time : (s.setCap x).time = s.time := rfl
@[simp] theorem State.setCap_setup : (s.setCap x).setup = s.setup := rfl
@[simp] theorem State.setCap_lines : (s.setCap x).lines = s.lines := rfl
@[simp] theorem State.setCap_cap : (s.setCap x).cap = x := rfl
@[simp] theorem State.setCap_cars : (s.setCap x).cars = s.cars := rfl
@[simp] theorem State.setCap_link : (s.setCap x).link = s.link := rfl
@[simp] theorem State.setCap_acct : (s.setCap x).acct = s.acct := rfl
@[simp] theorem State.setCap_hist : (s.setCap x).hist = s.hist := rfl
@[simp] theorem State.setCap_plan : (s.setCap x).plan = s.plan := rfl
@[simp] theorem State.setCap_ret : (s.setCap x).ret = s.ret := rfl
@[simp] theorem State.setCap_svc : (s.setCap x).svc = s.svc := rfl
@[simp] theorem State.setCap_port : (s.setCap x).port = s.port := rfl
@[simp] theorem State.setCap_inds : (s.setCap x).inds = s.inds := rfl
@[simp] theorem State.setCap_store : (s.setCap x).store = s.store := rfl
end

section
variable (s : State) (x : Table (Option CarRecord) 48)
@[simp] theorem State.setCars_pending : (s.setCars x).pending = s.pending := rfl
@[simp] theorem State.setCars_time : (s.setCars x).time = s.time := rfl
@[simp] theorem State.setCars_setup : (s.setCars x).setup = s.setup := rfl
@[simp] theorem State.setCars_lines : (s.setCars x).lines = s.lines := rfl
@[simp] theorem State.setCars_cap : (s.setCars x).cap = s.cap := rfl
@[simp] theorem State.setCars_cars : (s.setCars x).cars = x := rfl
@[simp] theorem State.setCars_link : (s.setCars x).link = s.link := rfl
@[simp] theorem State.setCars_acct : (s.setCars x).acct = s.acct := rfl
@[simp] theorem State.setCars_hist : (s.setCars x).hist = s.hist := rfl
@[simp] theorem State.setCars_plan : (s.setCars x).plan = s.plan := rfl
@[simp] theorem State.setCars_ret : (s.setCars x).ret = s.ret := rfl
@[simp] theorem State.setCars_svc : (s.setCars x).svc = s.svc := rfl
@[simp] theorem State.setCars_port : (s.setCars x).port = s.port := rfl
@[simp] theorem State.setCars_inds : (s.setCars x).inds = s.inds := rfl
@[simp] theorem State.setCars_store : (s.setCars x).store = s.store := rfl
end

section
variable (s : State) (x : LinkCtl)
@[simp] theorem State.setLink_pending : (s.setLink x).pending = s.pending := rfl
@[simp] theorem State.setLink_time : (s.setLink x).time = s.time := rfl
@[simp] theorem State.setLink_setup : (s.setLink x).setup = s.setup := rfl
@[simp] theorem State.setLink_lines : (s.setLink x).lines = s.lines := rfl
@[simp] theorem State.setLink_cap : (s.setLink x).cap = s.cap := rfl
@[simp] theorem State.setLink_cars : (s.setLink x).cars = s.cars := rfl
@[simp] theorem State.setLink_link : (s.setLink x).link = x := rfl
@[simp] theorem State.setLink_acct : (s.setLink x).acct = s.acct := rfl
@[simp] theorem State.setLink_hist : (s.setLink x).hist = s.hist := rfl
@[simp] theorem State.setLink_plan : (s.setLink x).plan = s.plan := rfl
@[simp] theorem State.setLink_ret : (s.setLink x).ret = s.ret := rfl
@[simp] theorem State.setLink_svc : (s.setLink x).svc = s.svc := rfl
@[simp] theorem State.setLink_port : (s.setLink x).port = s.port := rfl
@[simp] theorem State.setLink_inds : (s.setLink x).inds = s.inds := rfl
@[simp] theorem State.setLink_store : (s.setLink x).store = s.store := rfl
end

section
variable (s : State) (x : Account)
@[simp] theorem State.setAcct_pending : (s.setAcct x).pending = s.pending := rfl
@[simp] theorem State.setAcct_time : (s.setAcct x).time = s.time := rfl
@[simp] theorem State.setAcct_setup : (s.setAcct x).setup = s.setup := rfl
@[simp] theorem State.setAcct_lines : (s.setAcct x).lines = s.lines := rfl
@[simp] theorem State.setAcct_cap : (s.setAcct x).cap = s.cap := rfl
@[simp] theorem State.setAcct_cars : (s.setAcct x).cars = s.cars := rfl
@[simp] theorem State.setAcct_link : (s.setAcct x).link = s.link := rfl
@[simp] theorem State.setAcct_acct : (s.setAcct x).acct = x := rfl
@[simp] theorem State.setAcct_hist : (s.setAcct x).hist = s.hist := rfl
@[simp] theorem State.setAcct_plan : (s.setAcct x).plan = s.plan := rfl
@[simp] theorem State.setAcct_ret : (s.setAcct x).ret = s.ret := rfl
@[simp] theorem State.setAcct_svc : (s.setAcct x).svc = s.svc := rfl
@[simp] theorem State.setAcct_port : (s.setAcct x).port = s.port := rfl
@[simp] theorem State.setAcct_inds : (s.setAcct x).inds = s.inds := rfl
@[simp] theorem State.setAcct_store : (s.setAcct x).store = s.store := rfl
end

section
variable (s : State) (x : History)
@[simp] theorem State.setHist_pending : (s.setHist x).pending = s.pending := rfl
@[simp] theorem State.setHist_time : (s.setHist x).time = s.time := rfl
@[simp] theorem State.setHist_setup : (s.setHist x).setup = s.setup := rfl
@[simp] theorem State.setHist_lines : (s.setHist x).lines = s.lines := rfl
@[simp] theorem State.setHist_cap : (s.setHist x).cap = s.cap := rfl
@[simp] theorem State.setHist_cars : (s.setHist x).cars = s.cars := rfl
@[simp] theorem State.setHist_link : (s.setHist x).link = s.link := rfl
@[simp] theorem State.setHist_acct : (s.setHist x).acct = s.acct := rfl
@[simp] theorem State.setHist_hist : (s.setHist x).hist = x := rfl
@[simp] theorem State.setHist_plan : (s.setHist x).plan = s.plan := rfl
@[simp] theorem State.setHist_ret : (s.setHist x).ret = s.ret := rfl
@[simp] theorem State.setHist_svc : (s.setHist x).svc = s.svc := rfl
@[simp] theorem State.setHist_port : (s.setHist x).port = s.port := rfl
@[simp] theorem State.setHist_inds : (s.setHist x).inds = s.inds := rfl
@[simp] theorem State.setHist_store : (s.setHist x).store = s.store := rfl
end

section
variable (s : State) (x : PlanCtl)
@[simp] theorem State.setPlan_pending : (s.setPlan x).pending = s.pending := rfl
@[simp] theorem State.setPlan_time : (s.setPlan x).time = s.time := rfl
@[simp] theorem State.setPlan_setup : (s.setPlan x).setup = s.setup := rfl
@[simp] theorem State.setPlan_lines : (s.setPlan x).lines = s.lines := rfl
@[simp] theorem State.setPlan_cap : (s.setPlan x).cap = s.cap := rfl
@[simp] theorem State.setPlan_cars : (s.setPlan x).cars = s.cars := rfl
@[simp] theorem State.setPlan_link : (s.setPlan x).link = s.link := rfl
@[simp] theorem State.setPlan_acct : (s.setPlan x).acct = s.acct := rfl
@[simp] theorem State.setPlan_hist : (s.setPlan x).hist = s.hist := rfl
@[simp] theorem State.setPlan_plan : (s.setPlan x).plan = x := rfl
@[simp] theorem State.setPlan_ret : (s.setPlan x).ret = s.ret := rfl
@[simp] theorem State.setPlan_svc : (s.setPlan x).svc = s.svc := rfl
@[simp] theorem State.setPlan_port : (s.setPlan x).port = s.port := rfl
@[simp] theorem State.setPlan_inds : (s.setPlan x).inds = s.inds := rfl
@[simp] theorem State.setPlan_store : (s.setPlan x).store = s.store := rfl
end

section
variable (s : State) (x : Returns)
@[simp] theorem State.setRet_pending : (s.setRet x).pending = s.pending := rfl
@[simp] theorem State.setRet_time : (s.setRet x).time = s.time := rfl
@[simp] theorem State.setRet_setup : (s.setRet x).setup = s.setup := rfl
@[simp] theorem State.setRet_lines : (s.setRet x).lines = s.lines := rfl
@[simp] theorem State.setRet_cap : (s.setRet x).cap = s.cap := rfl
@[simp] theorem State.setRet_cars : (s.setRet x).cars = s.cars := rfl
@[simp] theorem State.setRet_link : (s.setRet x).link = s.link := rfl
@[simp] theorem State.setRet_acct : (s.setRet x).acct = s.acct := rfl
@[simp] theorem State.setRet_hist : (s.setRet x).hist = s.hist := rfl
@[simp] theorem State.setRet_plan : (s.setRet x).plan = s.plan := rfl
@[simp] theorem State.setRet_ret : (s.setRet x).ret = x := rfl
@[simp] theorem State.setRet_svc : (s.setRet x).svc = s.svc := rfl
@[simp] theorem State.setRet_port : (s.setRet x).port = s.port := rfl
@[simp] theorem State.setRet_inds : (s.setRet x).inds = s.inds := rfl
@[simp] theorem State.setRet_store : (s.setRet x).store = s.store := rfl
end

section
variable (s : State) (x : Selector)
@[simp] theorem State.setSvc_pending : (s.setSvc x).pending = s.pending := rfl
@[simp] theorem State.setSvc_time : (s.setSvc x).time = s.time := rfl
@[simp] theorem State.setSvc_setup : (s.setSvc x).setup = s.setup := rfl
@[simp] theorem State.setSvc_lines : (s.setSvc x).lines = s.lines := rfl
@[simp] theorem State.setSvc_cap : (s.setSvc x).cap = s.cap := rfl
@[simp] theorem State.setSvc_cars : (s.setSvc x).cars = s.cars := rfl
@[simp] theorem State.setSvc_link : (s.setSvc x).link = s.link := rfl
@[simp] theorem State.setSvc_acct : (s.setSvc x).acct = s.acct := rfl
@[simp] theorem State.setSvc_hist : (s.setSvc x).hist = s.hist := rfl
@[simp] theorem State.setSvc_plan : (s.setSvc x).plan = s.plan := rfl
@[simp] theorem State.setSvc_ret : (s.setSvc x).ret = s.ret := rfl
@[simp] theorem State.setSvc_svc : (s.setSvc x).svc = x := rfl
@[simp] theorem State.setSvc_port : (s.setSvc x).port = s.port := rfl
@[simp] theorem State.setSvc_inds : (s.setSvc x).inds = s.inds := rfl
@[simp] theorem State.setSvc_store : (s.setSvc x).store = s.store := rfl
end

section
variable (s : State) (x : Port)
@[simp] theorem State.setPort_pending : (s.setPort x).pending = s.pending := rfl
@[simp] theorem State.setPort_time : (s.setPort x).time = s.time := rfl
@[simp] theorem State.setPort_setup : (s.setPort x).setup = s.setup := rfl
@[simp] theorem State.setPort_lines : (s.setPort x).lines = s.lines := rfl
@[simp] theorem State.setPort_cap : (s.setPort x).cap = s.cap := rfl
@[simp] theorem State.setPort_cars : (s.setPort x).cars = s.cars := rfl
@[simp] theorem State.setPort_link : (s.setPort x).link = s.link := rfl
@[simp] theorem State.setPort_acct : (s.setPort x).acct = s.acct := rfl
@[simp] theorem State.setPort_hist : (s.setPort x).hist = s.hist := rfl
@[simp] theorem State.setPort_plan : (s.setPort x).plan = s.plan := rfl
@[simp] theorem State.setPort_ret : (s.setPort x).ret = s.ret := rfl
@[simp] theorem State.setPort_svc : (s.setPort x).svc = s.svc := rfl
@[simp] theorem State.setPort_port : (s.setPort x).port = x := rfl
@[simp] theorem State.setPort_inds : (s.setPort x).inds = s.inds := rfl
@[simp] theorem State.setPort_store : (s.setPort x).store = s.store := rfl
end

section
variable (s : State) (x : Table PinLevel 2)
@[simp] theorem State.setInds_pending : (s.setInds x).pending = s.pending := rfl
@[simp] theorem State.setInds_time : (s.setInds x).time = s.time := rfl
@[simp] theorem State.setInds_setup : (s.setInds x).setup = s.setup := rfl
@[simp] theorem State.setInds_lines : (s.setInds x).lines = s.lines := rfl
@[simp] theorem State.setInds_cap : (s.setInds x).cap = s.cap := rfl
@[simp] theorem State.setInds_cars : (s.setInds x).cars = s.cars := rfl
@[simp] theorem State.setInds_link : (s.setInds x).link = s.link := rfl
@[simp] theorem State.setInds_acct : (s.setInds x).acct = s.acct := rfl
@[simp] theorem State.setInds_hist : (s.setInds x).hist = s.hist := rfl
@[simp] theorem State.setInds_plan : (s.setInds x).plan = s.plan := rfl
@[simp] theorem State.setInds_ret : (s.setInds x).ret = s.ret := rfl
@[simp] theorem State.setInds_svc : (s.setInds x).svc = s.svc := rfl
@[simp] theorem State.setInds_port : (s.setInds x).port = s.port := rfl
@[simp] theorem State.setInds_inds : (s.setInds x).inds = x := rfl
@[simp] theorem State.setInds_store : (s.setInds x).store = s.store := rfl
end

section
variable (s : State) (x : Store)
@[simp] theorem State.setStore_pending : (s.setStore x).pending = s.pending := rfl
@[simp] theorem State.setStore_time : (s.setStore x).time = s.time := rfl
@[simp] theorem State.setStore_setup : (s.setStore x).setup = s.setup := rfl
@[simp] theorem State.setStore_lines : (s.setStore x).lines = s.lines := rfl
@[simp] theorem State.setStore_cap : (s.setStore x).cap = s.cap := rfl
@[simp] theorem State.setStore_cars : (s.setStore x).cars = s.cars := rfl
@[simp] theorem State.setStore_link : (s.setStore x).link = s.link := rfl
@[simp] theorem State.setStore_acct : (s.setStore x).acct = s.acct := rfl
@[simp] theorem State.setStore_hist : (s.setStore x).hist = s.hist := rfl
@[simp] theorem State.setStore_plan : (s.setStore x).plan = s.plan := rfl
@[simp] theorem State.setStore_ret : (s.setStore x).ret = s.ret := rfl
@[simp] theorem State.setStore_svc : (s.setStore x).svc = s.svc := rfl
@[simp] theorem State.setStore_port : (s.setStore x).port = s.port := rfl
@[simp] theorem State.setStore_inds : (s.setStore x).inds = s.inds := rfl
@[simp] theorem State.setStore_store : (s.setStore x).store = x := rfl
end

@[simp] theorem State.tick_eq (s : State) : s.tick = s.setTime (Time.plus s.time 1) := rfl
@[simp] theorem Work.up_st (w : Work) (f : State → State) : (w.up f).st = f w.st := rfl
@[simp] theorem Work.up_nt (w : Work) (f : State → State) : (w.up f).nt = w.nt := rfl
@[simp] theorem Work.noteRs_st (w : Work) : w.noteRs.st = w.st := rfl
@[simp] theorem Work.noteSs_st (w : Work) : w.noteSs.st = w.st := rfl
@[simp] theorem Work.noteBoth_st (w : Work) : w.noteBoth.st = w.st := rfl
@[simp] theorem begin_st (s : State) : (begin s).st = s := rfl
@[simp] theorem begin_nt (s : State) : (begin s).nt = Notes.none := rfl

end Sys2Proof.Machine
end

