-- ==== Sys2Proof/Laws/Closed.lean ====
section
/-! SUPPORT. What every operation of the blocks keeps: a property that the primitive updates keep holds after each operation. -/

namespace Sys2Proof.Machine

/-- The part of a car record that only a status reply and the host change: what Table 4-2 reports, the load's occupancy, the time
of the last status, and the hold-out flag. -/
def CarRecord.sensed (r : CarRecord) : CarRecord :=
  { CarRecord.initial with
    floor := r.floor, between := r.between, motion := r.motion, door := r.door, load := r.load, authority := r.authority,
    faultCode := r.faultCode, lastStatus := r.lastStatus, holdOut := r.holdOut, occupied := r.occupied }

/-- A property kept by the primitive updates that the operations on one event are made of. A car record keeps what is sensed, and
the selector its runtime counts. The permit table changes only by a new entry for a car without one, a change that keeps car and permit, a removal, a clearing, or
its flags. -/
structure Closed (P : State → Prop) : Prop where
  car : ∀ {s : State} {c : CarId} {f : CarRecord → CarRecord}, (∀ r, (f r).sensed = r.sensed) → P s → P (alterCar s c f)
  carsAll : ∀ {s : State} {f : CarId → CarRecord → CarRecord}, (∀ c r, (f c r).sensed = r.sensed) → P s →
    P (alterCars s f)
  link : ∀ {s : State} {x}, P s → P (s.setLink x)
  hist : ∀ {s : State} {x}, P s → P (s.setHist x)
  plan : ∀ {s : State} {x}, P s → P (s.setPlan x)
  ret : ∀ {s : State} {x}, P s → P (s.setRet x)
  svc : ∀ {s : State} {x : Selector}, x.counts = s.svc.counts → P s → P (s.setSvc x)
  inds : ∀ {s : State} {x}, P s → P (s.setInds x)
  report : ∀ {s : State} {r}, P s → P (queueReport s r)
  add : ∀ {s : State} {e : Entry}, entryOf s e.car = none → P s → P (s.setAcct (s.acct.add e))
  change : ∀ {s : State} {c : CarId} {f : Entry → Entry}, (∀ e, (f e).car = e.car) → (∀ e, (f e).permit = e.permit) →
    P s → P (s.setAcct (s.acct.change c f))
  remove : ∀ {s : State} {c : CarId}, P s → P (s.setAcct (s.acct.remove c))
  cleared : ∀ {s : State}, P s → P (s.setAcct s.acct.cleared)
  flags : ∀ {s : State} {a : Account}, a.entries = s.acct.entries → a.kd = s.acct.kd → a.kr = s.acct.kr →
    a.nextPermit = s.acct.nextPermit → P s → P (s.setAcct a)

variable {P : State → Prop}

/-- A fold of steps that keep a property keeps it. -/
theorem closed_foldl {α σ : Type} {Q : σ → Prop} {f : σ → α → σ} (hf : ∀ x a, Q x → Q (f x a)) :
    ∀ {l : List α} {x : σ}, Q x → Q (l.foldl f x)
  | [], _, h => h
  | a :: l, x, h => closed_foldl (l := l) hf (hf x a h)

/-- A step over cars that keeps a property keeps it over all of them. -/
theorem closed_overCars {cars : List CarId} {s : State} {f : State → CarId → State}
    (hf : ∀ x c, P x → P (f x c)) (h : P s) : P (overCars s cars f) := closed_foldl (Q := P) hf h

/-- A move to STOP phase is a change that keeps car and permit. -/
theorem closed_change_toStop (H : Closed P) {s : State} {c : CarId} {cause : StopCause} (h : P s) :
    P (s.setAcct (s.acct.change c (Entry.toStop cause))) := H.change (fun _ => rfl) (fun _ => rfl) h

/-- A step is a change that keeps car and permit. -/
theorem closed_change_toRun (H : Closed P) {s : State} {c : CarId} (h : P s) :
    P (s.setAcct (s.acct.change c Entry.toRun)) := H.change (fun _ => rfl) (fun _ => rfl) h

/-- A conversion is a change that keeps car and permit. -/
theorem closed_change_toStanding (H : Closed P) {s : State} {c : CarId} {f : WorstFigures} (h : P s) :
    P (s.setAcct (s.acct.change c (Entry.toStanding f))) := H.change (fun _ => rfl) (fun _ => rfl) h

/-! ## Ops -/

theorem closed_alterLink (H : Closed P) {s : State} {c : CarId} {f : CarLink → CarLink} (h : P s) :
    P (alterLink s c f) := by
  unfold alterLink
  repeat' first
    | with_reducible assumption | with_reducible refine H.link ?_

theorem closed_alterLinks (H : Closed P) {s : State} {f : CarId → CarLink → CarLink} (h : P s) :
    P (alterLinks s f) := by
  unfold alterLinks
  repeat' first
    | with_reducible assumption | with_reducible refine H.link ?_

theorem closed_placeCommand (H : Closed P) {s : State} {c : CarId} {k : CmdKind} {target permit : Option Nat}
    (h : P s) :
    P (placeCommand s c k target permit) := by
  unfold placeCommand
  repeat' first
    | with_reducible assumption | with_reducible refine closed_alterLink H ?_ | split

theorem closed_place (H : Closed P) {s : State} {c : CarId} {k : CmdKind} (h : P s) :
    P (place s c k) := by
  unfold place
  repeat' first
    | with_reducible assumption | with_reducible refine closed_placeCommand H ?_

theorem closed_removeCommand (H : Closed P) {s : State} {c : CarId} {p : CmdKind → Bool} (h : P s) :
    P (removeCommand s c p) := by
  unfold removeCommand
  repeat' first
    | with_reducible assumption | with_reducible refine closed_alterLink H ?_

theorem closed_emptySlot (H : Closed P) {s : State} {c : CarId} (h : P s) :
    P (emptySlot s c) := by
  unfold emptySlot
  repeat' first
    | with_reducible assumption | with_reducible refine closed_removeCommand H ?_

theorem closed_moveCar (H : Closed P) {s : State} {c : CarId} {st : CarState} (h : P s) :
    P (moveCar s c st) := by
  unfold moveCar
  repeat' first
    | with_reducible assumption | with_reducible refine closed_alterLink H ?_ | with_reducible refine H.car ?_ ?_
      | exact fun _ => rfl

theorem closed_failCar (H : Closed P) {s : State} {c : CarId} {why : FailReason} (h : P s) :
    P (failCar s c why) := by
  exact H.car (fun _ => rfl) (closed_moveCar H h)

theorem closed_clearPark (H : Closed P) {s : State} {c : CarId} (h : P s) :
    P (clearPark s c) := by
  unfold clearPark
  repeat' first
    | with_reducible assumption | with_reducible refine H.car ?_ ?_ | exact fun _ => rfl

theorem closed_consumeAttempt (H : Closed P) {s : State} {c : CarId} (h : P s) :
    P (consumeAttempt s c) := by
  unfold consumeAttempt
  repeat' first
    | with_reducible assumption | with_reducible refine H.car ?_ ?_ | exact fun _ => rfl

theorem closed_reportCar (H : Closed P) {s : State} {c : CarId} {old : Option CarRecord} {cause : CarCause}
    {decline : Option Decline} (h : P s) :
    P (reportCar s c old cause decline) := by
  unfold reportCar
  repeat' first
    | with_reducible assumption | with_reducible refine H.report ?_ | split

theorem closed_reportAlways (H : Closed P) {s : State} {c : CarId} {old : Option CarRecord} {cause : CarCause} (h : P s) :
    P (reportAlways s c old cause) := by
  unfold reportAlways
  repeat' first
    | with_reducible assumption | with_reducible refine H.report ?_ | split

theorem closed_setCancelled (H : Closed P) {s : State} {c : CarId} {b : Bool} (h : P s) :
    P (setCancelled s c b) := by
  unfold setCancelled
  repeat' first
    | with_reducible assumption | with_reducible refine H.plan ?_

theorem closed_setOwed (H : Closed P) {s : State} {c : CarId} {b : Bool} (h : P s) :
    P (setOwed s c b) := by
  unfold setOwed
  repeat' first
    | with_reducible assumption | with_reducible refine H.plan ?_

theorem closed_driveLines (H : Closed P) {s : State} (h : P s) :
    P (driveLines s) := by
  unfold driveLines
  repeat' first
    | with_reducible assumption | with_reducible refine H.inds ?_

theorem closed_reportChanged (H : Closed P) {s : State} {old : Table (Option CarRecord) 48}
    {cause : CarCause} (h : P s) :
    P (reportChanged s old cause) := closed_foldl (Q := P) (fun _ _ hx => closed_reportCar H hx) h

/-! ## Ring -/

theorem closed_takeSample (H : Closed P) {s : State} (h : P s) :
    P (takeSample s) := by
  unfold takeSample
  split
  · dsimp only
    split
    · exact H.report (H.hist h)
    · exact H.hist h
  · exact H.hist h

theorem closed_rearmSampling (H : Closed P) {s : State} (h : P s) :
    P (rearmSampling s) := by
  unfold rearmSampling
  repeat' first
    | with_reducible assumption | with_reducible refine H.hist ?_

theorem closed_startSampling (H : Closed P) {s : State} (h : P s) :
    P (startSampling s) := by
  unfold startSampling
  repeat' first
    | with_reducible assumption | with_reducible refine closed_takeSample H ?_
      | with_reducible refine closed_rearmSampling H ?_ | split

theorem closed_stopSampling (H : Closed P) {s : State} (h : P s) :
    P (stopSampling s) := by
  unfold stopSampling
  repeat' first
    | with_reducible assumption | with_reducible refine H.hist ?_

theorem closed_offerTrigger (H : Closed P) {s : State} {t : Trigger} (h : P s) :
    P (offerTrigger s t) := by
  unfold offerTrigger
  repeat' first
    | with_reducible assumption | with_reducible refine H.hist ?_ | split

/-! ## Ledger -/

theorem closed_endDesignation (H : Closed P) {s : State} {c : CarId} (h : P s) :
    P (endDesignation s c) := by
  unfold endDesignation
  repeat' first
    | with_reducible assumption | with_reducible refine H.svc rfl ?_

theorem closed_moveToStop (H : Closed P) {w : Work} {c : CarId} {cause : StopCause} (h : P w.st) :
    P (moveToStop w c cause).st := by
  unfold moveToStop
  split
  · split
    · have h1 : P (w.up (fun s => s.setAcct (s.acct.change c (Entry.toStop cause)))).st :=
        H.change (fun _ => rfl) (fun _ => rfl) h
      dsimp only
      split
      · exact closed_endDesignation H h1
      · exact h1
    · exact h
  · exact h

theorem closed_noteEased (H : Closed P) {w : Work} (h : P w.st) :
    P (noteEased w).st := by
  unfold noteEased
  repeat' first
    | with_reducible assumption | with_reducible refine H.svc rfl ?_ | split
      | dsimp only [Work.up_st, Work.noteRs_st, Work.noteSs_st, Work.noteBoth_st, begin_st]

theorem closed_shedAll (H : Closed P) {w : Work} {chosen : List Entry} (h : P w.st) :
    P (shedAll w chosen).st := by
  unfold shedAll
  exact closed_foldl (Q := fun x : Work => P x.st) (fun _ _ hx => closed_moveToStop H hx) h

theorem closed_shedDraw (H : Closed P) {w : Work} (h : P w.st) :
    P (shedDraw w).1.st := by
  unfold shedDraw
  split
  · exact closed_shedAll H h
  · exact h

theorem closed_shedRegen (H : Closed P) {w : Work} (h : P w.st) :
    P (shedRegen w).1.st := by
  unfold shedRegen
  split
  · exact closed_shedAll H h
  · exact h

theorem closed_settleAccount (H : Closed P) {w : Work} {eased : Bool} (h : P w.st) :
    P (settleAccount w eased).st := by
  have h1 : P (w.up (fun s => s.setAcct (s.acct.flagged s.cap.c s.cap.sink))).st := H.flags rfl rfl rfl rfl h
  have h2 := closed_shedRegen H (closed_shedDraw H h1)
  have h3 : ∀ x y, P ((shedRegen (shedDraw (w.up (fun s => s.setAcct (s.acct.flagged s.cap.c s.cap.sink)))).1).1.up
      (fun s => s.setAcct { s.acct with drawExhausted := x, regenExhausted := y })).st :=
    fun _ _ => H.flags rfl rfl rfl rfl h2
  unfold settleAccount
  extract_lets old w1 d r shed w2 w3 w4
  have h4 : P w3.st := closed_foldl (Q := P) (fun _ _ hx => H.report hx) (h3 _ _)
  have h5 : P w4.st := by
    unfold w4
    split
    · exact closed_offerTrigger H h4
    · exact h4
  split
  · exact closed_noteEased H h5
  · exact h5

theorem closed_stopShed (H : Closed P) {s : State} {c : CarId} (h : P s) :
    P (stopShed s c) := by
  unfold stopShed
  repeat' first
    | with_reducible assumption | with_reducible refine closed_place H ?_ | with_reducible refine closed_moveCar H ?_
      | with_reducible refine closed_reportCar H ?_ | split

theorem closed_handShed (H : Closed P) {s : State} {c : CarId} (h : P s) :
    P (handShed s c) := by
  unfold handShed
  repeat' first
    | with_reducible assumption | with_reducible refine closed_stopShed H ?_ | split

theorem closed_handSheds (H : Closed P) {w : Work} (h : P w.st) :
    P (handSheds w).st := by
  unfold handSheds
  exact closed_overCars (fun _ _ hx => closed_handShed H hx) h

theorem closed_enterEntry (H : Closed P) {w : Work} {e : Entry} (h : P w.st) :
    P (enterEntry w e).st := by
  unfold enterEntry
  split
  · exact h
  · rename_i hn
    exact closed_settleAccount H (H.add (by simpa using hn) h)

theorem closed_enterUntested (H : Closed P) {w : Work} {c : CarId} {adopted : Bool} (h : P w.st) :
    P (enterUntested w c adopted).st := by
  unfold enterUntested
  repeat' first
    | with_reducible assumption | with_reducible refine closed_enterEntry H ?_


theorem closed_stepEntry (H : Closed P) {w : Work} {c : CarId} (h : P w.st) :
    P (stepEntry w c).st := by
  unfold stepEntry
  repeat' first
    | with_reducible assumption | with_reducible refine closed_change_toRun H ?_
      | with_reducible refine closed_settleAccount H ?_
      | dsimp only [Work.up_st, Work.noteRs_st, Work.noteSs_st, Work.noteBoth_st, begin_st]

theorem closed_convertEntry (H : Closed P) {w : Work} {c : CarId} (h : P w.st) :
    P (convertEntry w c).st := by
  unfold convertEntry
  repeat' first
    | with_reducible assumption | with_reducible refine closed_change_toStanding H ?_
      | with_reducible refine closed_removeCommand H ?_ | with_reducible refine closed_endDesignation H ?_
      | with_reducible refine closed_settleAccount H ?_ | split
      | dsimp only [Work.up_st, Work.noteRs_st, Work.noteSs_st, Work.noteBoth_st, begin_st]

theorem closed_releaseEntry (H : Closed P) {w : Work} {c : CarId} (h : P w.st) :
    P (releaseEntry w c).st := by
  unfold releaseEntry
  repeat' first
    | with_reducible assumption | with_reducible refine H.remove ?_ | with_reducible refine closed_removeCommand H ?_
      | with_reducible refine closed_endDesignation H ?_ | with_reducible refine closed_settleAccount H ?_ | split
      | dsimp only [Work.up_st, Work.noteRs_st, Work.noteSs_st, Work.noteBoth_st, begin_st]

theorem closed_clearTable (H : Closed P) {w : Work} (h : P w.st) :
    P (clearTable w).st := by
  unfold clearTable
  repeat' first
    | with_reducible assumption | with_reducible refine H.cleared ?_ | with_reducible refine closed_settleAccount H ?_
      | dsimp only [Work.up_st, Work.noteRs_st, Work.noteSs_st, Work.noteBoth_st, begin_st]

end Sys2Proof.Machine
end

