-- ==== Sys2Proof/Laws/ClosedCars.lean ====
section
/-! SUPPORT. What the operations of the queue and the Car Table keep. -/

namespace Sys2Proof.Machine

variable {P : State → Prop}

/-! ## Queue -/

theorem closed_setQueue (H : Closed P) {s : State} {q : List QueueItem} (h : P s) :
    P (setQueue s q) := by
  unfold setQueue
  repeat' first
    | with_reducible assumption | with_reducible refine H.ret ?_

theorem closed_setGroup (H : Closed P) {s : State} {g : List StagedCar} (h : P s) :
    P (setGroup s g) := by
  unfold setGroup
  repeat' first
    | with_reducible assumption | with_reducible refine H.ret ?_

theorem closed_insertItem (H : Closed P) {s : State} {x : QueueItem} (h : P s) :
    P (insertItem s x) := by
  unfold insertItem
  repeat' first
    | with_reducible assumption | with_reducible refine closed_setQueue H ?_

theorem closed_enqueue (H : Closed P) {w : Work} {c : CarId} {front : Bool} (h : P w.st) :
    P (enqueue w c front).st := by
  unfold enqueue
  repeat' first
    | with_reducible assumption | with_reducible refine H.ret ?_ | with_reducible refine closed_insertItem H ?_
      | dsimp only [Work.up_st, Work.noteRs_st, Work.noteSs_st, Work.noteBoth_st, begin_st]

theorem closed_leaveReturns (H : Closed P) {w : Work} {c : CarId} (h : P w.st) :
    P (leaveReturns w c).st := by
  unfold leaveReturns
  repeat' first
    | with_reducible assumption | with_reducible refine H.ret ?_ | split
      | dsimp only [Work.up_st, Work.noteRs_st, Work.noteSs_st, Work.noteBoth_st, begin_st]

theorem closed_reorderItem (H : Closed P) {w : Work} {c : CarId} {occupied : Bool} (h : P w.st) :
    P (reorderItem w c occupied).st := by
  unfold reorderItem
  repeat' first
    | with_reducible assumption | with_reducible refine closed_setQueue H ?_
      | with_reducible refine closed_insertItem H ?_ | split
      | dsimp only [Work.up_st, Work.noteRs_st, Work.noteSs_st, Work.noteBoth_st, begin_st]

theorem closed_recomputeStaged (H : Closed P) {w : Work} {c : CarId} (h : P w.st) :
    P (recomputeStaged w c).st := by
  unfold recomputeStaged
  repeat' first
    | with_reducible assumption | with_reducible refine closed_setGroup H ?_ | split
      | dsimp only [Work.up_st, Work.noteRs_st, Work.noteSs_st, Work.noteBoth_st, begin_st]

theorem closed_startSpacing (H : Closed P) {s : State} (h : P s) :
    P (startSpacing s) := by
  unfold startSpacing
  repeat' first
    | with_reducible assumption | with_reducible refine H.ret ?_

theorem closed_emptyReturns (H : Closed P) {s : State} (h : P s) :
    P (emptyReturns s) := by
  unfold emptyReturns
  repeat' first
    | with_reducible assumption | with_reducible refine H.ret ?_

/-! ## CarTable -/

theorem closed_holdAs (H : Closed P) {s : State} {c : CarId} {st : CarState} (h : P s) :
    P (holdAs s c st) := by
  unfold holdAs
  repeat' first
    | with_reducible assumption | with_reducible refine closed_place H ?_ | with_reducible refine closed_moveCar H ?_

theorem closed_deferCar (H : Closed P) {w : Work} {c : CarId} (h : P w.st) :
    P (deferCar w c).st := by
  unfold deferCar
  repeat' first
    | with_reducible assumption | with_reducible refine closed_moveCar H ?_
      | with_reducible refine closed_enterUntested H ?_
      | dsimp only [Work.up_st, Work.noteRs_st, Work.noteSs_st, Work.noteBoth_st, begin_st]

theorem closed_adoptCar (H : Closed P) {w : Work} {c : CarId} (h : P w.st) :
    P (adoptCar w c).st := by
  unfold adoptCar
  repeat' first
    | with_reducible assumption | with_reducible refine closed_place H ?_ | with_reducible refine closed_moveCar H ?_
      | with_reducible refine closed_enterUntested H ?_
      | dsimp only [Work.up_st, Work.noteRs_st, Work.noteSs_st, Work.noteBoth_st, begin_st]

theorem closed_parkCar (H : Closed P) {s : State} {c : CarId} (h : P s) :
    P (parkCar s c) := by
  unfold parkCar
  repeat' first
    | with_reducible assumption | with_reducible refine closed_place H ?_ | with_reducible refine closed_moveCar H ?_
      | with_reducible refine H.car ?_ ?_ | exact fun _ => rfl

theorem closed_evaluateFull (H : Closed P) {w : Work} {c : CarId} {claim : Bool} (h : P w.st) :
    P (evaluateFull w c claim).st := by
  unfold evaluateFull
  split
  · exact h
  · extract_lets front w1
    have h1 : P w1.st := closed_setCancelled H (closed_clearPark H h)
    split
    · exact closed_deferCar H h1
    · split
      · exact closed_holdAs H h1
      · split
        · exact closed_failCar H (closed_place H h1)
        · split
          · exact closed_parkCar H h1
          · exact closed_moveCar H (closed_enqueue H h1)

theorem closed_evaluateSettling (H : Closed P) {w : Work} {c : CarId} (h : P w.st) :
    P (evaluateSettling w c).st := by
  unfold evaluateSettling
  repeat' first
    | with_reducible assumption | with_reducible refine closed_clearPark H ?_
      | with_reducible refine closed_holdAs H ?_ | with_reducible refine closed_deferCar H ?_ | split
      | dsimp only [Work.up_st, Work.noteRs_st, Work.noteSs_st, Work.noteBoth_st, begin_st]

theorem closed_evaluate (H : Closed P) {w : Work} {c : CarId} {claim : Bool} (h : P w.st) :
    P (evaluate w c claim).st := by
  unfold evaluate
  repeat' first
    | with_reducible assumption | with_reducible refine closed_holdAs H ?_
      | with_reducible refine closed_evaluateFull H ?_ | with_reducible refine closed_evaluateSettling H ?_ | split
      | dsimp only [Work.up_st, Work.noteRs_st, Work.noteSs_st, Work.noteBoth_st, begin_st]

theorem closed_handStop (H : Closed P) {w : Work} {c : CarId} {e : Entry} (h : P w.st) :
    P (handStop w c e).1.st := by
  unfold handStop
  repeat' first
    | with_reducible assumption | with_reducible refine closed_consumeAttempt H ?_ | split
      | dsimp only [Work.up_st, Work.noteRs_st, Work.noteSs_st, Work.noteBoth_st, begin_st]

theorem closed_stopCar (H : Closed P) {w : Work} {c : CarId} (h : P w.st) :
    P (stopCar w c).st := by
  unfold stopCar
  repeat' first
    | with_reducible assumption | with_reducible refine closed_releaseEntry H ?_
      | with_reducible refine closed_evaluate H ?_ | with_reducible refine closed_handStop H ?_ | split
      | dsimp only [Work.up_st, Work.noteRs_st, Work.noteSs_st, Work.noteBoth_st, begin_st]

theorem closed_startExpired (H : Closed P) {w : Work} {c : CarId} (h : P w.st) :
    P (startExpired w c).st := by
  unfold startExpired
  repeat' first
    | with_reducible assumption | with_reducible refine closed_consumeAttempt H ?_
      | with_reducible refine closed_releaseEntry H ?_ | with_reducible refine closed_evaluate H ?_
      | dsimp only [Work.up_st, Work.noteRs_st, Work.noteSs_st, Work.noteBoth_st, begin_st]

theorem closed_reportPosition (H : Closed P) {s : State} {c : CarId} {old new : CarRecord} (h : P s) :
    P (reportPosition s c old new) := by
  unfold reportPosition
  repeat' first
    | with_reducible assumption | with_reducible refine H.report ?_ | split

theorem closed_handOccupancy (H : Closed P) {w : Work} {c : CarId} {old new : CarRecord} (h : P w.st) :
    P (handOccupancy w c old new).st := by
  unfold handOccupancy
  repeat' first
    | with_reducible assumption | with_reducible refine closed_reorderItem H ?_
      | with_reducible refine closed_recomputeStaged H ?_ | split


theorem closed_applyStatus (H : Closed P) (hc : ∀ {s : State} {x}, P s → P (s.setCars x)) {w : Work}
    {c : CarId} {x : CarStatus} (h : P w.st) :
    P (applyStatus w c x).st := by
  unfold applyStatus
  split
  · exact h
  · refine closed_handOccupancy H ?_
    exact closed_reportPosition H (hc h)

theorem closed_unruled (H : Closed P) {w : Work} (h : P w.st) :
    P (unruled w).work.st := by
  unfold unruled
  repeat' first
    | with_reducible assumption

theorem closed_firstContact (H : Closed P) {w : Work} {c : CarId} {r : CarRecord} (h : P w.st) :
    P (firstContact w c r).work.st := by
  unfold firstContact
  repeat' first
    | with_reducible assumption | with_reducible refine closed_place H ?_ | with_reducible refine closed_moveCar H ?_
      | with_reducible refine closed_holdAs H ?_ | with_reducible refine closed_deferCar H ?_
      | with_reducible refine closed_adoptCar H ?_ | with_reducible refine closed_evaluate H ?_
      | with_reducible refine closed_unruled H ?_ | split
      | dsimp only [Work.up_st, Work.noteRs_st, Work.noteSs_st, Work.noteBoth_st, begin_st]

theorem closed_withdraw (H : Closed P) {w : Work} {c : CarId} (h : P w.st) :
    P (withdraw w c).st := by
  unfold withdraw
  repeat' first
    | with_reducible assumption | with_reducible refine closed_clearPark H ?_
      | with_reducible refine closed_leaveReturns H ?_
      | dsimp only [Work.up_st, Work.noteRs_st, Work.noteSs_st, Work.noteBoth_st, begin_st]

theorem closed_entrylessRules (H : Closed P) {w : Work} {c : CarId} {r : CarRecord} {changed : Bool} (h : P w.st) :
    P (entrylessRules w c r changed).work.st := by
  unfold entrylessRules
  repeat' first
    | with_reducible assumption | with_reducible refine closed_deferCar H ?_
      | with_reducible refine closed_adoptCar H ?_ | with_reducible refine closed_evaluate H ?_
      | with_reducible refine closed_unruled H ?_ | with_reducible refine closed_withdraw H ?_ | split
      | dsimp only [Work.up_st, Work.noteRs_st, Work.noteSs_st, Work.noteBoth_st, begin_st]

theorem closed_deferredRules (H : Closed P) {w : Work} {c : CarId} {r : CarRecord} (h : P w.st) :
    P (deferredRules w c r).work.st := by
  unfold deferredRules
  repeat' first
    | with_reducible assumption | with_reducible refine closed_releaseEntry H ?_
      | with_reducible refine closed_evaluate H ?_ | with_reducible refine closed_unruled H ?_ | split


theorem closed_motionRules (H : Closed P) {w : Work} {c : CarId} {st : CarState} {r : CarRecord} (h : P w.st) :
    P (motionRules w c st r).work.st := by
  unfold motionRules
  repeat' first
    | with_reducible assumption | with_reducible refine closed_stopCar H ?_ | with_reducible refine closed_unruled H ?_
      | split

theorem closed_outOfOrderRule (H : Closed P) {w : Work} {c : CarId} {r : CarRecord} (h : P w.st) :
    P (outOfOrderRule w c r).st := by
  unfold outOfOrderRule
  repeat' first
    | with_reducible assumption | with_reducible refine closed_emptySlot H ?_
      | with_reducible refine closed_moveCar H ?_ | with_reducible refine closed_moveToStop H ?_
      | with_reducible refine closed_releaseEntry H ?_ | with_reducible refine closed_evaluate H ?_ | split
      | dsimp only [Work.up_st, Work.noteRs_st, Work.noteSs_st, Work.noteBoth_st, begin_st]

theorem closed_localRule (H : Closed P) {w : Work} {c : CarId} (h : P w.st) :
    P (localRule w c).st := by
  unfold localRule
  repeat' first
    | with_reducible assumption | with_reducible refine closed_emptySlot H ?_
      | with_reducible refine closed_moveCar H ?_ | with_reducible refine closed_convertEntry H ?_
      | dsimp only [Work.up_st, Work.noteRs_st, Work.noteSs_st, Work.noteBoth_st, begin_st]

theorem closed_runRules (H : Closed P) {w : Work} {c : CarId} {st : CarState} {x : CarStatus} {r : CarRecord}
    (h : P w.st) :
    P (runRules w c st x r).work.st := by
  unfold runRules
  repeat' first
    | with_reducible assumption | with_reducible refine closed_moveCar H ?_
      | with_reducible refine closed_stepEntry H ?_ | with_reducible refine closed_startExpired H ?_
      | with_reducible refine closed_unruled H ?_ | with_reducible refine closed_motionRules H ?_
      | with_reducible refine closed_outOfOrderRule H ?_ | with_reducible refine closed_localRule H ?_ | split
      | dsimp only [Work.up_st, Work.noteRs_st, Work.noteSs_st, Work.noteBoth_st, begin_st]

theorem closed_entryRules (H : Closed P) {w : Work} {c : CarId} {st : CarState} {x : CarStatus}
    {r : CarRecord} (h : P w.st) :
    P (entryRules w c st x r).work.st := by
  unfold entryRules
  repeat' first
    | with_reducible assumption | with_reducible refine closed_deferredRules H ?_
      | with_reducible refine closed_runRules H ?_ | split


theorem closed_resume (H : Closed P) {w : Work} {c : CarId} {x : CarStatus} {r : CarRecord} (h : P w.st) :
    P (resume w c x r).work.st := by
  unfold resume
  repeat' first
    | with_reducible assumption | with_reducible refine closed_moveCar H ?_ | with_reducible refine closed_unruled H ?_
      | with_reducible refine closed_entryRules H ?_ | split
      | dsimp only [Work.up_st, Work.noteRs_st, Work.noteSs_st, Work.noteBoth_st, begin_st]

theorem closed_statusRules (H : Closed P) {w : Work} {c : CarId} {old : CarRecord} {first : Bool}
    {x : CarStatus} (h : P w.st) :
    P (statusRules w c old first x).work.st := by
  unfold statusRules
  repeat' first
    | with_reducible assumption | with_reducible refine closed_unruled H ?_
      | with_reducible refine closed_firstContact H ?_ | with_reducible refine closed_entrylessRules H ?_
      | with_reducible refine closed_entryRules H ?_ | with_reducible refine closed_resume H ?_ | split


theorem closed_parkAccepted (H : Closed P) {w : Work} {c : CarId} (h : P w.st) :
    P (parkAccepted w c).st := by
  unfold parkAccepted
  repeat' first
    | with_reducible assumption | with_reducible refine closed_moveCar H ?_
      | with_reducible refine closed_clearPark H ?_
      | dsimp only [Work.up_st, Work.noteRs_st, Work.noteSs_st, Work.noteBoth_st, begin_st]

theorem closed_parkDeclined (H : Closed P) {w : Work} {c : CarId} (h : P w.st) :
    P (parkDeclined w c).st := by
  unfold parkDeclined
  repeat' first
    | with_reducible assumption | with_reducible refine closed_clearPark H ?_
      | with_reducible refine closed_consumeAttempt H ?_ | with_reducible refine closed_evaluate H ?_
      | dsimp only [Work.up_st, Work.noteRs_st, Work.noteSs_st, Work.noteBoth_st, begin_st]

theorem closed_parkDropped (H : Closed P) {w : Work} {c : CarId} (h : P w.st) :
    P (parkDropped w c).st := by
  unfold parkDropped
  repeat' first
    | with_reducible assumption | with_reducible refine closed_evaluate H ?_ | split


end Sys2Proof.Machine
end

