-- ==== Sys2Proof/Laws/ClosedStep.lean ====
section
/-! SUPPORT. What the granting blocks, the plan, the links and the end of an event keep. -/

namespace Sys2Proof.Machine

variable {P : State → Prop}

/-! ## Sequencer -/

theorem closed_startRun (H : Closed P) {w : Work} {c : CarId} {f : RunFigures} (h : P w.st) :
    P (startRun w c f).st := by
  unfold startRun
  repeat' first
    | with_reducible assumption | with_reducible refine closed_placeCommand H ?_
      | with_reducible refine closed_moveCar H ?_ | with_reducible refine closed_reportCar H ?_
      | with_reducible refine closed_enterEntry H ?_
      | dsimp only [Work.up_st, Work.noteRs_st, Work.noteSs_st, Work.noteBoth_st, begin_st]

theorem closed_grantAttempt (H : Closed P) {w : Work} (h : P w.st) :
    P (grantAttempt w).st := by
  unfold grantAttempt
  repeat' first
    | with_reducible assumption | with_reducible refine closed_setQueue H ?_
      | with_reducible refine closed_startSpacing H ?_ | with_reducible refine closed_startRun H ?_ | split
      | dsimp only [Work.up_st, Work.noteRs_st, Work.noteSs_st, Work.noteBoth_st, begin_st]

theorem closed_stageCar (H : Closed P) {s : State} {x : QueueItem} (h : P s) :
    P (stageCar s x) := by
  unfold stageCar
  repeat' first
    | with_reducible assumption | with_reducible refine H.ret ?_ | with_reducible refine closed_moveCar H ?_
      | with_reducible refine closed_reportCar H ?_

theorem closed_stage (H : Closed P) {w : Work} (h : P w.st) :
    P (stage w).st := by
  unfold stage
  repeat' first
    | with_reducible assumption | with_reducible refine closed_foldl (Q := P) (fun _ _ hx => ?_) ?_
      | with_reducible refine closed_foldl (Q := fun x : Work => P x.st) (fun _ _ hx => ?_) ?_
      | with_reducible refine closed_stageCar H ?_ | split
      | dsimp only [Work.up_st, Work.noteRs_st, Work.noteSs_st, Work.noteBoth_st, begin_st]

theorem closed_releaseStaged (H : Closed P) {w : Work} (h : P w.st) :
    P (releaseStaged w).st := by
  unfold releaseStaged
  repeat' first
    | with_reducible assumption | with_reducible refine closed_foldl (Q := P) (fun _ _ hx => ?_) ?_
      | with_reducible refine closed_foldl (Q := fun x : Work => P x.st) (fun _ _ hx => ?_) ?_
      | with_reducible refine closed_setGroup H ?_ | with_reducible refine closed_startSpacing H ?_
      | with_reducible refine closed_startRun H ?_ | with_reducible refine closed_stage H ?_
      | dsimp only [Work.up_st, Work.noteRs_st, Work.noteSs_st, Work.noteBoth_st, begin_st]

theorem closed_sequencerWork (H : Closed P) {w : Work} (h : P w.st) :
    P (sequencerWork w).st := by
  unfold sequencerWork
  repeat' first
    | with_reducible assumption | with_reducible refine closed_grantAttempt H ?_
      | with_reducible refine closed_stage H ?_ | with_reducible refine closed_releaseStaged H ?_ | split
      | dsimp only [Work.up_st, Work.noteRs_st, Work.noteSs_st, Work.noteBoth_st, begin_st]

/-! ## Designation -/

theorem closed_designate (H : Closed P) {w : Work} {c : CarId} (h : P w.st) :
    P (designate w c).st := by
  unfold designate
  repeat' first
    | with_reducible assumption | with_reducible refine H.svc rfl ?_ | with_reducible refine closed_placeCommand H ?_
      | with_reducible refine closed_moveCar H ?_ | with_reducible refine closed_reportCar H ?_
      | with_reducible refine closed_enterEntry H ?_ | with_reducible refine closed_startSpacing H ?_
      | dsimp only [Work.up_st, Work.noteRs_st, Work.noteSs_st, Work.noteBoth_st, begin_st]

theorem closed_selectionPass (H : Closed P) {w : Work} (h : P w.st) :
    P (selectionPass w).st := by
  unfold selectionPass
  repeat' first
    | with_reducible assumption | with_reducible refine closed_designate H ?_ | split


theorem closed_selectorWork (H : Closed P) {w : Work} (h : P w.st) :
    P (selectorWork w).st := by
  unfold selectorWork
  repeat' first
    | with_reducible assumption | with_reducible refine closed_selectionPass H ?_ | split


theorem closed_confirmService (H : Closed P) {s : State} {c : CarId} (h : P s) :
    P (confirmService s c) := by
  unfold confirmService
  repeat' first
    | with_reducible assumption | with_reducible refine H.svc rfl ?_

theorem closed_setAside (H : Closed P) {s : State} {c : CarId} {why : AsideReason} (h : P s) :
    P (setAside s c why) := by
  unfold setAside
  repeat' first
    | with_reducible assumption | with_reducible refine H.svc rfl ?_

theorem closed_undesignate (H : Closed P) {w : Work} {c : CarId} (h : P w.st) :
    P (undesignate w c).st := by
  unfold undesignate
  repeat' first
    | with_reducible assumption | with_reducible refine closed_place H ?_ | with_reducible refine closed_emptySlot H ?_
      | with_reducible refine closed_moveCar H ?_ | with_reducible refine closed_moveToStop H ?_
      | with_reducible refine closed_releaseEntry H ?_ | split
      | dsimp only [Work.up_st, Work.noteRs_st, Work.noteSs_st, Work.noteBoth_st, begin_st]

theorem closed_serveDeclined (H : Closed P) {w : Work} {c : CarId} (h : P w.st) :
    P (serveDeclined w c).st := by
  unfold serveDeclined
  repeat' first
    | with_reducible assumption | with_reducible refine closed_consumeAttempt H ?_
      | with_reducible refine closed_setAside H ?_ | with_reducible refine closed_undesignate H ?_
      | dsimp only [Work.up_st, Work.noteRs_st, Work.noteSs_st, Work.noteBoth_st, begin_st]

theorem closed_serveDropped (H : Closed P) {w : Work} {c : CarId} {permit : Option Nat} (h : P w.st) :
    P (serveDropped w c permit).st := by
  unfold serveDropped
  repeat' first
    | with_reducible assumption | with_reducible refine closed_reportAlways H ?_
      | with_reducible refine closed_setAside H ?_ | with_reducible refine closed_undesignate H ?_ | split
      | dsimp only [Work.up_st, Work.noteRs_st, Work.noteSs_st, Work.noteBoth_st, begin_st]

theorem closed_endForCount (H : Closed P) {w : Work} {c : CarId} (h : P w.st) :
    P (endForCount w c).st := by
  unfold endForCount
  repeat' first
    | with_reducible assumption | with_reducible refine closed_place H ?_ | with_reducible refine closed_moveCar H ?_
      | with_reducible refine closed_reportCar H ?_ | with_reducible refine closed_moveToStop H ?_ | split
      | dsimp only [Work.up_st, Work.noteRs_st, Work.noteSs_st, Work.noteBoth_st, begin_st]

theorem closed_trimDesignations (H : Closed P) {w : Work} {b : BankId} (h : P w.st) :
    P (trimDesignations w b).st := by
  unfold trimDesignations
  repeat' first
    | with_reducible assumption | with_reducible refine closed_foldl (Q := P) (fun _ _ hx => ?_) ?_
      | with_reducible refine closed_foldl (Q := fun x : Work => P x.st) (fun _ _ hx => ?_) ?_
      | with_reducible refine closed_endForCount H ?_


theorem closed_endService (H : Closed P) {s : State} (h : P s) :
    P (endService s) := by
  unfold endService
  repeat' first
    | with_reducible assumption | with_reducible refine H.svc rfl ?_

/-! ## Transitions -/

theorem closed_setCensus (H : Closed P) {s : State} {counted : Table Bool 48} (h : P s) :
    P (setCensus s counted) := by
  unfold setCensus
  repeat' first
    | with_reducible assumption | with_reducible refine H.plan ?_

theorem closed_beginCensus (H : Closed P) {s : State} (h : P s) :
    P (beginCensus s) := by
  unfold beginCensus
  repeat' first
    | with_reducible assumption | with_reducible refine closed_setCensus H ?_

theorem closed_countCar (H : Closed P) {s : State} {c : CarId} (h : P s) :
    P (countCar s c) := by
  unfold countCar
  repeat' first
    | with_reducible assumption | with_reducible refine closed_setCensus H ?_ | split

theorem closed_startOutage (H : Closed P) {s : State} {left : PlanState} (h : P s) :
    P (startOutage s left) := by
  unfold startOutage
  repeat' first
    | with_reducible assumption | with_reducible refine H.plan ?_ | split

theorem closed_recordCarry (H : Closed P) {s : State} (h : P s) :
    P (recordCarry s) := by
  unfold recordCarry
  repeat' first
    | with_reducible assumption | with_reducible refine H.plan ?_

theorem closed_recordRecovered (H : Closed P) {s : State} (h : P s) :
    P (recordRecovered s) := by
  unfold recordRecovered
  repeat' first
    | with_reducible assumption | with_reducible refine H.plan ?_

theorem closed_recordEnd (H : Closed P) {s : State} (h : P s) :
    P (recordEnd s) := by
  unfold recordEnd
  repeat' first
    | with_reducible assumption | with_reducible refine H.plan ?_

theorem closed_removeCommands (H : Closed P) {s : State} {p : CmdKind → Bool} (h : P s) :
    P (removeCommands s p) := by
  unfold removeCommands
  repeat' first
    | with_reducible assumption | with_reducible refine closed_alterLinks H ?_

theorem closed_endHandBack (H : Closed P) {s : State} (h : P s) :
    P (endHandBack s) := by
  unfold endHandBack
  repeat' first
    | with_reducible assumption | with_reducible refine H.plan ?_ | with_reducible refine closed_removeCommands H ?_

theorem closed_resetCars (H : Closed P) {s : State} {f : CarRecord → CarState} (h : P s) :
    P (resetCars s f) := by
  unfold resetCars
  repeat' first
    | with_reducible assumption | with_reducible refine closed_alterLinks H ?_ | with_reducible refine H.carsAll ?_ ?_
      | exact fun _ _ => rfl

theorem closed_clearStage (H : Closed P) {w : Work} (h : P w.st) :
    P (clearStage w).st := by
  unfold clearStage
  repeat' first
    | with_reducible assumption | with_reducible refine closed_clearTable H ?_
      | with_reducible refine closed_emptyReturns H ?_ | with_reducible refine closed_endService H ?_
      | dsimp only [Work.up_st, Work.noteRs_st, Work.noteSs_st, Work.noteBoth_st, begin_st]

theorem closed_clearParks (H : Closed P) {s : State} (h : P s) :
    P (clearParks s) := by
  unfold clearParks
  repeat' first
    | with_reducible assumption | with_reducible refine H.carsAll ?_ ?_ | exact fun _ _ => rfl

theorem closed_enterOutage (H : Closed P) {w : Work} {left : PlanState} (h : P w.st) :
    P (enterOutage w left).st := by
  unfold enterOutage
  repeat' first
    | with_reducible assumption | with_reducible refine H.plan ?_ | with_reducible refine closed_startOutage H ?_
      | with_reducible refine closed_removeCommands H ?_ | with_reducible refine closed_resetCars H ?_
      | with_reducible refine closed_clearStage H ?_
      | dsimp only [Work.up_st, Work.noteRs_st, Work.noteSs_st, Work.noteBoth_st, begin_st]

theorem closed_enterSettling (H : Closed P) {w : Work} {left : PlanState} (h : P w.st) :
    P (enterSettling w left).st := by
  unfold enterSettling
  repeat' first
    | with_reducible assumption | with_reducible refine H.plan ?_ | with_reducible refine closed_beginCensus H ?_
      | with_reducible refine closed_startOutage H ?_ | with_reducible refine closed_endHandBack H ?_ | split
      | dsimp only [Work.up_st, Work.noteRs_st, Work.noteSs_st, Work.noteBoth_st, begin_st]

theorem closed_evaluateIdle (H : Closed P) {w : Work} {c : CarId} (h : P w.st) :
    P (evaluateIdle w c).st := by
  unfold evaluateIdle
  repeat' first
    | with_reducible assumption | with_reducible refine closed_reportCar H ?_
      | with_reducible refine closed_handSheds H ?_ | with_reducible refine closed_evaluateFull H ?_ | split
      | dsimp only [Work.up_st, Work.noteRs_st, Work.noteSs_st, Work.noteBoth_st, begin_st]

theorem closed_enterReturn (H : Closed P) {w : Work} (h : P w.st) :
    P (enterReturn w).st := by
  unfold enterReturn
  repeat' first
    | with_reducible assumption | with_reducible refine closed_foldl (Q := P) (fun _ _ hx => ?_) ?_
      | with_reducible refine closed_foldl (Q := fun x : Work => P x.st) (fun _ _ hx => ?_) ?_
      | with_reducible refine closed_recordCarry H ?_ | with_reducible refine closed_evaluateIdle H ?_
      | dsimp only [Work.up_st, Work.noteRs_st, Work.noteSs_st, Work.noteBoth_st, begin_st]

theorem closed_enterService (H : Closed P) {w : Work} (h : P w.st) :
    P (enterService w).st := by
  unfold enterService
  repeat' first
    | with_reducible assumption | with_reducible refine closed_recordRecovered H ?_
      | dsimp only [Work.up_st, Work.noteRs_st, Work.noteSs_st, Work.noteBoth_st, begin_st]

theorem closed_cancelReturn (H : Closed P) {s : State} {c : CarId} (h : P s) :
    P (cancelReturn s c) := by
  unfold cancelReturn
  repeat' first
    | with_reducible assumption | with_reducible refine closed_setCancelled H ?_
      | with_reducible refine closed_holdAs H ?_

theorem closed_cancelRun (H : Closed P) {w : Work} {c : CarId} (h : P w.st) :
    P (cancelRun w c).st := by
  unfold cancelRun
  split
  · split
    · have h1 := closed_setCancelled H (c := c) (b := true)
        (closed_place H (c := c) (k := .stopNext) (closed_moveToStop H (c := c) (cause := .plan) h))
      dsimp only [Work.up_st]
      split
      · exact h1
      · exact closed_moveCar H h1
    · exact h
  · exact h

theorem closed_enterRestoring (H : Closed P) {w : Work} {parks : List CarId} (h : P w.st) :
    P (enterRestoring w parks).st := by
  unfold enterRestoring
  repeat' first
    | with_reducible assumption | with_reducible refine closed_overCars (fun _ _ hx => ?_) ?_
      | with_reducible refine closed_foldl (Q := P) (fun _ _ hx => ?_) ?_
      | with_reducible refine closed_foldl (Q := fun x : Work => P x.st) (fun _ _ hx => ?_) ?_
      | with_reducible refine H.plan ?_ | with_reducible refine closed_place H ?_
      | with_reducible refine closed_emptyReturns H ?_ | with_reducible refine closed_endService H ?_
      | with_reducible refine closed_cancelReturn H ?_ | with_reducible refine closed_cancelRun H ?_
      | dsimp only [Work.up_st, Work.noteRs_st, Work.noteSs_st, Work.noteBoth_st, begin_st]

theorem closed_enterWatching (H : Closed P) {w : Work} {left : PlanState} (h : P w.st) :
    P (enterWatching w left).st := by
  unfold enterWatching
  repeat' first
    | with_reducible assumption | with_reducible refine closed_overCars (fun _ _ hx => ?_) ?_
      | with_reducible refine H.plan ?_ | with_reducible refine closed_place H ?_
      | with_reducible refine closed_recordEnd H ?_ | with_reducible refine closed_removeCommands H ?_
      | with_reducible refine closed_resetCars H ?_ | with_reducible refine closed_clearStage H ?_ | split
      | dsimp only [Work.up_st, Work.noteRs_st, Work.noteSs_st, Work.noteBoth_st, begin_st]

theorem closed_undriveLinks (H : Closed P) {s : State} (h : P s) :
    P (undriveLinks s) := by
  unfold undriveLinks
  repeat' first
    | with_reducible assumption | with_reducible refine H.link ?_

theorem closed_enterHalted (H : Closed P) {w : Work} (h : P w.st) :
    P (enterHalted w).st := by
  unfold enterHalted
  repeat' first
    | with_reducible assumption | with_reducible refine H.plan ?_ | with_reducible refine closed_stopSampling H ?_
      | with_reducible refine closed_undriveLinks H ?_ | with_reducible refine H.carsAll ?_ ?_
      | exact fun _ _ => rfl | dsimp only [Work.up_st, Work.noteRs_st, Work.noteSs_st, Work.noteBoth_st, begin_st]

theorem closed_driveLinks (H : Closed P) {s : State} (h : P s) :
    P (driveLinks s) := by
  unfold driveLinks
  repeat' first
    | with_reducible assumption | with_reducible refine closed_alterLinks H ?_

theorem closed_enter (H : Closed P) {w : Work} {left dest : PlanState} {parks : List CarId} (h : P w.st) :
    P (enter w left dest parks).st := by
  unfold enter
  repeat' first
    | with_reducible assumption | with_reducible refine closed_enterOutage H ?_
      | with_reducible refine closed_enterSettling H ?_ | with_reducible refine closed_enterReturn H ?_
      | with_reducible refine closed_enterService H ?_ | with_reducible refine closed_enterRestoring H ?_
      | with_reducible refine closed_enterWatching H ?_ | with_reducible refine closed_enterHalted H ?_ | split


theorem closed_transition (H : Closed P) {w : Work} {dest : PlanState} {cause : PlanCause} (h : P w.st) :
    P (transition w dest cause).st := by
  unfold transition
  extract_lets left old parks w1
  have h1 : P w1.st := by
    have h2 : P ((queueReport w.st (planReport w.st dest cause)).setPlan
        { (queueReport w.st (planReport w.st dest cause)).plan with
          state := dest, enteredAt := (queueReport w.st (planReport w.st dest cause)).time }) := H.plan (H.report h)
    have h3 := closed_startSampling H (closed_driveLinks H h2)
    unfold w1
    dsimp only [Work.up_st]
    split
    · split
      · exact h3
      · exact h2
    · refine closed_clearParks H ?_
      split
      · exact h3
      · exact h2
  have h4 := closed_enter H (left := left) (dest := dest) (parks := parks) h1
  dsimp only [Work.up_st]
  split
  · exact h4
  · exact closed_reportChanged H h4

theorem closed_planSteps (H : Closed P) : ∀ {fuel : Nat} {w : Work}, P w.st → P (planSteps fuel w).st
  | 0, _, h => h
  | fuel + 1, w, h => by
    unfold planSteps
    split
    · exact closed_planSteps H (closed_transition H h)
    · exact h
theorem closed_planRun (H : Closed P) {w : Work} (h : P w.st) :
    P (planRun w).st := by
  exact closed_planSteps H h

theorem closed_armPlan (H : Closed P) {w : Work} (h : P w.st) :
    P (armPlan w).st := by
  unfold armPlan
  repeat' first
    | with_reducible assumption | with_reducible refine closed_transition H ?_
      | with_reducible refine closed_planRun H ?_


/-! ## Links -/

theorem closed_setLinkLine (H : Closed P) {s : State} {k : Link} {l : LinkLine} (h : P s) :
    P (setLinkLine s k l) := by
  unfold setLinkLine
  repeat' first
    | with_reducible assumption | with_reducible refine H.link ?_ | split

theorem closed_beginExchange (H : Closed P) {s : State} {k : Link} {x : Choice} (h : P s) :
    P (beginExchange s k x) := by
  unfold beginExchange
  repeat' first
    | with_reducible assumption | with_reducible refine closed_alterLink H ?_
      | with_reducible refine closed_setLinkLine H ?_ | split

theorem closed_arbitrate (H : Closed P) {s : State} {k : Link} (h : P s) :
    P (arbitrate s k) := by
  unfold arbitrate
  repeat' first
    | with_reducible assumption | with_reducible refine closed_beginExchange H ?_ | split

theorem closed_arbiters (H : Closed P) {s : State} (h : P s) :
    P (arbiters s) := by
  unfold arbiters
  repeat' first
    | with_reducible assumption | with_reducible refine closed_arbitrate H ?_

theorem closed_renewStop (H : Closed P) {s : State} {c : CarId} (h : P s) :
    P (renewStop s c) := by
  unfold renewStop
  repeat' first
    | with_reducible assumption | with_reducible refine closed_place H ?_ | split

theorem closed_renewFor (H : Closed P) {s : State} {renew : Option CarId} (h : P s) :
    P (renewFor s renew) := by
  unfold renewFor
  repeat' first
    | with_reducible assumption | with_reducible refine closed_renewStop H ?_ | split

theorem closed_grantWork (H : Closed P) {w : Work} (h : P w.st) :
    P (grantWork w).st := by
  unfold grantWork
  repeat' first
    | with_reducible assumption | with_reducible refine closed_sequencerWork H ?_
      | with_reducible refine closed_selectorWork H ?_ | with_reducible refine closed_planRun H ?_ | split
      | dsimp only [Work.up_st, Work.noteRs_st, Work.noteSs_st, Work.noteBoth_st, begin_st]

theorem closed_completeWith (H : Closed P) {w : Work} {renew : Option CarId} (h : P w.st) :
    P (completeWith w renew) := by
  unfold completeWith
  repeat' first
    | with_reducible assumption | with_reducible refine closed_driveLines H ?_
      | with_reducible refine closed_arbiters H ?_ | with_reducible refine closed_renewFor H ?_
      | with_reducible refine closed_grantWork H ?_


theorem closed_complete (H : Closed P) {w : Work} (h : P w.st) :
    P (complete w) := by
  unfold complete
  repeat' first
    | with_reducible assumption | with_reducible refine closed_completeWith H ?_


/-! ## Exchanges -/

theorem closed_endExchange (H : Closed P) {s : State} {k : Link} {c : CarId} (h : P s) :
    P (endExchange s k c) := by
  unfold endExchange
  repeat' first
    | with_reducible assumption | with_reducible refine closed_alterLink H ?_
      | with_reducible refine closed_countCar H ?_ | with_reducible refine closed_setLinkLine H ?_
      | with_reducible refine H.car ?_ ?_ | exact fun _ => rfl

theorem closed_noVerdict (H : Closed P) {w : Work} (h : P w.st) :
    P (noVerdict w).work.st := by
  unfold noVerdict
  repeat' first
    | with_reducible assumption

theorem closed_judgePark (H : Closed P) {w : Work} {c : CarId} {v : Verdict} (h : P w.st) :
    P (judgePark w c v).work.st := by
  unfold judgePark
  repeat' first
    | with_reducible assumption | with_reducible refine closed_parkAccepted H ?_
      | with_reducible refine closed_parkDeclined H ?_ | with_reducible refine closed_noVerdict H ?_ | split


theorem closed_judgeRun (H : Closed P) {w : Work} {c : CarId} {permit : Option Nat} {v : Verdict} (h : P w.st) :
    P (judgeRun w c permit v).work.st := by
  unfold judgeRun
  repeat' first
    | with_reducible assumption | with_reducible refine closed_consumeAttempt H ?_
      | with_reducible refine closed_releaseEntry H ?_ | with_reducible refine closed_evaluate H ?_
      | with_reducible refine closed_noVerdict H ?_ | split
      | dsimp only [Work.up_st, Work.noteRs_st, Work.noteSs_st, Work.noteBoth_st, begin_st]

theorem closed_judgeServe (H : Closed P) {w : Work} {c : CarId} {permit : Option Nat} {v : Verdict} (h : P w.st) :
    P (judgeServe w c permit v).work.st := by
  unfold judgeServe
  repeat' first
    | with_reducible assumption | with_reducible refine closed_confirmService H ?_
      | with_reducible refine closed_serveDeclined H ?_ | with_reducible refine closed_noVerdict H ?_ | split
      | dsimp only [Work.up_st, Work.noteRs_st, Work.noteSs_st, Work.noteBoth_st, begin_st]

theorem closed_replaceHandBack (H : Closed P) {s : State} {c : CarId} (h : P s) :
    P (replaceHandBack s c) := by
  unfold replaceHandBack
  repeat' first
    | with_reducible assumption | with_reducible refine closed_place H ?_ | split

theorem closed_judgeHandBack (H : Closed P) {w : Work} {c : CarId} {v : Verdict} (h : P w.st) :
    P (judgeHandBack w c v).work.st := by
  unfold judgeHandBack
  repeat' first
    | with_reducible assumption | with_reducible refine closed_setOwed H ?_
      | with_reducible refine closed_noVerdict H ?_ | with_reducible refine closed_replaceHandBack H ?_ | split
      | dsimp only [Work.up_st, Work.noteRs_st, Work.noteSs_st, Work.noteBoth_st, begin_st]

theorem closed_judge (H : Closed P) {w : Work} {c : CarId} {q : Request} {v : Verdict} (h : P w.st) :
    P (judge w c q v).work.st := by
  unfold judge
  repeat' first
    | with_reducible assumption | with_reducible refine closed_noVerdict H ?_
      | with_reducible refine closed_judgePark H ?_ | with_reducible refine closed_judgeRun H ?_
      | with_reducible refine closed_judgeServe H ?_ | with_reducible refine closed_judgeHandBack H ?_ | split


theorem closed_reportReply (H : Closed P) {s : State} {c : CarId} {old : CarRecord} {rule : Option CarCause}
    {j : Judged} {decline : Option Decline} (h : P s) :
    P (reportReply s c old rule j decline) := by
  unfold reportReply
  repeat' first
    | with_reducible assumption | with_reducible refine H.report ?_ | split

theorem closed_handReply (H : Closed P) (hc : ∀ {s : State} {x}, P s → P (s.setCars x)) {w : Work} {c : CarId}
    {old : CarRecord} {first : Bool} {q : Request} {v : Verdict} {x : CarStatus} (h : P w.st) :
    P (handReply w c old first q v x).st := by
  unfold handReply
  repeat' first
    | with_reducible assumption | with_reducible refine closed_handSheds H ?_
      | with_reducible refine closed_applyStatus H hc ?_ | with_reducible refine closed_statusRules H ?_
      | with_reducible refine closed_judge H ?_ | with_reducible refine closed_reportReply H ?_
      | dsimp only [Work.up_st, Work.noteRs_st, Work.noteSs_st, Work.noteBoth_st, begin_st]

theorem closed_takeReply (H : Closed P) (hc : ∀ {s : State} {x}, P s → P (s.setCars x)) {s : State} {k : Link}
    {x : Exchange} {r : CarReply} (h : P s) :
    P (takeReply s k x r) := by
  unfold takeReply
  repeat' first
    | with_reducible assumption | with_reducible refine closed_completeWith H ?_
      | with_reducible refine closed_endExchange H ?_ | with_reducible refine closed_handReply H hc ?_ | split
      | dsimp only [Work.up_st, Work.noteRs_st, Work.noteSs_st, Work.noteBoth_st, begin_st]

theorem closed_receiveReply (H : Closed P) (hc : ∀ {s : State} {x}, P s → P (s.setCars x)) {s : State}
    {k : Link} {r : CarReply} (h : P s) :
    P (receiveReply s k r) := by
  unfold receiveReply
  repeat' first
    | with_reducible assumption | with_reducible refine closed_takeReply H hc ?_ | split

theorem closed_endMissed (H : Closed P) {s : State} {k : Link} {c : CarId} (h : P s) :
    P (endMissed s k c) := by
  unfold endMissed
  repeat' first
    | with_reducible assumption | with_reducible refine closed_alterLink H ?_
      | with_reducible refine closed_setLinkLine H ?_

theorem closed_loseCar (H : Closed P) {w : Work} {c : CarId} (h : P w.st) :
    P (loseCar w c).st := by
  unfold loseCar
  repeat' first
    | with_reducible assumption | with_reducible refine closed_emptySlot H ?_
      | with_reducible refine closed_moveCar H ?_ | with_reducible refine closed_clearPark H ?_
      | dsimp only [Work.up_st, Work.noteRs_st, Work.noteSs_st, Work.noteBoth_st, begin_st]

theorem closed_holdSilent (H : Closed P) {s : State} {c : CarId} (h : P s) :
    P (holdSilent s c) := by
  unfold holdSilent
  repeat' first
    | with_reducible assumption | with_reducible refine closed_alterLink H ?_
      | with_reducible refine closed_moveCar H ?_

theorem closed_silenceBy (H : Closed P) {w : Work} {c : CarId} {st : CarState} (h : P w.st) :
    P (silenceBy w c st).st := by
  unfold silenceBy
  repeat' first
    | with_reducible assumption | with_reducible refine closed_emptySlot H ?_
      | with_reducible refine closed_leaveReturns H ?_ | with_reducible refine closed_loseCar H ?_
      | with_reducible refine closed_holdSilent H ?_ | split
      | dsimp only [Work.up_st, Work.noteRs_st, Work.noteSs_st, Work.noteBoth_st, begin_st]

theorem closed_declareSilence (H : Closed P) {w : Work} {c : CarId} (h : P w.st) :
    P (declareSilence w c).st := by
  unfold declareSilence
  repeat' first
    | with_reducible assumption | with_reducible refine closed_reportCar H ?_
      | with_reducible refine closed_countCar H ?_ | with_reducible refine closed_silenceBy H ?_
      | with_reducible refine H.car ?_ ?_ | exact fun _ => rfl | split
      | dsimp only [Work.up_st, Work.noteRs_st, Work.noteSs_st, Work.noteBoth_st, begin_st]

theorem closed_dropCommand (H : Closed P) {w : Work} {c : CarId} {cmd : Command} (h : P w.st) :
    P (dropCommand w c cmd).st := by
  unfold dropCommand
  repeat' first
    | with_reducible assumption | with_reducible refine closed_reportCar H ?_
      | with_reducible refine closed_handSheds H ?_ | with_reducible refine closed_parkDropped H ?_
      | with_reducible refine closed_serveDropped H ?_ | with_reducible refine closed_replaceHandBack H ?_ | split
      | dsimp only [Work.up_st, Work.noteRs_st, Work.noteSs_st, Work.noteBoth_st, begin_st]

theorem closed_missedCommand (H : Closed P) {w : Work} {c : CarId} {cmd : Command} (h : P w.st) :
    P (missedCommand w c cmd).st := by
  unfold missedCommand
  repeat' first
    | with_reducible assumption | with_reducible refine closed_alterLink H ?_
      | with_reducible refine closed_dropCommand H ?_ | split
      | dsimp only [Work.up_st, Work.noteRs_st, Work.noteSs_st, Work.noteBoth_st, begin_st]

theorem closed_missedRequest (H : Closed P) {w : Work} {c : CarId} {q : Request} (h : P w.st) :
    P (missedRequest w c q).st := by
  unfold missedRequest
  repeat' first
    | with_reducible assumption | with_reducible refine closed_missedCommand H ?_ | split


theorem closed_handMiss (H : Closed P) {w : Work} {x : Exchange} {order : DropOrder} (h : P w.st) :
    P (handMiss w x order).st := by
  unfold handMiss
  repeat' first
    | with_reducible assumption | with_reducible refine closed_declareSilence H ?_
      | with_reducible refine closed_missedRequest H ?_ | split
      | dsimp only [Work.up_st, Work.noteRs_st, Work.noteSs_st, Work.noteBoth_st, begin_st]

theorem closed_missExchange (H : Closed P) {s : State} {k : Link} {order : DropOrder} (h : P s) :
    P (missExchange s k order) := by
  unfold missExchange
  repeat' first
    | with_reducible assumption | with_reducible refine closed_completeWith H ?_
      | with_reducible refine closed_endMissed H ?_ | with_reducible refine closed_handMiss H ?_ | split
      | dsimp only [Work.up_st, Work.noteRs_st, Work.noteSs_st, Work.noteBoth_st, begin_st]

theorem closed_expireHold (H : Closed P) {w : Work} {c : CarId} (h : P w.st) :
    P (expireHold w c).st := by
  unfold expireHold
  repeat' first
    | with_reducible assumption | with_reducible refine closed_emptySlot H ?_
      | with_reducible refine closed_failCar H ?_ | with_reducible refine closed_reportCar H ?_
      | with_reducible refine closed_releaseEntry H ?_
      | dsimp only [Work.up_st, Work.noteRs_st, Work.noteSs_st, Work.noteBoth_st, begin_st]

end Sys2Proof.Machine
end

