-- ==== Sys2Proof/Laws/Tables.lean ====
section
/-! SUPPORT. Reading and writing tables of fixed length, and the list of all indices. -/

namespace Sys2Proof

theorem listOf_get {α : Type} : ∀ (n : Nat) (f : Fin n → α) (i : Nat) (h : i < n) (h' : i < (listOf n f).length),
    (listOf n f)[i] = f ⟨i, h⟩
  | 0, _, _, h, _ => absurd h (Nat.not_lt_zero _)
  | n + 1, f, 0, _, _ => by simp [listOf]
  | n + 1, f, i + 1, h, h' => by
    have hi : i < n := by omega
    simp only [listOf, List.getElem_cons_succ]
    rw [listOf_get n (fun i => f i.succ) i hi]
    rfl

/-- A tabulated table holds `f i` for each `i`. -/
@[simp] theorem Table.tabulate_at {α : Type} {n : Nat} (f : Fin n → α) (i : Fin n) : (Table.tabulate f).at i = f i := by
  unfold Table.at Table.tabulate
  simp [listOf_get n f i.val i.isLt]

/-- What was put is read. -/
@[simp] theorem Table.put_at_same {α : Type} {n : Nat} (t : Table α n) (i : Fin n) (a : α) : (t.put i a).at i = a := by
  simp [Table.at, Table.put]

/-- A put leaves every other place alone. -/
@[simp] theorem Table.put_at_other {α : Type} {n : Nat} (t : Table α n) (i j : Fin n) (a : α) (h : j ≠ i) :
    (t.put i a).at j = t.at j := by
  have : i.val ≠ j.val := fun e => h (Fin.ext e.symm)
  simp [Table.at, Table.put, Vector.getElem_set, this]

/-- A put in both cases. -/
theorem Table.put_at {α : Type} {n : Nat} (t : Table α n) (i j : Fin n) (a : α) :
    (t.put i a).at j = if j = i then a else t.at j := by
  by_cases h : j = i
  · subst h; simp
  · simp [h]

/-- What was changed is read. -/
@[simp] theorem Table.alter_at_same {α : Type} {n : Nat} (t : Table α n) (i : Fin n) (f : α → α) :
    (t.alter i f).at i = f (t.at i) := by simp [Table.alter]

/-- A change leaves every other place alone. -/
@[simp] theorem Table.alter_at_other {α : Type} {n : Nat} (t : Table α n) (i j : Fin n) (f : α → α) (h : j ≠ i) :
    (t.alter i f).at j = t.at j := by simp [Table.alter, h]

/-- A change in both cases. -/
theorem Table.alter_at {α : Type} {n : Nat} (t : Table α n) (i j : Fin n) (f : α → α) :
    (t.alter i f).at j = if j = i then f (t.at i) else t.at j := by simp [Table.alter, Table.put_at]

/-- A constant table. -/
@[simp] theorem Table.const_at {α : Type} (n : Nat) (a : α) (i : Fin n) : (Table.const n a).at i = a := by
  simp [Table.const]

/-- A mapped table. -/
@[simp] theorem Table.mapAll_at {α β : Type} {n : Nat} (t : Table α n) (f : Fin n → α → β) (i : Fin n) :
    (t.mapAll f).at i = f i (t.at i) := by simp [Table.mapAll]

/-- Tables that agree everywhere are equal. -/
theorem Table.ext_at {α : Type} {n : Nat} {t u : Table α n} (h : ∀ i, t.at i = u.at i) : t = u := by
  apply Vector.ext
  intro i hi
  exact h ⟨i, hi⟩

theorem mem_listOf {α : Type} : ∀ (n : Nat) (f : Fin n → α) (a : α), a ∈ listOf n f ↔ ∃ i, f i = a
  | 0, _, _ => by simp [listOf]
  | n + 1, f, a => by
    simp only [listOf, List.mem_cons, mem_listOf n]
    constructor
    · rintro (rfl | ⟨i, rfl⟩)
      · exact ⟨0, rfl⟩
      · exact ⟨i.succ, rfl⟩
    · rintro ⟨i, rfl⟩
      rcases Fin.eq_zero_or_eq_succ i with rfl | ⟨j, rfl⟩
      · exact Or.inl rfl
      · exact Or.inr ⟨j, rfl⟩

/-- Every index is in the list of all. -/
@[simp] theorem mem_indices {n : Nat} (i : Fin n) : i ∈ indices n := (mem_listOf n id i).2 ⟨i, rfl⟩

theorem listOf_nodup {α : Type} : ∀ (n : Nat) (f : Fin n → α), Function.Injective f → (listOf n f).Nodup
  | 0, _, _ => by simp [listOf]
  | n + 1, f, h => by
    simp only [listOf, List.nodup_cons, mem_listOf]
    refine ⟨?_, listOf_nodup n _ (fun i j e => Fin.succ_injective n (h e))⟩
    rintro ⟨i, e⟩
    exact absurd (h e) (Fin.succ_ne_zero i)

/-- No index stands twice in the list of all. -/
theorem indices_nodup (n : Nat) : (indices n).Nodup := listOf_nodup n id Function.injective_id

end Sys2Proof
end

