-- ==== Sys2Proof/Laws/Fixed.lean ====
section
/-! SUPPORT. What the end of an event leaves alone: the configuration, the lines, the capacity, the store, the host's side of
the port, what the cars have reported; and what it does in HALTED. -/

namespace Sys2Proof.Machine

/-- The part of the state that no operation below the Capacity Unit, the Line Qualifier, the Plan Store and the requests
changes. -/
structure Fixed where
  pending : List Instr
  time : Time
  setup : Setup
  lines : Table LineState 8
  cap : Capacity
  store : Store
  rateInUse : Nat
  framer : Framer
  restart : Option Bool
  replies : List Reply
  tx : Option TxFrame
  dipFlag : Bool
  counts : Table Nat 8

/-- The fixed part of a state. -/
def State.fixed (s : State) : Fixed :=
  ⟨s.pending, s.time, s.setup, s.lines, s.cap, s.store, s.port.rateInUse, s.port.framer, s.port.restart, s.port.replies,
    s.port.tx, s.port.dipFlag, s.svc.counts⟩

theorem Port.append_cases (p : Port) (r : Report) :
    (p.append r).rateInUse = p.rateInUse ∧ (p.append r).framer = p.framer ∧ (p.append r).restart = p.restart
      ∧ (p.append r).replies = p.replies ∧ (p.append r).tx = p.tx ∧ (p.append r).dipFlag = p.dipFlag := by
  unfold Port.append
  repeat' split
  all_goals exact ⟨rfl, rfl, rfl, rfl, rfl, rfl⟩

/-- A report placed changes the report queue and the gap flag alone. -/
theorem Port.place_cases (p : Port) (r : Report) :
    (p.place r).rateInUse = p.rateInUse ∧ (p.place r).framer = p.framer ∧ (p.place r).restart = p.restart
      ∧ (p.place r).replies = p.replies ∧ (p.place r).tx = p.tx ∧ (p.place r).dipFlag = p.dipFlag := by
  unfold Port.place
  split
  · split
    · exact ⟨rfl, rfl, rfl, rfl, rfl, rfl⟩
    · exact Port.append_cases p r
  · exact Port.append_cases p r

@[simp] theorem queueReport_fixed (s : State) (r : Report) : (queueReport s r).fixed = s.fixed := by
  obtain ⟨h1, h2, h3, h4, h5, h6⟩ := Port.place_cases s.port r
  simp only [State.fixed, queueReport, State.setPort, h1, h2, h3, h4, h5, h6]

/-- The fixed part is kept by every primitive update. -/
theorem closed_fixed (k : Fixed) : Closed (fun s => s.fixed = k) where
  car _ h := h
  carsAll _ h := h
  link h := h
  hist h := h
  plan h := h
  ret h := h
  svc e h := by subst h; simp only [State.fixed, State.setSvc, e]
  inds h := h
  report h := by rw [queueReport_fixed]; exact h
  add _ h := h
  change _ _ h := h
  remove h := h
  cleared h := h
  flags _ _ _ _ h := h

/-- What a car has reported, and its hold-out flag, are kept by every primitive update. -/
theorem closed_sensed (c : CarId) (k : Option CarRecord) :
    Closed (fun s => (record s c).map CarRecord.sensed = k) where
  car {s d f} hf h := by
    simp only [record, alterCar, State.setCars_cars, Table.alter_at] at *
    rw [← h]
    split
    · rename_i e
      rw [e]
      cases s.cars.at d with
      | none => rfl
      | some r => exact congrArg some (hf r)
    · rfl
  carsAll {s f} hf h := by
    simp only [record, alterCars, State.setCars_cars, Table.mapAll_at] at *
    rw [← h]
    cases s.cars.at c with
    | none => rfl
    | some r => exact congrArg some (hf c r)
  link h := h
  hist h := h
  plan h := h
  ret h := h
  svc _ h := h
  inds h := h
  report h := h
  add _ h := h
  change _ _ h := h
  remove h := h
  cleared h := h
  flags _ _ _ _ h := h

/-- The end of an event keeps the fixed part. -/
theorem completeWith_fixed (w : Work) (renew : Option CarId) : (completeWith w renew).fixed = w.st.fixed :=
  closed_completeWith (closed_fixed w.st.fixed) rfl

/-- The end of an event keeps the fixed part. -/
theorem complete_fixed (w : Work) : (complete w).fixed = w.st.fixed := completeWith_fixed w none

/-- The end of an event keeps what a car has reported and its hold-out flag. -/
theorem completeWith_sensed (w : Work) (renew : Option CarId) (c : CarId) :
    (record (completeWith w renew) c).map CarRecord.sensed = (record w.st c).map CarRecord.sensed :=
  closed_completeWith (closed_sensed c _) rfl

@[simp] theorem complete_pending (w : Work) : (complete w).pending = w.st.pending := congrArg Fixed.pending (complete_fixed w)
@[simp] theorem complete_time (w : Work) : (complete w).time = w.st.time := congrArg Fixed.time (complete_fixed w)
@[simp] theorem complete_setup (w : Work) : (complete w).setup = w.st.setup := congrArg Fixed.setup (complete_fixed w)
@[simp] theorem complete_lines (w : Work) : (complete w).lines = w.st.lines := congrArg Fixed.lines (complete_fixed w)
@[simp] theorem complete_cap (w : Work) : (complete w).cap = w.st.cap := congrArg Fixed.cap (complete_fixed w)
@[simp] theorem complete_store (w : Work) : (complete w).store = w.st.store := congrArg Fixed.store (complete_fixed w)
@[simp] theorem complete_replies (w : Work) : (complete w).port.replies = w.st.port.replies :=
  congrArg Fixed.replies (complete_fixed w)
@[simp] theorem complete_framer (w : Work) : (complete w).port.framer = w.st.port.framer :=
  congrArg Fixed.framer (complete_fixed w)
@[simp] theorem complete_restart (w : Work) : (complete w).port.restart = w.st.port.restart :=
  congrArg Fixed.restart (complete_fixed w)
@[simp] theorem complete_tx (w : Work) : (complete w).port.tx = w.st.port.tx := congrArg Fixed.tx (complete_fixed w)
@[simp] theorem complete_dipFlag (w : Work) : (complete w).port.dipFlag = w.st.port.dipFlag :=
  congrArg Fixed.dipFlag (complete_fixed w)

@[simp] theorem complete_counts (w : Work) : (complete w).svc.counts = w.st.svc.counts :=
  congrArg Fixed.counts (complete_fixed w)

/-- In HALTED the end of an event moves the indication lines alone. -/
theorem complete_halted (w : Work) (h : w.st.plan.state = .halted) : complete w = driveLines w.st := by
  have hp : planRun w = w := by simp [planRun, planSteps, planExit, h]
  have hg : (grantWork w).st = w.st := by
    simp only [grantWork, hp]
    have hq : sequencerWork w = w := by simp [sequencerWork, granting, h]
    have hs : selectorWork w = w := by simp [selectorWork, maySelect, h]
    repeat' split
    all_goals simp only [hq, hs]
  have ha : arbiters w.st = w.st := by simp [arbiters, arbitrate, driven, h]
  simp [complete, completeWith, renewFor, hg, ha]

/-- A request taken: nothing after an accepted RESTART, no action or reply on overrun, otherwise its rule and its reply. -/
theorem takeFrame_cases (s : State) (kind tag : Byte) (rule : State → Taken) :
    (s.port.restart.isSome ∧ takeFrame s kind tag rule = s)
      ∨ (s.port.restart = none ∧ 8 ≤ s.port.replies.length ∧ takeFrame s kind tag rule = setFramer s .hunting)
      ∨ (s.port.restart = none ∧ s.port.replies.length < 8
        ∧ takeFrame s kind tag rule = answer kind tag (rule (setFramer s .hunting))) := by
  unfold takeFrame
  by_cases h : s.port.restart.isSome
  · exact Or.inl ⟨h, if_pos h⟩
  · have hn : s.port.restart = none := by simpa using h
    by_cases ho : 8 ≤ s.port.replies.length
    · refine Or.inr (Or.inl ⟨hn, ho, ?_⟩)
      simp [hn, setFramer, Config.replyRoom, ho]
    · refine Or.inr (Or.inr ⟨hn, by omega, ?_⟩)
      simp [hn, setFramer, Config.replyRoom, ho]

end Sys2Proof.Machine
end

