-- ==== Sys2Proof/Laws/PerInstr.lean ====
section
/-! SUPPORT. Statements about every command, one lemma for each constructor. -/

namespace Sys2Proof.Laws.Unspelled

/-- No word spells the command: no row of the table of operations and events has bits. -/
def Statement (i : Instr) : Prop := ∀ nbits w, decodeTableWord nbits w ≠ some i

end Sys2Proof.Laws.Unspelled

open Sys2Proof

theorem Sys2Proof.Laws.Unspelled.powerOnReset (cut : SaveCut) :
    Sys2Proof.Laws.Unspelled.Statement (.powerOnReset cut) := by
  intro _ _ h; cases h

theorem Sys2Proof.Laws.Unspelled.externalReset (cut : SaveCut) :
    Sys2Proof.Laws.Unspelled.Statement (.externalReset cut) := by
  intro _ _ h; cases h

theorem Sys2Proof.Laws.Unspelled.supplyDip :
    Sys2Proof.Laws.Unspelled.Statement (.supplyDip) := by
  intro _ _ h; cases h

theorem Sys2Proof.Laws.Unspelled.saveEnd (readBack : PlanImage) :
    Sys2Proof.Laws.Unspelled.Statement (.saveEnd readBack) := by
  intro _ _ h; cases h

theorem Sys2Proof.Laws.Unspelled.lineSample (line : LineId) (pin : PinLevel) :
    Sys2Proof.Laws.Unspelled.Statement (.lineSample line pin) := by
  intro _ _ h; cases h

theorem Sys2Proof.Laws.Unspelled.settleExpiry :
    Sys2Proof.Laws.Unspelled.Statement (.settleExpiry) := by
  intro _ _ h; cases h

theorem Sys2Proof.Laws.Unspelled.carReply (link : Sys2Proof.Link) (reply : CarReply) :
    Sys2Proof.Laws.Unspelled.Statement (.carReply link reply) := by
  intro _ _ h; cases h

theorem Sys2Proof.Laws.Unspelled.carReplyInvalid (link : Sys2Proof.Link) (reply : CarReply) :
    Sys2Proof.Laws.Unspelled.Statement (.carReplyInvalid link reply) := by
  intro _ _ h; cases h

theorem Sys2Proof.Laws.Unspelled.missedExchange (link : Sys2Proof.Link) (order : DropOrder) :
    Sys2Proof.Laws.Unspelled.Statement (.missedExchange link order) := by
  intro _ _ h; cases h

theorem Sys2Proof.Laws.Unspelled.silentHoldExpiry (car : CarId) :
    Sys2Proof.Laws.Unspelled.Statement (.silentHoldExpiry car) := by
  intro _ _ h; cases h

theorem Sys2Proof.Laws.Unspelled.startWindowExpiry (car : CarId) :
    Sys2Proof.Laws.Unspelled.Statement (.startWindowExpiry car) := by
  intro _ _ h; cases h

theorem Sys2Proof.Laws.Unspelled.historySample :
    Sys2Proof.Laws.Unspelled.Statement (.historySample) := by
  intro _ _ h; cases h

theorem Sys2Proof.Laws.Unspelled.deadlineExpiry (car : CarId) :
    Sys2Proof.Laws.Unspelled.Statement (.deadlineExpiry car) := by
  intro _ _ h; cases h

theorem Sys2Proof.Laws.Unspelled.spacingExpiry :
    Sys2Proof.Laws.Unspelled.Statement (.spacingExpiry) := by
  intro _ _ h; cases h

theorem Sys2Proof.Laws.Unspelled.restoreTimeout :
    Sys2Proof.Laws.Unspelled.Statement (.restoreTimeout) := by
  intro _ _ h; cases h

theorem Sys2Proof.Laws.Unspelled.frameGapTimeout :
    Sys2Proof.Laws.Unspelled.Statement (.frameGapTimeout) := by
  intro _ _ h; cases h

theorem Sys2Proof.Laws.Unspelled.frameDiscarded (rx : List RxItem) :
    Sys2Proof.Laws.Unspelled.Statement (.frameDiscarded rx) := by
  intro _ _ h; cases h

theorem Sys2Proof.Laws.Unspelled.unknownKind (kind tag : Byte) (body : List Byte) :
    Sys2Proof.Laws.Unspelled.Statement (.unknownKind kind tag body) := by
  intro _ _ h; cases h

theorem Sys2Proof.Laws.Unspelled.transmitEnd :
    Sys2Proof.Laws.Unspelled.Statement (.transmitEnd) := by
  intro _ _ h; cases h

theorem Sys2Proof.Laws.Unspelled.restartTaken :
    Sys2Proof.Laws.Unspelled.Statement (.restartTaken) := by
  intro _ _ h; cases h

theorem Sys2Proof.Laws.Unspelled.identify (tag : Byte) (body : List Byte) :
    Sys2Proof.Laws.Unspelled.Statement (.identify tag body) := by
  intro _ _ h; cases h

theorem Sys2Proof.Laws.Unspelled.setLimits (tag : Byte) (body : Body LimitsForm) :
    Sys2Proof.Laws.Unspelled.Statement (.setLimits tag body) := by
  intro _ _ h; cases h

theorem Sys2Proof.Laws.Unspelled.setCar (tag : Byte) (body : Body CarForm) :
    Sys2Proof.Laws.Unspelled.Statement (.setCar tag body) := by
  intro _ _ h; cases h

theorem Sys2Proof.Laws.Unspelled.dropCar (tag : Byte) (body : Body Nat) :
    Sys2Proof.Laws.Unspelled.Statement (.dropCar tag body) := by
  intro _ _ h; cases h

theorem Sys2Proof.Laws.Unspelled.setGenset (tag : Byte) (body : Body GensetForm) :
    Sys2Proof.Laws.Unspelled.Statement (.setGenset tag body) := by
  intro _ _ h; cases h

theorem Sys2Proof.Laws.Unspelled.setLine (tag : Byte) (body : Body LineForm) :
    Sys2Proof.Laws.Unspelled.Statement (.setLine tag body) := by
  intro _ _ h; cases h

theorem Sys2Proof.Laws.Unspelled.setIndicatorFull (tag : Byte) (body : Body IndPart) :
    Sys2Proof.Laws.Unspelled.Statement (.setIndicatorFull tag body) := by
  intro _ _ h; cases h

theorem Sys2Proof.Laws.Unspelled.setIndicatorValue (tag : Byte) (body : Body IndValueForm) :
    Sys2Proof.Laws.Unspelled.Statement (.setIndicatorValue tag body) := by
  intro _ _ h; cases h

theorem Sys2Proof.Laws.Unspelled.arm (tag : Byte) (body : List Byte) :
    Sys2Proof.Laws.Unspelled.Statement (.arm tag body) := by
  intro _ _ h; cases h

theorem Sys2Proof.Laws.Unspelled.halt (tag : Byte) (body : List Byte) :
    Sys2Proof.Laws.Unspelled.Statement (.halt tag body) := by
  intro _ _ h; cases h

theorem Sys2Proof.Laws.Unspelled.savePlan (tag : Byte) (body : List Byte) :
    Sys2Proof.Laws.Unspelled.Statement (.savePlan tag body) := by
  intro _ _ h; cases h

theorem Sys2Proof.Laws.Unspelled.restart (tag : Byte) (body : List Byte) :
    Sys2Proof.Laws.Unspelled.Statement (.restart tag body) := by
  intro _ _ h; cases h

theorem Sys2Proof.Laws.Unspelled.trimSet (tag : Byte) (body : Body TrimForm) :
    Sys2Proof.Laws.Unspelled.Statement (.trimSet tag body) := by
  intro _ _ h; cases h

theorem Sys2Proof.Laws.Unspelled.setServiceCount (tag : Byte) (body : Body CountForm) :
    Sys2Proof.Laws.Unspelled.Statement (.setServiceCount tag body) := by
  intro _ _ h; cases h

theorem Sys2Proof.Laws.Unspelled.holdOut (tag : Byte) (body : Body Nat) :
    Sys2Proof.Laws.Unspelled.Statement (.holdOut tag body) := by
  intro _ _ h; cases h

theorem Sys2Proof.Laws.Unspelled.readmit (tag : Byte) (body : Body Nat) :
    Sys2Proof.Laws.Unspelled.Statement (.readmit tag body) := by
  intro _ _ h; cases h

theorem Sys2Proof.Laws.Unspelled.releaseGroup (tag : Byte) (body : List Byte) :
    Sys2Proof.Laws.Unspelled.Statement (.releaseGroup tag body) := by
  intro _ _ h; cases h

theorem Sys2Proof.Laws.Unspelled.lineReport (tag : Byte) (body : Body (List ReportItem)) :
    Sys2Proof.Laws.Unspelled.Statement (.lineReport tag body) := by
  intro _ _ h; cases h

theorem Sys2Proof.Laws.Unspelled.capture (tag : Byte) (body : List Byte) :
    Sys2Proof.Laws.Unspelled.Statement (.capture tag body) := by
  intro _ _ h; cases h

theorem Sys2Proof.Laws.Unspelled.captureRelease (tag : Byte) (body : List Byte) :
    Sys2Proof.Laws.Unspelled.Statement (.captureRelease tag body) := by
  intro _ _ h; cases h

theorem Sys2Proof.Laws.Unspelled.queryPlan (tag : Byte) (body : List Byte) :
    Sys2Proof.Laws.Unspelled.Statement (.queryPlan tag body) := by
  intro _ _ h; cases h

theorem Sys2Proof.Laws.Unspelled.queryCar (tag : Byte) (body : Body Nat) :
    Sys2Proof.Laws.Unspelled.Statement (.queryCar tag body) := by
  intro _ _ h; cases h

theorem Sys2Proof.Laws.Unspelled.queryAccountSummary (tag : Byte) (body : Body AccountPart) :
    Sys2Proof.Laws.Unspelled.Statement (.queryAccountSummary tag body) := by
  intro _ _ h; cases h

theorem Sys2Proof.Laws.Unspelled.queryAccountEntries (tag : Byte) (body : Body Nat) :
    Sys2Proof.Laws.Unspelled.Statement (.queryAccountEntries tag body) := by
  intro _ _ h; cases h

theorem Sys2Proof.Laws.Unspelled.queryQueue (tag : Byte) (body : Body Nat) :
    Sys2Proof.Laws.Unspelled.Statement (.queryQueue tag body) := by
  intro _ _ h; cases h

theorem Sys2Proof.Laws.Unspelled.queryLines (tag : Byte) (body : List Byte) :
    Sys2Proof.Laws.Unspelled.Statement (.queryLines tag body) := by
  intro _ _ h; cases h

theorem Sys2Proof.Laws.Unspelled.readHistory (tag : Byte) (body : Body HistoryForm) :
    Sys2Proof.Laws.Unspelled.Statement (.readHistory tag body) := by
  intro _ _ h; cases h

theorem Sys2Proof.Laws.Unspelled.ackFlags (tag : Byte) (body : List Byte) :
    Sys2Proof.Laws.Unspelled.Statement (.ackFlags tag body) := by
  intro _ _ h; cases h

theorem Sys2Proof.Laws.Unspelled.transmitStart :
    Sys2Proof.Laws.Unspelled.Statement (.transmitStart) := by
  intro _ _ h; cases h
end

