-- ==== Sys2Proof/WellFormed.lean ====
section
/-! DEFINITION. What a command's operands must be for the command to name an event the manual describes. `exec` is total and
does not depend on it. -/

namespace Sys2Proof

/-- A frame's body is at most 250 bytes (Table 10-1). -/
def WellFormed.bodyFits (body : List Byte) : Bool := body.length ≤ 250

/-- A written image's contents hold a plan id and an autostart flag (R179). -/
def WellFormed.imageFits (im : PlanImage) : Bool := im.contents.autostart.isSome && im.contents.planId.isSome

/-- A LINE-REPORT's items fit one frame: each takes at least one byte (Table 10-1). -/
def WellFormed.itemsFit : Body (List ReportItem) → Bool
  | .fields items => items.length ≤ 250
  | .badLength => true

/-- A SET-CAR's landing ranges fit one frame (Table 10-1). -/
def WellFormed.rangesFit : Body CarForm → Bool
  | .fields f => f.ranges.length ≤ 250
  | .badLength => true

/-- The operands of a command are ones the manual's events can have. -/
def wellFormed : Instr → Bool
  | .powerOnReset _ => true
  | .externalReset _ => true
  | .saveEnd im => WellFormed.imageFits im
  | .frameDiscarded rx => !rx.isEmpty
  | .unknownKind kind _ body => !(Machine.requestCodes.contains kind) && WellFormed.bodyFits body
  | .identify _ b => WellFormed.bodyFits b
  | .arm _ b => WellFormed.bodyFits b
  | .halt _ b => WellFormed.bodyFits b
  | .savePlan _ b => WellFormed.bodyFits b
  | .restart _ b => WellFormed.bodyFits b
  | .releaseGroup _ b => WellFormed.bodyFits b
  | .capture _ b => WellFormed.bodyFits b
  | .captureRelease _ b => WellFormed.bodyFits b
  | .queryPlan _ b => WellFormed.bodyFits b
  | .queryLines _ b => WellFormed.bodyFits b
  | .ackFlags _ b => WellFormed.bodyFits b
  | .setCar _ b => WellFormed.rangesFit b
  | .lineReport _ b => WellFormed.itemsFit b
  | .supplyDip => true
  | .lineSample _ _ => true
  | .settleExpiry => true
  | .carReply _ _ => true
  | .carReplyInvalid _ _ => true
  | .missedExchange _ _ => true
  | .silentHoldExpiry _ => true
  | .startWindowExpiry _ => true
  | .historySample => true
  | .deadlineExpiry _ => true
  | .spacingExpiry => true
  | .restoreTimeout => true
  | .frameGapTimeout => true
  | .transmitEnd => true
  | .restartTaken => true
  | .setLimits _ _ => true
  | .dropCar _ _ => true
  | .setGenset _ _ => true
  | .setLine _ _ => true
  | .setIndicatorFull _ _ => true
  | .setIndicatorValue _ _ => true
  | .trimSet _ _ => true
  | .setServiceCount _ _ => true
  | .holdOut _ _ => true
  | .readmit _ _ => true
  | .queryCar _ _ => true
  | .queryAccountSummary _ _ => true
  | .queryAccountEntries _ _ => true
  | .queryQueue _ _ => true
  | .readHistory _ _ => true
  | .transmitStart => true

end Sys2Proof
end

