-- ==== Sys2Proof/Tests/Slice0.lean ====
section
/-! SUPPORT. Tests: the checks of WellFormed, the manual's worked figures and sequences, and for each statement with premises a state
and operands that meet them together. -/

namespace Sys2Proof.Tests

open Sys2Proof.Machine Sys2Proof.Safety

set_option Elab.async false

/-! ## WellFormed -/

/-- An image whose contents lack the plan id and the autostart flag (R179). -/
def unfit : PlanImage := ⟨1, 1, 0, [], none, Setup.empty⟩

theorem test_unfit_image_refused : wellFormed (.saveEnd unfit) = false := by decide +kernel

theorem test_long_body_refused : wellFormed (.arm 1 (List.replicate 251 0)) = false := by decide +kernel

theorem test_nothing_received_refused : wellFormed (.frameDiscarded []) = false := by decide +kernel

theorem test_known_kind_refused : wellFormed (.unknownKind 0x20 1 []) = false := by decide +kernel

theorem test_long_unknown_body_refused : wellFormed (.unknownKind 0x99 1 (List.replicate 251 0)) = false := by decide +kernel

theorem test_many_ranges_refused :
    wellFormed (.setCar 1 (.fields
      ⟨1, none, none, 1, 1, List.replicate 251 ⟨0, 0⟩, 0, 50, 45, 50, 200, none, 80, 3000, 1000, 6000, 4, 10, 0⟩)) = false := by
  decide +kernel

theorem test_many_items_refused :
    wellFormed (.lineReport 1 (.fields (List.replicate 251 ⟨1, some .active⟩))) = false := by decide +kernel

/-! ## Worked figures (sections 5.7, 2.10, 8.6; CRC check value of R167's polynomial) -/

/-- The reference car of section 5.7.1. -/
def car7 : CarProfile :=
  { CarProfile.defaults with
    enrolled := true, drop := 7, ranges := [⟨0, 40⟩], recallFloor := 2, power := 550, balance := 45, loss := 80, inrush := 250,
    regenCapable := true, efficiency := 85, rank := 1 }

/-- The car at the limits of section 5.7.5. -/
def largest : CarProfile :=
  { car7 with power := 4000, balance := 55, loss := 300, inrush := 350, efficiency := 100 }

theorem test_down_run_at_80 : runFigures car7 .down (some 80) = ⟨385, 44, 298⟩ := by decide +kernel

theorem test_up_run_at_100 : runFigures car7 .up (some 100) = ⟨1485, 594, 0⟩ := by decide +kernel

theorem test_unknown_load : runFigures car7 .down none = ⟨1237, 495, 681⟩ ∧ runFigures car7 .up none = ⟨2111, 845, 383⟩ := by
  decide +kernel

theorem test_level_run : runFigures car7 .level (some 30) = ⟨486, 195, 128⟩ := by decide +kernel

theorem test_worst_figures : worstFigures car7 = ⟨2111, 681⟩ ∧ worstFigures largest = ⟨25200, 6000⟩ := by decide +kernel

theorem test_capacity_rounds_down : capacityOf 28000 10 0 = 25200 ∧ capacityOf 12000 10 20 = 8640 := by decide +kernel

/-- The example of section 2.5. -/
theorem test_capacity_with_derate : capacityOf 18270 15 10 = 13976 ∧ capacityOf 18270 15 0 = 15529 := by decide +kernel

/-- The allowance of R138's example. -/
theorem test_run_allowance : runAllowance car7 28 25 = 46250 := by decide +kernel

/-- PRESUMED, from outside the manual: the check value of the CRC whose polynomial, initial value and bit order R167 gives, for the
digits 1 to 9. -/
theorem test_crc : crc16 [0x31, 0x32, 0x33, 0x34, 0x35, 0x36, 0x37, 0x38, 0x39] = 0x29B1 := by decide +kernel

/-- PRESUMED, from outside the manual: the check value of the CRC that R179 gives, for the same digits. -/
theorem test_crc32 : crc32 [0x31, 0x32, 0x33, 0x34, 0x35, 0x36, 0x37, 0x38, 0x39] = 0xCBF43926 := by decide +kernel

/-! ## States -/

/-- A configuration that passes the commission check: the reference car on a set of 60,000 pu. -/
def plan1 : Setup :=
  { Setup.empty with
    profiles := Setup.empty.profiles.put 0 car7
    sets := Setup.empty.sets.put 0 ⟨true, 60000⟩ }

/-- It as a save has it, with an autostart flag and a plan id. -/
def plan2 (auto : Bool) : Setup := { plan1 with autostart := some auto, planId := some 1047 }

theorem copy_valid (su : Setup) : ValidImage (copyOf su) := ⟨rfl, .inl rfl, rfl, rfl⟩

theorem bare_invalid (su : Setup) : ¬ ValidImage { copyOf su with check := none } := fun h => nomatch h.2.2.2

/-- HALTED on that configuration. -/
def halted : State :=
  { State.reset with
    setup := plan1
    cars := State.reset.cars.put 0 (some CarRecord.initial) }

/-- A record of a car in contact, stopped at floor 10, in a state. -/
def heard (st : CarState) : CarRecord :=
  { CarRecord.initial with
    state := st, floor := some 10, between := some false, motion := some .stopped, door := some .closed, load := some 80,
    authority := some .sequencer, linkStatus := .inContact }

/-- The plan in a state with the set ONLINE, UTIL absent, and car 1 in a state. -/
def armed (p : PlanState) (r : CarRecord) : State :=
  { halted with
    plan := { halted.plan with state := p }
    cap := ⟨halted.cap.sets.put 0 ⟨100, .online⟩, none, 54000, 6000⟩
    cars := halted.cars.put 0 (some r) }

/-- A line whose sample is due and which shows a level for the second time against its qualified level. -/
def turning (s : State) (l : LineId) (was now : Level) : State :=
  { s with lines := s.lines.put l ⟨some was, some now, none, none, none, 0, 0⟩ }

/-- UTIL qualified present. -/
def withUtil (s : State) : State := { s with lines := s.lines.put utilLine ⟨some .active, none, none, none, none, 0, 0⟩ }

/-- RETX qualified active. -/
def withRetx (s : State) : State := { s with lines := s.lines.put retxLine ⟨some .active, none, none, none, none, 0, 0⟩ }

/-- A poll of car 1 in flight on link A. -/
def polling (s : State) : State := { s with link := { s.link with a := ⟨some ⟨0, .poll⟩, 0⟩ } }

/-- A command for car 1 in flight on link A. -/
def sending (s : State) (cmd : Command) : State := { s with link := { s.link with a := ⟨some ⟨0, .command cmd⟩, 0⟩ } }

/-- A reply with its CRC right (R56). -/
def sealed (r : CarReply) : CarReply := { r with crc := crc16 (replyCovered r) }

/-- Car 1's reply to a poll, with the floor, the bits and the authority of the status record. -/
def reply (floor bits authority : Byte) : CarReply := sealed ⟨7, 0, 0, .poll, .none, floor, bits, 80, authority, 0, 0, 0⟩

/-- Car 1's verdict on a command with tag 1, with the floor and the bits of the status record. -/
def verdictOn (kind : CmdKind) (v : Verdict) (floor bits : Byte) : CarReply :=
  sealed ⟨7, 0, 0, .command kind, v, floor, bits, 80, 0, 0, 1, 0⟩

/-- A reply of car 1 to a poll. -/
def reply1 : CarReply := reply 10 0 0

/-- Car 1's RETURN entry in a phase. -/
def run1 (ph : Phase) : Entry :=
  ⟨5, 0, .returning, ph, none, 385, 298, some 44, some 2, 0, if ph = .start then some ⟨0, false⟩ else none, some 0⟩

/-- The account with one entry. -/
def holding (s : State) (e : Entry) : State :=
  { s with acct := ⟨[e], e.draw, e.regen, false, false, false, false, 6⟩ }

/-- The spacing timer running. -/
def spaced (s : State) : State := { s with ret := { s.ret with spacing := some 0 } }

/-! ## Worked sequences -/

/-- Section 1.7.1: UTIL at 731,360, the second INACTIVE sample. -/
def lossOfUtility : State :=
  { (armed .watching (heard .idle)) with
    time := 731360
    setup := { plan1 with lines := plan1.lines.put utilLine ⟨.activeHigh, 80, .wired⟩ }
    lines := State.reset.lines.put utilLine ⟨some .active, some .inactive, some .low, none, none, 4, 731360⟩ }

/-- What a command leaves, the state itself where it stops. -/
def after (c : Instr) (s : State) : State :=
  match exec c s with
  | .next t => t
  | _ => s

theorem test_loss_of_utility :
    ((after (.lineSample utilLine .low) lossOfUtility).lines.at utilLine)
      = ⟨some .inactive, none, some .low, some 731360, none, 5, 731440⟩ := by decide +kernel

/-- Section 1.7.1: LINE-EVENT with line 1, WIRED, INACTIVE, marker clear, time and count, then the plan acts. -/
theorem test_loss_of_utility_reported :
    (after (.lineSample utilLine .low) lossOfUtility).port.reports.head?
      = some (.lineEvent ⟨0, .wired, .inactive, false, 731360, 5⟩)
      ∧ (after (.lineSample utilLine .low) lossOfUtility).plan.state = .settling := by decide +kernel

/-- Section 1.7.3: LBNK, MESSAGE-source, reported ACTIVE at 40,000. -/
def hostBank : State :=
  { halted with time := 40000, setup := { plan1 with lines := plan1.lines.put bankLine ⟨.activeHigh, 20, .message⟩ } }

theorem test_host_reports_bank :
    (after (.lineReport 1 (.fields [⟨6, some .active⟩])) hostBank).lines.at bankLine
      = ⟨some .active, none, none, some 40000, some 40000, 1, 0⟩ := by decide +kernel

/-- A wired line in the same request has the whole of it refused. -/
theorem test_wired_line_refused :
    (after (.lineReport 1 (.fields [⟨6, some .active⟩, ⟨2, some .active⟩])) hostBank).port.replies
      = [⟨0x35, 1, .wrongState, .nothing⟩] := by decide +kernel

/-- A car of the sequence of section 6.9. -/
def moverProfile (drop : Nat) : CarProfile := { CarProfile.defaults with enrolled := true, drop }

/-- An entry of the sequence of section 6.9. -/
def row (permit : Nat) (c : CarId) (k : EntryKind) (ph : Phase) (draw regen : Nat) : Entry :=
  ⟨permit, c, k, ph, none, draw, regen, some draw, some 0, 0, if ph = .start then some ⟨5000, false⟩ else none, some 90000⟩

/-- Section 6.9 as SET2's second INACTIVE sample comes. -/
def tripping : State :=
  let s := armed .returning (heard .running)
  { s with
    setup :=
      { plan1 with
        limits := { plan1.limits with bankRating := 3000, baseLoad := 1500 }
        sets := (plan1.sets.put 0 ⟨true, 12000⟩).put 1 ⟨true, 12000⟩
        profiles := ((((Setup.empty.profiles.put 2 (moverProfile 3)).put 8 (moverProfile 9)).put 10 (moverProfile 11)).put 13
          (moverProfile 14)).put 15 (moverProfile 16) }
    cap := ⟨(s.cap.sets.put 0 ⟨100, .online⟩).put 1 ⟨100, .online⟩, none, 21600, 4500⟩
    lines := (s.lines.put bankLine ⟨some .active, none, none, none, none, 0, 0⟩).put 2
      ⟨some .active, some .inactive, none, none, none, 0, 0⟩
    cars := (((((Table.const 48 none).put 2 (some (heard .deferred))).put 8 (some (heard .running))).put 10
      (some (heard .running))).put 13 (some (heard .starting))).put 15 (some (heard .starting))
    hist := { s.hist with writeIndex := 300 }
    acct := ⟨[row 51 2 .standing .fixed 8000 2000, row 52 8 .returning .run 1200 0, row 53 10 .returning .run 900 350,
      row 54 13 .returning .start 6500 0, row 55 15 .returning .start 4200 0], 20800, 2350, false, false, false, false, 56⟩ }

/-- Section 6.9: permits 55 and 54 are shed, in that order, and the totals stand. -/
theorem test_trip_sheds :
    (let t := after (.lineSample 2 .low) tripping
     (t.cap.c, t.cap.sink, t.acct.kd, projectedDraw t.acct, t.acct.drawOver,
      (t.acct.entries.filter Entry.isShed).map (·.permit))) = (10800, 4500, 20800, 10100, true, [54, 55]) := by decide +kernel

/-- Section 6.9: the report stream, and the alert's shed list. -/
theorem test_trip_reports :
    (after (.lineSample 2 .low) tripping).port.reports.map (fun r =>
      match r with
      | .lineEvent x => ("LINE-EVENT", [x.line.val + 1])
      | .setTrip x => ("SET-TRIP", [x.set.val + 1])
      | .alert x => ("ALERT", x.shed.map (·.permit))
      | .carState x => ("CAR-STATE", [x.car.val + 1])
      | _ => ("", []))
      = [("LINE-EVENT", [3]), ("SET-TRIP", [2]), ("ALERT", [55, 54]), ("CAR-STATE", [16]), ("CAR-STATE", [14])] := by
  decide +kernel

/-- Section 6.9: the trip starts the capture. -/
theorem test_trip_capture :
    (after (.lineSample 2 .low) tripping).hist.capture.map (fun r => (r.state, r.trigger, r.index, r.start, r.length))
      = some (.collecting, .setTrip, 300, 236, 128) := by decide +kernel

/-- Section 5.7.6: car 7 granted from floor 30 at 80 % load. -/
def granting7 : State :=
  let s := spaced (armed .returning { heard .queued with floor := some 30 })
  { s with ret := { s.ret with queue := [⟨0, 4, false, true, 0, 0⟩], nextSeq := 1 } }

theorem test_grant_of_car_7 :
    (let t := after .spacingExpiry granting7
     (t.acct.kd, t.acct.kr, t.ret.queue, stateOf t 0)) = (385, 298, [], some .starting) := by decide +kernel

/-- Section 5.7.6: at speed the draw reservation steps to 44. -/
theorem test_car_7_steps :
    (let t := after (.carReply .a (reply 10 0x10 0)) (polling (spaced (holding (armed .returning (heard .starting)) (run1 .start))))
     (t.acct.kd, t.acct.kr, stateOf t 0)) = (44, 298, some .running) := by decide +kernel

/-- Tables 10-1 and 10-2: a refusal as it is sent. -/
theorem test_refusal_frame :
    portOut (after .transmitStart (after (.identify 9 [0]) halted))
      = some ([0xA5, 1, requestCode .identify, 9, 2] ++ crcField (crc16 [1, requestCode .identify, 9, 2])) := by decide +kernel

/-! ## What meets the premises of the statements

For each statement with premises a state and operands that meet them together, and for one with several clauses the premises of each
clause. -/

/-- HALTED with the reply path at a length. -/
def repliesAt (n : Nat) (s : State) : State := s.setPort { s.port with replies := List.replicate n ⟨0, 0, .ok, .nothing⟩ }

theorem taking_halted : Taking halted := by unfold Taking; decide +kernel
theorem writable_halted : Writable halted := by unfold Writable; decide +kernel

/-- The reply path with room for one reply more. -/
theorem taking_last_room : Taking (repliesAt 7 halted) := by unfold Taking; decide +kernel

theorem taking_armed (p : PlanState) (r : CarRecord) : Taking (armed p r) := ⟨rfl, by show ([] : List Reply).length < 8; decide⟩

theorem witness_StepRunsFrontCommand :
    (halted.setPending [.supplyDip]).pending = [.supplyDip] ∧ State.reset.pending = [] := ⟨rfl, rfl⟩

theorem witness_ConfigurationWrittenInHalted :
    ∃ t, exec (.transmitStart) (armed .service (heard .parked)) = .next t ∧ (armed .service (heard .parked)).plan.state ≠ .halted
      ∧ ¬ IsReset .transmitStart ∧ ¬ IsValueWrite .transmitStart := ⟨_, rfl, by decide, id, id⟩

theorem witness_RequestsNotTaken :
    IsRequest (.identify 1 []) ∧ (halted.setPort { halted.port with restart := some false }).port.restart ≠ none
      ∧ (repliesAt 8 halted).port.restart = none ∧ 8 ≤ (repliesAt 8 halted).port.replies.length :=
  ⟨trivial, by decide +kernel, rfl, by decide +kernel⟩

/-- A store that holds an image, with no save in progress. -/
def storing (im : StoredImage) : State := { halted with store := { halted.store with image := im, save := none } }

/-- A save in progress. -/
def savingPlan : State := { halted with store := { halted.store with save := some plan1 } }

/-- What a reset may find: nothing, a valid image, a save cut short before its check word, one cut short in the read-back with the
image taken as it was written, and with other bytes. -/
theorem witness_ResetLoadsStore :
    Stands (storing .neverWritten) .beforeCheckWord .neverWritten
      ∧ Stands (storing (.written (copyOf (plan2 false)))) .beforeCheckWord (.written (copyOf (plan2 false)))
      ∧ ValidImage (copyOf (plan2 false)) ∧ (copyOf (plan2 false)).contents.autostart ≠ some true
      ∧ Stands savingPlan .beforeCheckWord (.written { copyOf plan1 with check := none })
      ∧ ¬ ValidImage { copyOf plan1 with check := none }
      ∧ Stands savingPlan (.duringReadBack none) (.written (copyOf plan1))
      ∧ Stands savingPlan (.duringReadBack (some [0])) (.written { copyOf plan1 with bytes := [0] }) :=
  ⟨.inl ⟨rfl, rfl⟩, .inl ⟨rfl, rfl⟩, copy_valid _, by show some false ≠ some true; decide, .inr ⟨plan1, rfl, .inl ⟨rfl, rfl⟩⟩,
    bare_invalid _, .inr ⟨plan1, rfl, .inr (.inl ⟨rfl, rfl⟩)⟩, .inr ⟨plan1, rfl, .inr (.inr ⟨_, rfl, rfl⟩)⟩⟩

theorem witness_ResetArmsItself :
    Stands (storing (.written (copyOf (plan2 true)))) .beforeCheckWord (.written (copyOf (plan2 true)))
      ∧ ValidImage (copyOf (plan2 true)) ∧ (copyOf (plan2 true)).contents.autostart = some true
      ∧ commission (copyOf (plan2 true)).contents = none
      ∧ commission (copyOf { Setup.empty with autostart := some true }).contents = some .noCars :=
  ⟨.inl ⟨rfl, rfl⟩, copy_valid _, rfl, by show commission (plan2 true) = none; decide +kernel,
    by show commission { Setup.empty with autostart := some true } = some .noCars; decide +kernel⟩

theorem witness_SavePlanStartsSave :
    Writable halted ∧ Taking halted ∧ ((1 : Byte) = 0 ∧ true = false ∨ (1 : Byte) = 1 ∧ true = true)
      ∧ halted.store.save = none ∧ savingPlan.store.save = some plan1 ∧ { copyOf plan1 with check := none } ≠ copyOf plan1 :=
  ⟨writable_halted, taking_halted, by decide, rfl, rfl, fun h => nomatch congrArg PlanImage.check h⟩

/-- The RESTART reply being sent; `arms` says that the plan was out of HALTED. -/
def restarting (s : State) (arms : Bool) : State :=
  s.setPort { s.port with tx := some (.reply ⟨0x23, 1, .ok, .nothing⟩), restart := some arms }

theorem witness_RestartRebuilds :
    Taking halted ∧ halted.store.save = none ∧ Taking savingPlan ∧ savingPlan.store.save ≠ none
      ∧ (restarting halted false).port.tx = some (.reply ⟨0x23, 1, .ok, .nothing⟩)
      ∧ (restarting halted true).port.restart = some true ∧ commission (restarting halted true).setup = none
      ∧ commission (restarting State.reset true).setup = some .noCars := by unfold Taking; decide +kernel

/-- A line's sample due, with a qualified level and a pending sample. -/
def sampled (q h : Option Level) : State :=
  { armed .watching (heard .idle) with lines := State.reset.lines.put utilLine ⟨q, h, none, none, none, 0, 0⟩ }

theorem no_exit_halted (s : State) (h : s.plan.state = .halted) : NoExit s := by simp [NoExit, h]

theorem no_exit_watching (s : State) (h : s.plan.state = .watching) (hu : effective s utilLine = .active) : NoExit s := by
  simp [NoExit, h, hu]

theorem no_exit_outage (s : State) (h : s.plan.state = .outage) (hu : effective s utilLine = .inactive)
    (hs : ∀ n, (s.cap.sets.at n).status = .offline) : NoExit s := by
  simpa [NoExit, h, hu] using hs

theorem no_exit_service (s : State) (h : s.plan.state = .service) (hg : GeneratorStays s) : NoExit s := by simp [NoExit, h, hg]

theorem no_exit_restoring (s : State) (h : s.plan.state = .restoring) (hu : effective s utilLine = .inactive)
    (hr : effective s retxLine = .active) (hs : ∃ n, (s.cap.sets.at n).status ≠ .offline) : NoExit s := by
  simpa [NoExit, h, hu, hr] using hs

/-- SET1's line turning, with the set in a status. -/
def setTurning (st : SetStatus) (was now : Level) : State :=
  let s := turning (armed .service (heard .parked)) (setLineOf 0) was now
  { s with cap := { s.cap with sets := s.cap.sets.put 0 ⟨100, st⟩ } }

/-- Every case of R6 and R7 for a sample that shows ACTIVE, and a MESSAGE-source line; for the samples that report nothing, a plan that
no exit takes out of HALTED or SERVICE. -/
theorem witness_LineSampled :
    Due (sampled none none).time ((sampled none none).lines.at utilLine).nextSample
      ∧ ((sampled none none).setup.lines.at utilLine).source = .wired ∧ levelSeen .activeHigh .high = .active
      ∧ ((sampled none none).lines.at utilLine).held ≠ some .active
      ∧ ((sampled none (some .active)).lines.at utilLine).held = some .active
      ∧ ((sampled (some .active) none).lines.at utilLine).qualified = some .active
      ∧ ((sampled (some .inactive) none).lines.at utilLine).held = none
      ∧ ((sampled (some .inactive) (some .active)).lines.at utilLine).held ≠ none
      ∧ (hostBank.setup.lines.at bankLine).source = .message ∧ Due hostBank.time (hostBank.lines.at bankLine).nextSample
      ∧ NoExit hostBank ∧ NoExit (setTurning .online .active .inactive) :=
  ⟨by unfold Due; decide +kernel, by decide +kernel, by decide, by decide +kernel, by decide +kernel, by decide +kernel, by decide +kernel,
    by decide +kernel, by decide +kernel, by unfold Due; decide +kernel, no_exit_halted _ rfl,
    no_exit_service _ rfl ⟨by decide +kernel, by decide +kernel, 0, by decide +kernel⟩⟩

theorem witness_LineReportApplies :
    Taking hostBank ∧ ([⟨6, some .active⟩] : List ReportItem).length ≤ 8
      ∧ (⟨6, some .active⟩ : ReportItem) = ⟨bankLine.val + 1, some .active⟩ ∧ (hostBank.setup.lines.at bankLine).source = .message
      ∧ ([(⟨6, some .active⟩ : ReportItem)].map (·.line)).Nodup := by
  unfold Taking; decide +kernel

theorem witness_QueryLinesClears : Taking halted := taking_halted

theorem witness_SetLineTakesEffect :
    Writable halted ∧ Taking halted ∧ 320 ∈ [2, 20, 80, 320] ∧ halted.setup.lines.at 0 = ⟨.activeHigh, 20, .wired⟩ :=
  ⟨writable_halted, taking_halted, by decide, by decide +kernel⟩

theorem witness_SettleExpiryOnline : halted.cap.settle = some 10000 ∧ Due (10000 : Time) 10000 := by unfold Due; decide +kernel

theorem qualifies_up : QualifiesAt (setTurning .offline .inactive .active) (setLineOf 0) .high .active :=
  ⟨by decide +kernel, by unfold Due; decide +kernel, by decide +kernel, by decide +kernel,
    .inl ⟨⟨.inactive, by decide +kernel, by decide⟩, by decide +kernel⟩⟩

theorem qualifies_down : QualifiesAt (setTurning .online .active .inactive) (setLineOf 0) .low .inactive :=
  ⟨by decide +kernel, by unfold Due; decide +kernel, by decide +kernel, by decide +kernel,
    .inl ⟨⟨.active, by decide +kernel, by decide⟩, by decide +kernel⟩⟩

/-- LBNK by message. -/
theorem reports_bank : ChangesLine (.lineReport 1 (.fields [⟨bankLine.val + 1, some .active⟩])) hostBank bankLine .active :=
  .inr ⟨1, rfl, by unfold Taking; decide +kernel, by decide +kernel, by decide +kernel⟩

/-- A sample that changes a line in WATCHING. -/
theorem samples_line (l : LineId) (h : (turning (armed .watching (heard .idle)) l .inactive .active).lines.at l
      = ⟨some .inactive, some .active, none, none, none, 0, 0⟩)
    (hs : (halted.setup.lines.at l) = ⟨.activeHigh, 20, .wired⟩)
    (he : effective (turning (armed .watching (heard .idle)) l .inactive .active) l ≠ .active) :
    ChangesLine (.lineSample l .high) (turning (armed .watching (heard .idle)) l .inactive .active) l .active :=
  .inl ⟨.high, rfl, congrArg LineSettings.source hs, by rw [h]; unfold Due; show (0 - 0 : Time).toNat < _; decide,
    by show levelSeen (halted.setup.lines.at l).polarity .high = _; rw [hs]; decide, he,
    .inl ⟨⟨.inactive, by rw [h], by decide⟩, by rw [h]; decide⟩⟩

/-- A set's line in each of its cases, LBNK by message, PREALM and UTIL by sample. -/
theorem witness_SetLineDrivesStatus :
    ChangesLine (.lineSample (setLineOf 0) .high) (setTurning .offline .inactive .active) (setLineOf 0) .active
      ∧ ((setTurning .offline .inactive .active).setup.sets.at 0).enabled = true
      ∧ ((setTurning .offline .inactive .active).cap.sets.at 0).status = .offline
      ∧ ((setTurning .online .inactive .active).cap.sets.at 0).status ≠ .offline
      ∧ ChangesLine (.lineSample (setLineOf 0) .low) (setTurning .online .active .inactive) (setLineOf 0) .inactive
      ∧ ((setTurning .online .active .inactive).cap.sets.at 0).status = .online ∧ Granting (setTurning .online .active .inactive)
      ∧ ((setTurning .offline .active .inactive).cap.sets.at 0).status = .offline
      ∧ ChangesLine (.lineReport 1 (.fields [⟨bankLine.val + 1, some .active⟩])) hostBank bankLine .active
      ∧ ChangesLine (.lineSample alarmLine .high) (turning (armed .watching (heard .idle)) alarmLine .inactive .active) alarmLine .active
      ∧ ChangesLine (.lineSample utilLine .high) (turning (armed .watching (heard .idle)) utilLine .inactive .active) utilLine .active :=
  ⟨.inl ⟨_, rfl, qualifies_up⟩, by decide +kernel, by decide +kernel, by decide +kernel, .inl ⟨_, rfl, qualifies_down⟩,
    by decide +kernel, .inr rfl, by decide +kernel, reports_bank, samples_line _ (by decide +kernel) (by decide +kernel) (by decide +kernel),
    samples_line _ (by decide +kernel) (by decide +kernel) (by decide +kernel)⟩

/-- A trim that rises and one that falls, on a set of 60,000 pu that is ONLINE, with the selector's last reading. -/
theorem witness_TrimSetApplies :
    Taking halted
      ∧ (let s := { armed .service (heard .parked) with cap := ⟨(State.reset.cap.sets.put 0 ⟨50, .online⟩), none, 27000, 0⟩ }
         Taking s ∧ s.cap.c < (after (.trimSet 1 (.fields ⟨1, 100⟩)) s).cap.c
          ∧ s.svc.lastC < (after (.trimSet 1 (.fields ⟨1, 100⟩)) s).cap.c)
      ∧ (let s := { armed .service (heard .parked) with cap := ⟨(State.reset.cap.sets.put 0 ⟨100, .online⟩), none, 54000, 0⟩ }
         Taking s ∧ (after (.trimSet 1 (.fields ⟨1, 50⟩)) s).cap.c < s.cap.c
          ∧ (after (.trimSet 1 (.fields ⟨1, 50⟩)) s).cap.sink = s.cap.sink
          ∧ s.plan.state = .service ∧ GeneratorStays s) := by
  unfold Taking GeneratorStays; decide +kernel

theorem witness_SetGensetApplies :
    Writable halted ∧ Taking halted ∧ 200000 ≤ 200000 ∧ (halted.setup.sets.at 0).enabled = true
      ∧ (halted.setup.sets.at 1).enabled = false ∧ effective halted (setLineOf 1) = .inactive
      ∧ effective (turning halted (setLineOf 1) .active .active) (setLineOf 1) = .active :=
  ⟨writable_halted, taking_halted, le_rfl, by decide +kernel, by decide +kernel, by decide +kernel, by decide +kernel⟩

/-- The defaults as SET-LIMITS carries them. -/
def defaultForm : LimitsForm :=
  let l := Limits.defaults
  ⟨l.reserve, l.derate, l.settle, l.bankRating, l.baseLoad, l.pollInterval, l.silenceThreshold, l.silentHold, l.samplePeriod,
    some l.onTrip, some l.onDraw, some l.onHost, l.pre, l.post, some l.freeze, some l.captureMode, some l.returnMode, l.startSlots,
    l.spacing, l.lookahead, l.passLimit, l.groupSize, l.stepLimit, some l.releaseSource, l.attempts, l.margin, l.restoreTimeout,
    l.counts, l.rate⟩

theorem witness_SetLimitsStores : Writable halted ∧ Taking halted ∧ checkLimits defaultForm = some Limits.defaults :=
  ⟨writable_halted, taking_halted, by decide +kernel⟩

/-- The reference car as SET-CAR carries it. -/
def carForm : CarForm :=
  ⟨1, some true, some .a, 7, 1, [⟨0, 40⟩], 2, 550, 45, 80, 250, some true, 85, 3000, 1000, 6000, 4, 10, 1⟩

theorem witness_CarProfileWritten :
    Writable halted ∧ Taking halted ∧ carForm.car = (0 : CarId).val + 1 ∧ 1 ≤ carForm.ranges.length ∧ carForm.ranges.length ≤ 4
      ∧ checkProfile carForm = some car7 ∧ (profile halted 0).enrolled = true ∧ (profile halted 47).enrolled = false :=
  ⟨writable_halted, taking_halted, rfl, by decide, by decide, by decide +kernel, by decide +kernel, by decide +kernel⟩

/-- A poll of car 1 in flight while the plan is WATCHING with UTIL present. -/
def watched : State := polling (withUtil (armed .watching (heard .idle)))

/-- A valid poll reply. -/
theorem valid_reply : ValidReply watched ⟨0, .poll⟩ reply1 := by unfold ValidReply; decide +kernel

/-- A valid reply, a link with no exchange, and replies that fail by a floor out of range and by their CRC. -/
theorem witness_CarReplyRecorded :
    (linkLine watched .a).exchange = some ⟨0, .poll⟩ ∧ record watched 0 = some (heard .idle) ∧ ValidReply watched ⟨0, .poll⟩ reply1
      ∧ (linkLine halted .a).exchange = none ∧ ¬ ValidReply watched ⟨0, .poll⟩ (reply 200 0 0)
      ∧ ¬ ValidReply watched ⟨0, .poll⟩ { reply1 with crc := 0 } :=
  ⟨by decide +kernel, by decide +kernel, valid_reply, by decide +kernel, by unfold ValidReply; decide +kernel,
    by unfold ValidReply; decide +kernel⟩

theorem witness_WatchingPollReply :
    watched.plan.state = .watching ∧ effective watched utilLine = .active ∧ watched.plan.census = .none
      ∧ (linkLine watched .a).exchange = some ⟨0, .poll⟩ ∧ record watched 0 = some (heard .idle)
      ∧ ValidReply watched ⟨0, .poll⟩ reply1 :=
  ⟨rfl, by decide +kernel, by decide +kernel, by decide +kernel, by decide +kernel, valid_reply⟩

/-- The watched car with a missed count. -/
def missedBefore (n : Nat) : State := alterLink watched 0 (fun l => { l with missed := n })

theorem witness_MissedExchangeCounted :
    (missedBefore 2).plan.state = .watching ∧ effective (missedBefore 2) utilLine = .active ∧ (missedBefore 2).plan.census = .none
      ∧ (linkLine (missedBefore 2) .a).exchange = some ⟨0, .poll⟩ ∧ record (missedBefore 2) 0 = some (heard .idle)
      ∧ (heard .idle).linkStatus = .inContact
      ∧ min 255 (((missedBefore 2).link.cars.at 0).missed + 1) = (missedBefore 2).setup.limits.silenceThreshold
      ∧ min 255 (((missedBefore 255).link.cars.at 0).missed + 1) ≠ (missedBefore 255).setup.limits.silenceThreshold := by
  decide +kernel

/-- Car 1 under way with its entry, the spacing timer running. -/
def underWay (ph : Phase) (r : CarRecord) : State := spaced (holding (armed .returning r) (run1 ph))

theorem granting_underWay (ph : Phase) (r : CarRecord) : Granting (underWay ph r) := .inl rfl

theorem stays_underWay (ph : Phase) (r : CarRecord) : GeneratorStays (underWay ph r) := by
  refine ⟨?_, ?_, 0, ?_⟩
  · show effective State.reset retxLine = _; decide +kernel
  · show effective State.reset utilLine = _; decide +kernel
  · show ((State.reset.cap.sets.put 0 ⟨100, .online⟩).at 0).status ≠ _; decide +kernel

theorem totals_underWay (ph : Phase) (r : CarRecord) : TotalsMatch (underWay ph r) := ⟨rfl, rfl⟩

theorem one_underWay (ph : Phase) (r : CarRecord) : OneEntryPerCar (underWay ph r) := by
  show ([0] : List CarId).Nodup; decide

theorem witness_HoldOutStopsRun :
    Taking (underWay .run (heard .running)) ∧ Granting (underWay .run (heard .running))
      ∧ GeneratorStays (underWay .run (heard .running)) ∧ TotalsMatch (underWay .run (heard .running))
      ∧ (profile (underWay .run (heard .running)) 0).enrolled = true
      ∧ record (underWay .run (heard .running)) 0 = some (heard .running) ∧ (heard .running).holdOut = false
      ∧ entryOf (underWay .run (heard .running)) 0 = some (run1 .run) :=
  ⟨by unfold Taking; decide +kernel, granting_underWay _ _, stays_underWay _ _, totals_underWay _ _, by decide +kernel,
    by decide +kernel, rfl, by decide +kernel⟩

/-- Car 1 SILENT in its run, its silent hold at its end. -/
def silentCar : State := alterLink (underWay .run { heard .silent with linkStatus := .silent }) 0 (fun l => { l with silentHold := some 0 })

theorem witness_SilentHoldFails :
    Granting silentCar ∧ GeneratorStays silentCar ∧ TotalsMatch silentCar ∧ OneEntryPerCar silentCar
      ∧ record silentCar 0 = some { heard .silent with linkStatus := .silent } ∧ entryOf silentCar 0 = some (run1 .run)
      ∧ (silentCar.link.cars.at 0).silentHold = some 0 ∧ Due silentCar.time 0 ∧ silentCar.ret.spacing = some 0
      ∧ ∀ x ∈ silentCar.ret.queue, x.car ≠ 0 :=
  ⟨.inl rfl, stays_underWay .run { heard .silent with linkStatus := .silent }, ⟨rfl, rfl⟩,
    one_underWay .run { heard .silent with linkStatus := .silent }, by decide +kernel, by decide +kernel, by decide +kernel,
    by unfold Due; decide +kernel, rfl, by decide +kernel⟩

/-! ### Replies and commands -/

/-- Car 1's record with an authority. -/
def under (a : Authority) (r : CarRecord) : CarRecord := { r with authority := some a }

/-- Car 1's STANDING entry. -/
def standing1 : Entry := ⟨5, 0, .standing, .fixed, none, 2111, 681, none, none, 0, none, none⟩

/-- Car 1's SERVICE entry. -/
def service1 : Entry := ⟨5, 0, .service, .holding, none, 2111, 681, none, none, 0, none, none⟩

/-- A plan state that grants, with the spacing timer running and car 1 without an entry. -/
def idling (p : PlanState) (r : CarRecord) : State := spaced (armed p r)

/-- RETURN with one entry, the spacing timer running. -/
def bearing (r : CarRecord) (e : Entry) : State := spaced (holding (armed .returning r) e)

theorem enrolled_halted : (profile halted 0).enrolled = true := by decide +kernel

theorem paused_idling (r : CarRecord) : Paused (idling .returning r) 0 :=
  ⟨.inl rfl, stays_underWay .run r, ⟨rfl, rfl⟩, by show ([] : List CarId).Nodup; decide, enrolled_halted, nofun, nofun⟩

theorem paused_bearing (r : CarRecord) (e : Entry) : Paused (bearing r e) 0 :=
  ⟨.inl rfl, stays_underWay .run r, ⟨(Nat.add_zero _).symm, (Nat.add_zero _).symm⟩, List.nodup_singleton _, enrolled_halted, nofun,
    nofun⟩

theorem arrives_iff (e : Entry) (r : CarReply) (f : Nat) (h : e.target = some f) :
    Arrives e r ↔ e.kind = .returning ∧ levelIn r f = true := by
  simp [Arrives, h]

/-- A reply to car 1's poll in any state that this fits. -/
theorem replies_poll (s : State) (r : CarReply) (old : CarRecord) (hs : (profile s 0) = car7) (hr : record s 0 = some old)
    (hv : ValidReply halted ⟨0, .poll⟩ r) : Replies (polling s) .a ⟨0, .poll⟩ r old :=
  ⟨rfl, by obtain ⟨h1, h2, h3, h4⟩ := hv; exact ⟨h1, h2.trans (congrArg CarProfile.drop hs).symm, h3, h4⟩,
    (congrArg CarProfile.enrolled hs), hr⟩

/-- SETTLING with the settle timer running, car 1's poll in flight. -/
def settlingWith (r : CarRecord) : State :=
  polling { armed .settling r with cap := { (armed .settling r).cap with settle := some 9 } }

/-- A first contact in every plan state that has one, stopped and moving, under each authority. -/
theorem witness_FirstContactActs :
    (let s := withUtil { armed .watching (heard .absent) with
        plan := { halted.plan with state := .watching, owed := (Table.const 48 false).put 0 true } }
     Replies (polling s) .a ⟨0, .poll⟩ reply1 (heard .absent) ∧ effective (polling s) utilLine = .active
        ∧ (polling s).plan.owed.at 0 = true)
      ∧ (let s := polling { armed .outage (heard .absent) with cap := State.reset.cap }
         Replies s .a ⟨0, .poll⟩ reply1 (heard .absent) ∧ effective s utilLine = .inactive ∧ ∀ n, (s.cap.sets.at n).status = .offline)
      ∧ (GeneratorStays (settlingWith (heard .absent)) ∧ (settlingWith (heard .absent)).cap.settle ≠ none
          ∧ entryOf (settlingWith (heard .absent)) 0 = none
          ∧ Replies (settlingWith (heard .absent)) .a ⟨0, .poll⟩ reply1 (heard .absent) ∧ StoppedIn reply1
          ∧ authorityIn reply1 = some .sequencer)
      ∧ (Replies (settlingWith (heard .absent)) .a ⟨0, .poll⟩ (reply 10 0 1) (heard .absent) ∧ Local (authorityIn (reply 10 0 1)))
      ∧ (Replies (settlingWith (heard .absent)) .a ⟨0, .poll⟩ (reply 10 0 4) (heard .absent)
          ∧ authorityIn (reply 10 0 4) = some .outOfOrder)
      ∧ (Replies (settlingWith (heard .absent)) .a ⟨0, .poll⟩ (reply 10 0x10 0) (heard .absent) ∧ ¬ StoppedIn (reply 10 0x10 0))
      ∧ (let s := polling { armed .settling (heard .idle) with
            plan := { halted.plan with state := .settling, census := .inProgress } }
         Replies s .a ⟨0, .poll⟩ reply1 (heard .idle) ∧ s.plan.census = .inProgress ∧ s.plan.counted.at 0 = false)
      ∧ (let s := polling (withRetx (armed .restoring (heard .absent)))
         Replies s .a ⟨0, .poll⟩ reply1 (heard .absent) ∧ effective s retxLine = .active ∧ effective s utilLine = .inactive
          ∧ (∃ n, (s.cap.sets.at n).status ≠ .offline) ∧ entryOf s 0 = none
          ∧ Replies s .a ⟨0, .poll⟩ (reply 10 0x10 1) (heard .absent))
      ∧ (let s := polling (idling .returning (heard .absent))
         Paused s 0 ∧ entryOf s 0 = none ∧ Replies s .a ⟨0, .poll⟩ reply1 (heard .absent)
          ∧ Replies s .a ⟨0, .poll⟩ (reply 10 0x10 0) (heard .absent)) := by
  refine ⟨?_, ?_, ?_, ?_, ?_, ?_, ?_, ?_, ?_⟩ <;>
    (repeat (first
      | unfold Replies | unfold ValidReply | unfold Paused | unfold Granting | unfold TotalsMatch | unfold OneEntryPerCar
      | unfold GeneratorStays | unfold Local | unfold StoppedIn)
     decide +kernel)

theorem window_open (ph : Phase) : WindowOpen (run1 ph) := by
  intro win h
  cases ph <;> simp_all [run1]
  simp [← h]

/-- What every clause about a reply to car 1's poll supposes. -/
def RunMeets (r : CarReply) (old : CarRecord) (e : Entry) : Prop :=
  Replies (polling (bearing old e)) .a ⟨0, .poll⟩ r old ∧ Paused (polling (bearing old e)) 0
    ∧ entryOf (polling (bearing old e)) 0 = some e

theorem run_meets (r : CarReply) (old : CarRecord) (e : Entry) (hv : ValidReply halted ⟨0, .poll⟩ r) (h : e.car = 0) :
    RunMeets r old e := by
  refine ⟨replies_poll (bearing old e) r old (by show profile halted 0 = car7; decide +kernel) ?_ hv, paused_bearing old e, ?_⟩
  · show (halted.cars.put 0 (some old)).at 0 = some old
    simp
  · show [e].find? (fun x => x.car == 0) = some e
    simp [h]

theorem valid_replies :
    ∀ r ∈ [reply 10 0x10 0, reply1, reply 2 0 0, reply 10 0 4, reply 10 0x10 4, reply 10 0x10 1, reply 2 0 4, reply 2 0 1], ValidReply halted ⟨0, .poll⟩ r := by
  unfold ValidReply; decide +kernel

/-- Car 1's START-phase entry with its window lapsed. -/
def lapsed1 : Entry := { run1 .start with window := some ⟨0, true⟩ }

/-- A STOP-phase entry that was shed. -/
def shed1 : Entry := { run1 .stop with stopCause := some .shed }

/-- Each clause's own premises: the step, the stop in RUN and STOP phase and at the target in START phase, a local authority,
OUT-OF-ORDER stopped and moving, the end of a local authority, and a car that was SILENT; after a lapsed window the car moving under each
authority, stopped, and at the target under each. -/
theorem witness_RunReplies :
    (RunMeets (reply 10 0x10 0) (heard .starting) (run1 .start) ∧ RunsUnder (heard .starting) (run1 .start)
        ∧ (run1 .start).window = some ⟨0, false⟩ ∧ (run1 .start).runDraw = some 44 ∧ authorityIn (reply 10 0x10 0) = some .sequencer
        ∧ ¬ StoppedIn (reply 10 0x10 0) ∧ (reply 10 0x10 0).bits.getLsbD 4 = true
        ∧ (bearing (heard .starting) (run1 .start)).acct.kd - 385 + 44 ≤ (bearing (heard .starting) (run1 .start)).cap.c
        ∧ (bearing (heard .starting) (run1 .start)).acct.kr ≤ (bearing (heard .starting) (run1 .start)).cap.sink)
      ∧ (RunMeets reply1 (heard .running) (run1 .run) ∧ RunsUnder (heard .running) (run1 .run) ∧ StoppedIn reply1
        ∧ authorityIn reply1 = some .sequencer ∧ Consumes (run1 .run) reply1)
      ∧ (RunMeets (reply 2 0 0) (heard .starting) (run1 .start) ∧ WindowOpen (run1 .start) ∧ Arrives (run1 .start) (reply 2 0 0)
        ∧ ¬ Consumes (run1 .start) (reply 2 0 0) ∧ (reply 2 0 0).bits.getLsbD 1 = false)
      ∧ (RunMeets reply1 (heard .stopping) shed1 ∧ RunsUnder (heard .stopping) shed1 ∧ ClaimsFront shed1 reply1)
      ∧ (RunMeets (reply 10 0 4) (heard .stopping) shed1 ∧ authorityIn (reply 10 0 4) = some .outOfOrder ∧ StoppedIn (reply 10 0 4))
      ∧ (RunMeets (reply 10 0x10 1) (heard .silent) (run1 .run) ∧ RunEntry (run1 .run) ∧ RunsUnder (heard .silent) (run1 .run)
        ∧ WindowOpen (run1 .run) ∧ Local (authorityIn (reply 10 0x10 1)))
      ∧ (RunMeets (reply 10 0 4) (heard .starting) (run1 .start) ∧ (run1 .start).phase ≠ .stop)
      ∧ (RunMeets (reply 10 0x10 4) (heard .running) (run1 .run) ∧ authorityIn (reply 10 0x10 4) = some .outOfOrder
        ∧ ¬ StoppedIn (reply 10 0x10 4))
      ∧ (RunMeets reply1 (under .localFire (heard .deferred)) standing1 ∧ (under .localFire (heard .deferred)).state = .deferred
        ∧ standing1.kind = .standing ∧ ¬ Local (authorityIn reply1))
      ∧ (RunMeets (reply 10 0x10 0) (heard .silent) lapsed1 ∧ lapsed1.kind = .returning ∧ lapsed1.phase = .start
        ∧ lapsed1.window = some ⟨0, true⟩ ∧ lapsed1.runDraw = some 44 ∧ lapsed1.target = some 2
        ∧ (bearing (heard .silent) lapsed1).acct.kd - 385 + 44 ≤ (bearing (heard .silent) lapsed1).cap.c
        ∧ (bearing (heard .silent) lapsed1).acct.kr ≤ (bearing (heard .silent) lapsed1).cap.sink
        ∧ ¬ Local (authorityIn (reply 10 0x10 0)) ∧ RunMeets (reply 10 0x10 4) (heard .silent) lapsed1
        ∧ ¬ Local (authorityIn (reply 10 0x10 4)) ∧ RunMeets (reply 10 0x10 1) (heard .silent) lapsed1 ∧ ¬ StoppedIn (reply 10 0x10 1)
        ∧ RunEntry lapsed1)
      ∧ (RunMeets reply1 (heard .silent) lapsed1 ∧ ¬ Arrives lapsed1 reply1)
      ∧ (RunMeets (reply 2 0 0) (heard .silent) lapsed1 ∧ StoppedIn (reply 2 0 0) ∧ Arrives lapsed1 (reply 2 0 0)
        ∧ authorityIn (reply 2 0 0) = some .sequencer)
      ∧ (RunMeets (reply 2 0 4) (heard .silent) lapsed1 ∧ Arrives lapsed1 (reply 2 0 4) ∧ lapsed1.phase ≠ .stop
        ∧ authorityIn (reply 2 0 4) = some .outOfOrder ∧ RunMeets (reply 2 0 1) (heard .silent) lapsed1
        ∧ Arrives lapsed1 (reply 2 0 1) ∧ Local (authorityIn (reply 2 0 1))) := by
  have stopAt : ¬ Arrives (run1 .run) reply1 := by rw [arrives_iff _ _ 2 rfl]; decide +kernel
  have shedAt : ¬ Arrives shed1 reply1 := by rw [arrives_iff _ _ 2 rfl]; decide +kernel
  have home : Arrives (run1 .start) (reply 2 0 0) := (arrives_iff _ _ 2 rfl).2 (by decide +kernel)
  have meets : ∀ r ∈ [reply 10 0x10 0, reply1, reply 2 0 0, reply 10 0 4, reply 10 0x10 4, reply 10 0x10 1, reply 2 0 4, reply 2 0 1],
      ∀ old e, e.car = 0 → RunMeets r old e := fun r h old e => run_meets r old e (valid_replies r h)
  refine ⟨⟨meets _ (by simp) _ _ rfl, by unfold RunsUnder RunEntry; decide +kernel, rfl, rfl, by decide +kernel,
      by unfold StoppedIn; decide +kernel, by decide +kernel, by decide +kernel, by decide +kernel⟩,
    ⟨meets _ (by simp) _ _ rfl, by unfold RunsUnder RunEntry; decide +kernel, by unfold StoppedIn; decide +kernel, by decide +kernel,
      stopAt, .inl ⟨rfl, rfl⟩⟩,
    ⟨meets _ (by simp) _ _ rfl, window_open _, home, fun h => h.1 home, by decide +kernel⟩,
    ⟨meets _ (by simp) _ _ rfl, by unfold RunsUnder RunEntry; decide +kernel, shedAt, fun h => absurd h.2 (by decide), .inl rfl⟩,
    ⟨meets _ (by simp) _ _ rfl, by decide +kernel, by unfold StoppedIn; decide +kernel⟩,
    ⟨meets _ (by simp) _ _ rfl, by unfold RunEntry; decide +kernel, by unfold RunsUnder RunEntry; decide +kernel, window_open _,
      by unfold Local; decide +kernel⟩,
    ⟨meets _ (by simp) _ _ rfl, by decide⟩,
    ⟨meets _ (by simp) _ _ rfl, by decide +kernel, by unfold StoppedIn; decide +kernel⟩,
    ⟨meets _ (by simp) _ _ rfl, rfl, rfl, by unfold Local; decide +kernel⟩,
    ⟨meets _ (by simp) _ _ rfl, rfl, rfl, rfl, rfl, rfl, by decide +kernel, by decide +kernel,
      by unfold Local; decide +kernel, meets _ (by simp) _ _ rfl, by unfold Local; decide +kernel, meets _ (by simp) _ _ rfl,
      by unfold StoppedIn; decide +kernel, by unfold RunEntry; decide +kernel⟩,
    ⟨meets _ (by simp) _ _ rfl, by rw [arrives_iff _ _ 2 rfl]; decide +kernel⟩,
    ⟨meets _ (by simp) _ _ rfl, by unfold StoppedIn; decide +kernel, (arrives_iff _ _ 2 rfl).2 (by decide +kernel), by decide +kernel⟩,
    ⟨meets _ (by simp) _ _ rfl, (arrives_iff _ _ 2 rfl).2 (by decide +kernel), by decide, by decide +kernel, meets _ (by simp) _ _ rfl,
      (arrives_iff _ _ 2 rfl).2 (by decide +kernel), by unfold Local; decide +kernel⟩⟩

/-- A QUEUED, STAGED, IDLE, PARKED or HELD car without an entry: moving, and stopped with another authority, in a plan state that grants, in
SETTLING under each authority, and in RESTORING; a car in WATCHING and in OUTAGE; a FAILED car. -/
theorem witness_EntrylessReplies :
    (let s := polling (idling .returning (heard .parked))
     Paused s 0 ∧ entryOf s 0 = none ∧ (heard .parked).linkStatus = .inContact
      ∧ Replies s .a ⟨0, .poll⟩ (reply 10 0x10 0) (heard .parked) ∧ ¬ StoppedIn (reply 10 0x10 0)
      ∧ Replies s .a ⟨0, .poll⟩ (reply 10 0 4) (heard .parked) ∧ StoppedIn (reply 10 0 4)
      ∧ (heard .parked).authority ≠ authorityIn (reply 10 0 4))
      ∧ (let s := settlingWith (under .outOfOrder (heard .held))
         s.plan.state = .settling ∧ GeneratorStays s ∧ s.cap.settle ≠ none ∧ entryOf s 0 = none
          ∧ Replies s .a ⟨0, .poll⟩ (reply 10 0x10 0) (under .outOfOrder (heard .held))
          ∧ Replies s .a ⟨0, .poll⟩ (reply 10 0 1) (under .outOfOrder (heard .held)) ∧ Local (authorityIn (reply 10 0 1))
          ∧ Replies s .a ⟨0, .poll⟩ reply1 (under .outOfOrder (heard .held)) ∧ authorityIn reply1 = some .sequencer)
      ∧ (let s := settlingWith (heard .idle)
         s.plan.census ≠ .inProgress ∧ Replies s .a ⟨0, .poll⟩ (reply 10 0 4) (heard .idle)
          ∧ authorityIn (reply 10 0 4) = some .outOfOrder)
      ∧ (let s := polling (withRetx (armed .restoring (heard .parked)))
         NoExit s ∧ effective s utilLine = .inactive ∧ entryOf s 0 = none
          ∧ Replies s .a ⟨0, .poll⟩ (reply 10 0x10 1) (heard .parked) ∧ Replies s .a ⟨0, .poll⟩ reply1 (heard .parked))
      ∧ (NoExit watched ∧ entryOf watched 0 = none ∧ Replies watched .a ⟨0, .poll⟩ (reply 10 0x10 1) (heard .idle))
      ∧ (let s := polling { armed .outage (heard .idle) with cap := State.reset.cap }
         NoExit s ∧ entryOf s 0 = none ∧ Replies s .a ⟨0, .poll⟩ (reply 10 0x10 0) (heard .idle))
      ∧ (let s := polling (idling .service (heard .failed))
         Paused s 0 ∧ Replies s .a ⟨0, .poll⟩ (reply 10 0x10 1) (heard .failed)) := by
  refine ⟨?_, ?_, ?_, ⟨no_exit_restoring _ rfl (by decide +kernel) (by decide +kernel) ⟨0, by decide +kernel⟩, ?_⟩,
    ⟨no_exit_watching _ rfl (by decide +kernel), ?_⟩, ⟨no_exit_outage _ rfl (by decide +kernel) (by decide +kernel), ?_⟩, ?_⟩ <;>
    (repeat (first
      | unfold Replies | unfold ValidReply | unfold Paused | unfold Granting | unfold TotalsMatch | unfold OneEntryPerCar
      | unfold GeneratorStays | unfold Local | unfold StoppedIn)
     decide +kernel)

/-- A command with tag 1 for car 1, tried so many times. -/
def commandOf (kind : CmdKind) (tries : Nat) (permit : Option Nat) : Command := ⟨kind, none, 1, 0, tries, permit⟩

/-- Car 1 designated in RETURN's successor state: SERVICE with its entry and a service record. -/
def designated (st : Confirmation) (lastC lastS : Nat) : State :=
  let s := spaced (holding (armed .service (heard .serving)) service1)
  { s with svc := { s.svc with records := s.svc.records.put 0 (some ⟨5, 0, st⟩), lastC, lastS } }

/-- PARK, RUN-TO, SERVE, STOP-NEXT and HAND-BACK with their verdicts, the car stopped and moving. -/
theorem witness_VerdictsAct :
    (let s := sending (idling .returning { heard .idle with parkOut := true }) (commandOf .park 1 none)
     Paused s 0 ∧ entryOf s 0 = none ∧ StoppedIn (verdictOn .park .accepted 10 0)
      ∧ authorityIn (verdictOn .park .accepted 10 0) = some .sequencer ∧ (heard .idle).authority = some .sequencer
      ∧ Replies s .a ⟨0, .command (commandOf .park 1 none)⟩ (verdictOn .park .accepted 10 0) { heard .idle with parkOut := true }
      ∧ Replies s .a ⟨0, .command (commandOf .park 1 none)⟩ (verdictOn .park (.declined .doors) 10 0)
        { heard .idle with parkOut := true })
      ∧ (let s := sending (bearing (heard .starting) (run1 .start)) (commandOf .runTo 1 (some 5))
         Paused s 0 ∧ entryOf s 0 = some (run1 .start) ∧ (run1 .start).kind = .returning ∧ (run1 .start).phase = .start
          ∧ (commandOf .runTo 1 (some 5)).permit = some (run1 .start).permit
          ∧ StoppedIn (verdictOn .runTo (.declined .doors) 10 0) ∧ (verdictOn .runTo (.declined .doors) 10 0).bits.getLsbD 1 = false
          ∧ levelIn (verdictOn .runTo (.declined .doors) 10 0) 2 = false
          ∧ Replies s .a ⟨0, .command (commandOf .runTo 1 (some 5))⟩ (verdictOn .runTo (.declined .doors) 10 0) (heard .starting))
      ∧ (let s := sending (designated .awaiting 54000 6000) (commandOf .serve 1 (some 5))
         Paused s 0 ∧ entryOf s 0 = some service1 ∧ service1.kind = .service ∧ service1.phase = .holding
          ∧ s.svc.records.at 0 = some ⟨5, 0, .awaiting⟩ ∧ NotRisen s
          ∧ Replies s .a ⟨0, .command (commandOf .serve 1 (some 5))⟩ (verdictOn .serve .accepted 10 0) (heard .serving)
          ∧ Replies s .a ⟨0, .command (commandOf .serve 1 (some 5))⟩ (verdictOn .serve (.declined .doors) 10 0) (heard .serving)
          ∧ StoppedIn (verdictOn .serve (.declined .doors) 10 0)
          ∧ Replies s .a ⟨0, .command (commandOf .serve 1 (some 5))⟩ (verdictOn .serve (.declined .doors) 10 0x10) (heard .serving)
          ∧ ¬ StoppedIn (verdictOn .serve (.declined .doors) 10 0x10))
      ∧ (let s := sending (bearing (heard .stopping) (run1 .stop)) (commandOf .stopNext 1 none)
         Paused s 0 ∧ entryOf s 0 = some (run1 .stop) ∧ RunEntry (run1 .stop) ∧ (run1 .stop).phase = .stop
          ∧ ¬ StoppedIn (verdictOn .stopNext (.declined .doors) 10 0x10) ∧ (s.link.cars.at 0).slot = none
          ∧ Replies s .a ⟨0, .command (commandOf .stopNext 1 none)⟩ (verdictOn .stopNext (.declined .doors) 10 0x10) (heard .stopping))
      ∧ (let s := sending (withUtil (armed .watching (heard .idle))) (commandOf .handBack 1 none)
         effective s utilLine = .active
          ∧ Replies s .a ⟨0, .command (commandOf .handBack 1 none)⟩ (verdictOn .handBack .accepted 10 0) (heard .idle)
          ∧ Replies s .a ⟨0, .command (commandOf .handBack 1 none)⟩ (verdictOn .handBack (.declined .doors) 10 0) (heard .idle)) := by
  refine ⟨?_, ?_, ?_, ?_, ?_⟩ <;>
    (repeat (first
      | unfold Replies | unfold ValidReply | unfold Paused | unfold Granting | unfold TotalsMatch | unfold OneEntryPerCar
      | unfold GeneratorStays | unfold StoppedIn | unfold NotRisen | unfold RunEntry)
     decide +kernel)

/-- A command missed, with a newer one in the slot, with tries left, and after its third try: each kind, the car stopped and moving. -/
theorem witness_MissedCommands :
    (let s := sending (idling .returning (heard .queued)) (commandOf .hold 1 none)
     Paused s 0 ∧ (linkLine s .a).exchange = some ⟨0, .command (commandOf .hold 1 none)⟩ ∧ (profile s 0).link = .a
      ∧ (heard .queued).linkStatus = .inContact ∧ min 255 ((s.link.cars.at 0).missed + 1) ≠ s.setup.limits.silenceThreshold
      ∧ (s.link.cars.at 0).slot = none
      ∧ ((sending (place s 0 .hold) (commandOf .hold 1 none)).link.cars.at 0).slot = some ⟨.hold, none, 1, 0, 0, none⟩)
      ∧ (commandOf .hold 1 none).tries < 3 ∧ 3 ≤ (commandOf .hold 3 none).tries
      ∧ (let s := sending (bearing { heard .stopping with motion := some .atSpeed } (run1 .stop)) (commandOf .stopNext 3 none)
         Paused s 0 ∧ (linkLine s .a).exchange = some ⟨0, .command (commandOf .stopNext 3 none)⟩
          ∧ entryOf s 0 = some (run1 .stop) ∧ (s.link.cars.at 0).slot = none)
      ∧ (let s := sending (idling .returning (heard .queued)) (commandOf .stopNext 3 none)
         Paused s 0 ∧ entryOf s 0 = none)
      ∧ (let s := sending (idling .returning { heard .idle with parkOut := true }) (commandOf .park 3 none)
         Paused s 0 ∧ entryOf s 0 = none ∧ (heard .idle).motion = some .stopped
          ∧ evaluationState s (heard .idle).authority false 0 (atHome s 0 (heard .idle)) ≠ .idle)
      ∧ (let s := sending (designated .awaiting 54000 6000) (commandOf .serve 3 (some 5))
         Paused s 0 ∧ entryOf s 0 = some service1 ∧ s.svc.records.at 0 = some ⟨5, 0, .awaiting⟩ ∧ NotRisen s)
      ∧ (let s := sending (withUtil (armed .watching (heard .idle))) (commandOf .handBack 3 none)
         effective s utilLine = .active ∧ (s.link.cars.at 0).slot = none) := by
  refine ⟨?_, by decide, by decide, ?_, ?_, ?_, ?_, ?_⟩ <;>
    (repeat (first
      | unfold Paused | unfold Granting | unfold TotalsMatch | unfold OneEntryPerCar | unfold GeneratorStays
      | unfold NotRisen)
     decide +kernel)

/-- HOLD-OUT of a QUEUED and of an IDLE car; READMIT of a HELD car that is silent, stopped and moving in RETURN, stopped under each
authority and moving in SETTLING, stopped and moving in RESTORING, and of one in another state. -/
theorem witness_HoldOutFlagWritten :
    (Taking (idling .returning (heard .idle)) ∧ (profile (idling .returning (heard .idle)) 0).enrolled = true
      ∧ record (idling .returning (heard .idle)) 0 = some (heard .idle)
      ∧ GeneratorStays (idling .returning (heard .idle)))
      ∧ (GeneratorStays granting7 ∧ granting7.ret.spacing ≠ none ∧ stateOf granting7 0 = some .queued)
      ∧ (Paused (idling .returning (heard .idle)) 0 ∧ 1 ≤ (idling .returning (heard .idle)).setup.limits.attempts)
      ∧ (Paused (idling .returning (heard .held)) 0 ∧ entryOf (idling .returning (heard .held)) 0 = none
      ∧ (heard .held).motion = some .stopped ∧ ({ heard .held with motion := some .atSpeed }).motion = some .atSpeed
      ∧ ({ heard .held with linkStatus := .silent }).linkStatus = .silent
      ∧ Paused (idling .returning { heard .held with motion := some .atSpeed }) 0)
      ∧ (let s := armed .settling (under .localFire (heard .held))
         GeneratorStays s ∧ { s with cap := { s.cap with settle := some 9 } }.cap.settle ≠ none ∧ Local (some .localFire))
      ∧ (let s := withRetx (armed .restoring (heard .held))
         effective s retxLine = .active ∧ effective s utilLine = .inactive ∧ (s.cap.sets.at 0).status ≠ .offline
          ∧ entryOf s 0 = none) := by
  refine ⟨?_, ?_, ?_, ?_, ?_, ?_⟩ <;>
    (repeat (first
      | unfold Taking | unfold Paused | unfold Granting | unfold TotalsMatch | unfold OneEntryPerCar | unfold GeneratorStays
      | unfold Local)
     decide +kernel)

/-- Link A with a count of URGENT exchanges, car 1 due and HOLD waiting for it. -/
def urgent (n : Nat) : State :=
  let s := place (armed .service (heard .held)) 0 .hold
  { s with time := 400, link := { s.link with a := ⟨none, n⟩ } }

/-- Two cars of one age on link A, nothing due, and one with a NORMAL command. -/
def equals : State :=
  let s := { halted with
    setup := { plan1 with profiles := plan1.profiles.put 1 { car7 with drop := 8 } }
    cars := (halted.cars.put 0 (some (heard .parked))).put 1 (some (heard .parked)) }
  { s with plan := { s.plan with state := .service } }

/-- Each class, each count, a tie, an exchange in flight with RUN-TO, and a link with no car. -/
theorem witness_ArbiterLimitsUrgent :
    4 ≤ (linkLine (urgent 4) .a).urgentRun ∧ dueCars (urgent 4) .a ≠ [] ∧ (linkLine (urgent 3) .a).urgentRun < 4
      ∧ urgentCars (urgent 3) .a ≠ [] ∧ urgentCars { equals with time := 400 } .a = [] ∧ dueCars { equals with time := 400 } .a = [0, 1]
      ∧ dueCars (place equals 1 .park) .a = [] ∧ normalCars (place equals 1 .park) .a = [1]
      ∧ normalCars equals .a = [] ∧ linkCars equals .a = [0, 1] ∧ linkCars equals .b = []
      ∧ (linkLine equals .a).exchange = none ∧ (linkLine (polling equals) .a).exchange = some ⟨0, .poll⟩
      ∧ (linkLine (sending equals ⟨.runTo, some 2, 1, 0, 1, some 5⟩) .a).exchange
        = some ⟨0, .command ⟨.runTo, some 2, 1, 0, 1, some 5⟩⟩ := by decide +kernel

/-- Both ends of every range meet the premises, and m of either sign. -/
theorem witness_FiguresRoundedUp :
    50 ≤ largest.power ∧ largest.power ≤ 4000 ∧ 35 ≤ largest.balance ∧ largest.balance ≤ 55 ∧ 20 ≤ largest.loss
      ∧ largest.loss ≤ 300 ∧ 100 ≤ largest.inrush ∧ largest.inrush ≤ 350 ∧ 50 ≤ largest.efficiency ∧ largest.efficiency ≤ 100
      ∧ (-70 : Int) ≤ 0 ∧ (0 : Int) ≤ 70 := by decide +kernel

theorem witness_AdmissionTests :
    admitRefusal (armed .service (heard .parked)) 0 54000 6000 = none
      ∧ admitRefusal (armed .service (heard .parked)) 0 54001 0 = some .draw
      ∧ admitRefusal (armed .service (heard .parked)) 0 0 6001 = some .regen
      ∧ admitRefusal { armed .service (heard .parked) with acct := { Account.fresh with regenOver := true } } 0 0 0
        = some .overcommit
      ∧ admitRefusal halted 0 0 0 = some .unsettled
      ∧ admitRefusal (underWay .run (heard .running)) 0 0 0 = some .duplicate := by decide +kernel

/-- Draw overcommit with one candidate. -/
def overdrawn : State :=
  let s := underWay .run (heard .running)
  { s with cap := { s.cap with c := 100 }, acct := { s.acct with drawOver := true } }

/-- Regen overcommit with one candidate. -/
def overfed : State :=
  let s := underWay .run (heard .running)
  { s with cap := { s.cap with sink := 100 }, acct := { s.acct with regenOver := true } }

/-- Either run with a candidate that it sheds. -/
theorem witness_DrawSheddingEnds :
    drawCase.flag (begin overdrawn).st.acct = true ∧ OneEntryPerCar (begin overdrawn).st ∧ TotalsMatch (begin overdrawn).st
      ∧ (shedDraw (begin overdrawn)).2.shed = [run1 .run]
      ∧ regenCase.flag (begin overfed).st.acct = true ∧ OneEntryPerCar (begin overfed).st ∧ TotalsMatch (begin overfed).st
      ∧ (shedRegen (begin overfed)).2.shed = [run1 .run] :=
  ⟨rfl, one_underWay .run (heard .running), ⟨rfl, rfl⟩, by decide +kernel, rfl, one_underWay .run (heard .running), ⟨rfl, rfl⟩,
    by decide +kernel⟩

/-- An account whose draw goes over C in the event, with the trigger taken; one that was over already; one whose regen is over S and whose
draw is not over C; a notice with C risen and with C as last read. -/
theorem witness_AccountEventCompleted :
    (let w := begin { overdrawn with acct := { overdrawn.acct with drawOver := false } }
     OneEntryPerCar w.st ∧ TotalsMatch w.st ∧ w.st.acct.drawOver = false ∧ (settleAccount w false).st.acct.drawOver = true
      ∧ w.st.setup.limits.onDraw = true ∧ w.st.hist.capture = none)
      ∧ (begin overdrawn).st.acct.drawOver = true ∧ OneEntryPerCar (begin overdrawn).st ∧ TotalsMatch (begin overdrawn).st
      ∧ (settleAccount (begin overdrawn) true).st.acct.drawOver = true
      ∧ (settleAccount (begin overfed) false).st.acct.regenOver = true ∧ (settleAccount (begin overfed) false).st.acct.drawOver = false
      ∧ OneEntryPerCar (begin overfed).st ∧ TotalsMatch (begin overfed).st
      ∧ (begin overdrawn).st.svc.lastC < (begin overdrawn).st.cap.c
      ∧ (begin halted).st.cap.c ≤ (begin halted).st.svc.lastC ∧ (begin halted).st.cap.sink ≤ (begin halted).st.svc.lastS
      ∧ OneEntryPerCar (begin halted).st ∧ TotalsMatch (begin halted).st := by
  unfold OneEntryPerCar TotalsMatch; decide +kernel

/-- The premises that the three cases of a start window's expiry share. -/
theorem window_premises (r : CarRecord) :
    Granting (underWay .start r) ∧ GeneratorStays (underWay .start r) ∧ TotalsMatch (underWay .start r)
      ∧ OneEntryPerCar (underWay .start r) ∧ record (underWay .start r) 0 = some r
      ∧ entryOf (underWay .start r) 0 = some (run1 .start) ∧ (run1 .start).window = some ⟨0, false⟩
      ∧ Due (underWay .start r).time 0 ∧ (run1 .start).runDraw = some 44 ∧ (underWay .start r).ret.spacing = some 0
      ∧ ∀ x ∈ (underWay .start r).ret.queue, x.car ≠ 0 :=
  ⟨.inl rfl, stays_underWay _ _, ⟨rfl, rfl⟩, one_underWay _ _, rfl, rfl, rfl, by unfold Due; show (0 - 0 : Time).toNat < _; decide, rfl,
    rfl, fun _ h => nomatch h⟩

theorem witness_StartWindowExpires :
    ({ heard .starting with motion := some .atSpeed }).motion = some .atSpeed
      ∧ (underWay .start (heard .starting)).acct.kd - 385 + 44 ≤ (underWay .start (heard .starting)).cap.c
      ∧ (underWay .start (heard .starting)).acct.kr ≤ (underWay .start (heard .starting)).cap.sink
      ∧ ({ heard .silent with linkStatus := .silent }).motion = some .stopped
      ∧ (heard .starting).attempts + 1 < (underWay .start (heard .starting)).setup.limits.attempts
      ∧ (underWay .start (heard .starting)).setup.limits.attempts ≤ 5
      ∧ ¬ ((heard .starting).floor = some (profile (underWay .start (heard .starting)) 0).recallFloor
        ∧ (heard .starting).between = some false) := by decide +kernel

theorem witness_DeadlineStopsRun :
    Granting (underWay .run (heard .running)) ∧ GeneratorStays (underWay .run (heard .running))
      ∧ TotalsMatch (underWay .run (heard .running)) ∧ record (underWay .run (heard .running)) 0 = some (heard .running)
      ∧ entryOf (underWay .run (heard .running)) 0 = some (run1 .run) ∧ (run1 .run).deadline = some 0
      ∧ Due (underWay .run (heard .running)).time 0 :=
  ⟨.inl rfl, stays_underWay _ _, ⟨rfl, rfl⟩, by decide +kernel, by decide +kernel, rfl, by unfold Due; decide +kernel⟩

/-- Car 7 queued at floor 30, the settle timer running. -/
def unsettled7 : State := { granting7 with cap := { granting7.cap with settle := some 9 } }

theorem stays_granting7 : GeneratorStays granting7 := by
  refine ⟨by decide +kernel, by decide +kernel, 0, by decide +kernel⟩

theorem witness_SpacingExpiryGrants :
    granting7.ret.spacing = some 0 ∧ Due granting7.time 0 ∧ Granting granting7 ∧ GeneratorStays granting7
      ∧ granting7.setup.limits.returnMode = .paced ∧ granting7.cap.settle = none
      ∧ startingCount granting7.acct < granting7.setup.limits.startSlots
      ∧ granting7.ret.queue = [⟨0, 4, false, true, 0, 0⟩]
      ∧ record granting7 0 = some { heard .queued with floor := some 30 } ∧ entryOf granting7 0 = none
      ∧ granting7.acct.kd + 385 ≤ granting7.cap.c ∧ granting7.acct.kr + 298 ≤ granting7.cap.sink
      ∧ unsettled7.cap.settle ≠ none ∧ unsettled7.ret.queue ≠ [] :=
  ⟨rfl, by unfold Due; decide +kernel, .inl rfl, stays_granting7, by decide +kernel, rfl, by decide +kernel, by decide +kernel,
    by decide +kernel, by decide +kernel, by decide +kernel, by decide +kernel, by decide +kernel, by decide +kernel⟩

/-- Two cars queued, car 1 at floor 0 for a run of 1485 pu, passed so often, and car 2 at floor 30 for one of 385 pu. -/
def queueing (mode : ReturnMode) (passed c lookahead groupSize : Nat) : State :=
  let s := spaced (armed .returning { heard .queued with floor := some 0, load := some 100 })
  { s with
    setup := { plan1 with
      profiles := plan1.profiles.put 1 { car7 with drop := 8 }
      limits := { plan1.limits with returnMode := mode, lookahead, passLimit := 3, groupSize, stepLimit := 2000, releaseSource := .host } }
    cars := s.cars.put 1 (some { heard .queued with floor := some 30 })
    cap := { s.cap with c }
    ret := { s.ret with queue := [⟨0, 4, false, true, 0, passed⟩, ⟨1, 4, false, true, 1, 0⟩], nextSeq := 2 } }

theorem queueing_first (mode : ReturnMode) (passed c lookahead groupSize : Nat) :
    FiguresOf (queueing mode passed c lookahead groupSize) 0 ⟨1485, 594, 0⟩ :=
  ⟨{ heard .queued with floor := some 0, load := some 100 }, 0, rfl, rfl, by
    have h : profile (queueing mode passed c lookahead groupSize) 0 = car7 := by
      show (plan1.profiles.put 1 { car7 with drop := 8 }).at 0 = car7; decide +kernel
    rw [h]; decide +kernel⟩

theorem queueing_second (mode : ReturnMode) (passed c lookahead groupSize : Nat) :
    FiguresOf (queueing mode passed c lookahead groupSize) 1 ⟨385, 44, 298⟩ :=
  ⟨{ heard .queued with floor := some 30 }, 30, rfl, rfl, by
    have h : profile (queueing mode passed c lookahead groupSize) 1 = { car7 with drop := 8 } := by
      show (plan1.profiles.put 1 { car7 with drop := 8 }).at 1 = _; decide +kernel
    rw [h]; decide +kernel⟩

theorem queueing_stays (mode : ReturnMode) (passed c lookahead groupSize : Nat) :
    GeneratorStays (queueing mode passed c lookahead groupSize) := stays_underWay .run (heard .queued)

/-- A walk past a refused head; walks that end at a head that has reached the pass limit, at the lookahead depth and at the end of the queue;
a group of one and one of two. -/
theorem witness_QueueServed :
    (let s := queueing .paced 2 1000 1 1
     s.ret.spacing = some 0 ∧ Due s.time 0 ∧ Granting s ∧ (s.ret.queue.map (·.car)).Nodup ∧ AttemptOpen s
      ∧ s.ret.queue = [⟨0, 4, false, true, 0, 2⟩] ++ ⟨1, 4, false, true, 1, 0⟩ :: [] ∧ 1 ≤ s.setup.limits.lookahead
      ∧ 2 < s.setup.limits.passLimit ∧ ¬ RunFits s 0 ⟨1485, 594, 0⟩ ∧ RunFits s 1 ⟨385, 44, 298⟩)
      ∧ (let s := queueing .paced 3 1000 1 1
         AttemptOpen s ∧ s.ret.queue = [] ++ ⟨0, 4, false, true, 0, 3⟩ :: [⟨1, 4, false, true, 1, 0⟩]
          ∧ s.setup.limits.passLimit ≤ 3 ∧ ¬ RunFits s 0 ⟨1485, 594, 0⟩)
      ∧ (let s := queueing .paced 0 1000 0 1
         AttemptOpen s ∧ ([] : List QueueItem).length = s.setup.limits.lookahead ∧ ¬ RunFits s 0 ⟨1485, 594, 0⟩)
      ∧ (let s := queueing .paced 0 100 1 1
         AttemptOpen s ∧ s.ret.queue = [⟨0, 4, false, true, 0, 0⟩] ++ ⟨1, 4, false, true, 1, 0⟩ :: []
          ∧ ¬ RunFits s 0 ⟨1485, 594, 0⟩ ∧ ¬ RunFits s 1 ⟨385, 44, 298⟩)
      ∧ (let s := queueing .grouped 0 1000 1 1
         s.setup.limits.returnMode = .grouped ∧ s.setup.limits.releaseSource = .host ∧ s.ret.group = []
          ∧ s.setup.limits.groupSize ≤ 1 ∧ s.ret.queue = [⟨0, 4, false, true, 0, 0⟩] ++ [⟨1, 4, false, true, 1, 0⟩])
      ∧ (let s := queueing .grouped 0 1000 1 2
         2 ≤ s.setup.limits.groupSize ∧ ([(1485 : Nat), 385].sum) ≤ s.setup.limits.stepLimit) := by
  refine ⟨?_, ?_, ?_, ?_, ?_, ?_⟩ <;>
    (repeat (first
      | unfold AttemptOpen | unfold Granting | unfold GeneratorStays | unfold RunFits | unfold Due)
     decide +kernel)

/-- SERVICE with one parked car that fits, and one whose figures do not. -/
def serviceable (c : Nat) : State :=
  let s := idling .service (heard .parked)
  { s with cap := { s.cap with c } }

theorem only_car_1 (c : Nat) : ∀ d : CarId, d ≠ 0 → (profile (serviceable c) d).enrolled = false := by
  show ∀ d : CarId, d ≠ 0 → (profile halted d).enrolled = false
  decide +kernel

/-- The clause of a designation, and that of none. -/
theorem witness_SpacingExpiryGrants_service :
    (serviceable 54000).ret.spacing = some 0 ∧ Due (serviceable 54000).time 0 ∧ (serviceable 54000).plan.state = .service
      ∧ GeneratorStays (serviceable 54000) ∧ (serviceable 54000).cap.settle = none ∧ Candidate (serviceable 54000) 0
      ∧ Fits (serviceable 54000) 0 ∧ entryOf (serviceable 54000) 0 = none
      ∧ (∀ d, d ≠ 0 → Candidate (serviceable 54000) d → Fits (serviceable 54000) d → entryOf (serviceable 54000) d = none →
        (profile (serviceable 54000) 0).rank < (profile (serviceable 54000) d).rank)
      ∧ ∀ d, Candidate (serviceable 100) d → Fits (serviceable 100) d → entryOf (serviceable 100) d ≠ none :=
  ⟨rfl, by unfold Due; decide +kernel, rfl, stays_underWay .run (heard .parked), rfl,
    ⟨by decide +kernel, by decide +kernel, by decide +kernel, by decide +kernel, ⟨heard .parked, by decide +kernel, by decide +kernel⟩,
      ⟨0, by decide +kernel⟩⟩,
    by unfold Fits; decide +kernel, by decide +kernel,
    fun d hd h => absurd h.1 (by rw [only_car_1 _ d hd]; exact Bool.false_ne_true),
    fun d h f => by
      by_cases hd : d = 0
      · subst hd; exact absurd f (by unfold Fits; decide +kernel)
      · exact absurd h.1 (by rw [only_car_1 _ d hd]; exact Bool.false_ne_true)⟩

/-- A release group of car 1, to be released by the host; its draw and regeneration are exactly what is free. -/
def ready : State :=
  let s := armed .service (heard .staged)
  { s with
    setup := { s.setup with limits := { s.setup.limits with returnMode := .grouped, releaseSource := .host } }
    ret := { s.ret with group := [⟨0, ⟨54000, 44, 6000⟩⟩] } }

theorem witness_ReleaseGroupStarts :
    Taking ready ∧ Granting ready ∧ GeneratorStays ready ∧ ready.setup.limits.returnMode = .grouped
      ∧ ready.setup.limits.releaseSource = .host ∧ ready.ret.group ≠ [] ∧ ready.cap.settle = none ∧ ready.acct.drawOver = false
      ∧ ready.acct.regenOver = false ∧ startingCount ready.acct = 0 ∧ ready.ret.spacing = none
      ∧ ready.acct.kd + (ready.ret.group.map (·.figures.startDraw)).sum ≤ ready.cap.c
      ∧ ready.acct.kr + (ready.ret.group.map (·.figures.regen)).sum ≤ ready.cap.sink ∧ (carsOf ready.ret.group).Nodup
      ∧ ∀ x ∈ ready.ret.group, entryOf ready x.car = none ∧ (record ready x.car).isSome = true ∧ ∀ y ∈ ready.ret.queue, y.car ≠ x.car :=
  ⟨by unfold Taking; decide +kernel, .inr rfl, ⟨by decide +kernel, by decide +kernel, 0, by decide +kernel⟩, rfl, rfl, by decide +kernel,
    rfl, rfl, rfl, by decide +kernel, rfl, by decide +kernel, by decide +kernel, by decide +kernel, by decide +kernel⟩

/-- Car 1 designated. -/
def serving : State :=
  let s := spaced (holding (armed .service (heard .serving)) ⟨5, 0, .service, .holding, none, 2111, 681, none, none, 0, none, none⟩)
  { s with svc := { s.svc with records := s.svc.records.put 0 (some ⟨5, 0, .confirmed⟩) } }

theorem witness_ServiceCountSet :
    Taking serving ∧ 12 ≤ 12 ∧ serving.plan.state = .service ∧ GeneratorStays serving ∧ OneEntryPerCar serving
      ∧ serving.ret.spacing ≠ none ∧ designatedIn serving 0 = 1 :=
  ⟨by unfold Taking; decide +kernel, le_rfl, rfl, ⟨by decide +kernel, by decide +kernel, 0, by decide +kernel⟩,
    by unfold OneEntryPerCar; decide +kernel, by decide +kernel, by decide +kernel⟩

/-- A capture record in a state. -/
def capturing (st : CaptureState) (mode : CaptureMode) (freeze : Bool) : State :=
  let s := armed .service (heard .parked)
  { s with hist := { s.hist with timer := some 0, capture := some ⟨st, .host, 0, 0, 0, 1, freeze, mode, 0, 0⟩ } }

theorem witness_CaptureCommands :
    Taking (armed .service (heard .parked)) ∧ (armed .service (heard .parked)).plan.state ≠ .halted
      ∧ (armed .service (heard .parked)).setup.limits.onHost = true ∧ (armed .service (heard .parked)).hist.capture = none
      ∧ (capturing .stale .repeated true).hist.capture = some ⟨.stale, .host, 0, 0, 0, 1, true, .repeated, 0, 0⟩
      ∧ (capturing .complete .once true).hist.capture = some ⟨.complete, .host, 0, 0, 0, 1, true, .once, 0, 0⟩
      ∧ (capturing .complete .once true).hist.writeIndex = (0 : Fin 512).val :=
  ⟨taking_armed _ _, by decide +kernel, by decide +kernel, by decide +kernel, by decide +kernel, by decide +kernel, by decide +kernel⟩

/-- A COLLECTING capture at its post and before it, one COMPLETE or STALE whose window holds slot 0, and one whose window does not. -/
theorem witness_HistorySampleWritten :
    (capturing .collecting .once true).hist.timer = some 0 ∧ Due (capturing .collecting .once true).time 0
      ∧ (capturing .collecting .once true).hist.writeIndex = (0 : Fin 512).val
      ∧ (capturing .collecting .once true).hist.capture = some ⟨.collecting, .host, 0, 0, 0, 1, true, .once, 0, 0⟩
      ∧ (armed .service (heard .parked)).hist.capture = none
      ∧ (0 + 1 = 1 ∧ 0 + 1 ≠ 2)
      ∧ (capturing .complete .once false).hist.capture = some ⟨.complete, .host, 0, 0, 0, 1, false, .once, 0, 0⟩
      ∧ (capturing .stale .once false).hist.capture = some ⟨.stale, .host, 0, 0, 0, 1, false, .once, 0, 0⟩
      ∧ InWindow ⟨.complete, .host, 0, 0, 0, 1, false, .once, 0, 0⟩ 0
      ∧ InWindow ⟨.stale, .host, 0, 0, 511, 1, false, .once, 0, 0⟩ 511
      ∧ ¬ InWindow ⟨.stale, .host, 0, 1, 0, 1, false, .once, 0, 0⟩ 0 := by
  unfold Due InWindow; decide +kernel

theorem witness_ArmEntersPlan :
    Writable halted ∧ Taking halted ∧ commission halted.setup = none ∧ 0 < halted.setup.limits.silenceThreshold :=
  ⟨writable_halted, taking_halted, by decide +kernel, by decide +kernel⟩

theorem witness_HaltEntersHalted :
    Taking (armed .watching (heard .idle)) ∧ (armed .watching (heard .idle)).plan.state = .watching
      ∧ Taking (armed .outage (heard .idle)) ∧ (armed .outage (heard .idle)).plan.state = .outage :=
  ⟨taking_armed _ _, rfl, taking_armed _ _, rfl⟩

/-- RESTORING with the restore timer at its end. -/
def restoring : State :=
  let s := armed .restoring (heard .held)
  { s with plan := { s.plan with restore := .running 0 } }

theorem witness_RestoreTimeoutEnds :
    restoring.plan.state = .restoring ∧ restoring.plan.restore = .running 0 ∧ Due restoring.time 0
      ∧ effective (withUtil restoring) utilLine = .active ∧ effective (withRetx restoring) utilLine = .inactive
      ∧ effective (withRetx restoring) retxLine = .active ∧ ((withRetx restoring).cap.sets.at 0).status ≠ .offline
      ∧ LinksBusy (polling (withRetx restoring)) := by
  unfold Due LinksBusy; decide +kernel

/-- OUTAGE as UTIL's second sample shows it present. -/
def utilReturning : State := turning (armed .outage (heard .idle)) utilLine .inactive .active

theorem witness_UtilityReturnsFromOutage :
    utilReturning.plan.state = .outage ∧ utilReturning.acct.entries = [] ∧ QualifiesAt utilReturning utilLine .high .active :=
  ⟨rfl, rfl, by decide +kernel, by unfold Due; decide +kernel, by decide +kernel, by decide +kernel,
    .inl ⟨⟨.inactive, by decide +kernel, by decide⟩, by decide +kernel⟩⟩

theorem witness_ReadingChangesNothing : Taking (capturing .complete .once true) ∧ (1 : Nat) ≤ 1 ∧ (48 : Nat) ≤ 48 := by
  unfold Taking; decide +kernel

/-- A record with its one sample present, and the IDLE record. -/
theorem witness_AccountRead :
    Taking (capturing .complete .once true)
      ∧ (capturing .complete .once true).hist.capture = some ⟨.complete, .host, 0, 0, 0, 1, true, .once, 0, 0⟩
      ∧ (0 : Nat) < 0 + 1 ∧ (1 : Nat) ≤ 16 ∧ (armed .service (heard .parked)).hist.capture = none := by
  unfold Taking; decide +kernel

theorem witness_AckFlagsClears : Taking (repliesAt 7 halted) := taking_last_room

theorem witness_IndicatorsWritten : Taking halted ∧ Writable halted := ⟨taking_halted, writable_halted⟩

theorem witness_FramerDiscards :
    halted.port.restart = none ∧ halted.port.framer = .hunting ∧ (20 : Nat) ≤ ((20 : Time) - 0).toNat
      ∧ (∀ b ∈ [(1 : Byte)], b ≠ 0xA5) ∧ 250 < (251 : Byte).toNat ∧ ([0x20, 1] : List Byte).length = (0 : Byte).toNat + 2
      ∧ crc16 [0, 0x20, 1] ≠ (0 : Byte) ++ (0 : Byte) ∧ halted.port.replies.length < 8 ∧ (0x99 : Byte) ∉ requestCodes := by
  decide +kernel

/-- An idle transmitter, a sending one, and one that sends a frame ahead of an accepted RESTART's reply. -/
theorem witness_TransmitterTakesNext :
    halted.port.tx = none ∧ (repliesAt 8 halted).port.replies ≠ []
      ∧ (halted.setPort { halted.port with tx := some (.reply ⟨1, 1, .ok, .nothing⟩) }).port.tx ≠ none
      ∧ (halted.setPort { halted.port with tx := some (.reply ⟨1, 1, .ok, .nothing⟩) }).port.restart = none
      ∧ (let s := halted.setPort { halted.port with
          tx := some (.reply ⟨1, 1, .ok, .nothing⟩), restart := some true, replies := [⟨0x23, 1, .ok, .nothing⟩] }
         s.port.restart = some true ∧ ∀ tag content, s.port.tx ≠ some (.reply ⟨0x23, tag, .ok, content⟩)) := by
  refine ⟨by decide +kernel, by decide +kernel, by decide +kernel, by decide +kernel, rfl, fun tag content h => ?_⟩
  cases h

theorem witness_RefusalsChangeNothing :
    Taking (armed .service (heard .parked)) ∧ HaltedForm (.arm 1 []) .arm 1 ∧ (armed .service (heard .parked)).plan.state ≠ .halted
      ∧ Taking savingPlan ∧ savingPlan.plan.state = .halted ∧ savingPlan.store.save ≠ none
      ∧ Writable State.reset ∧ Taking State.reset ∧ commission State.reset.setup = some .noCars ∧ BadBody (.savePlan 1 []) .savePlan 1 :=
  ⟨taking_armed _ _, .inr (.inr (.inr (.inr (.inr (.inr (.inl ⟨rfl, rfl⟩)))))), by decide +kernel, by unfold Taking; decide +kernel, rfl,
    by decide +kernel, by unfold Writable; decide +kernel, by unfold Taking; decide +kernel, by decide +kernel,
    .inr (.inr (.inr (.inl ⟨[], by decide, rfl, rfl⟩)))⟩

/-- The refusals by range, by state, of a car not enrolled, and the three of RELEASE-GROUP. -/
theorem witness_RefusalsChangeNothing_more :
    Writable halted ∧ OutOfRange halted (.dropCar 1 (.fields 49)) .dropCar 1
      ∧ OutOfRange halted (.setCar 1 (.fields { carForm with drop := 25 })) .setCar 1
      ∧ OutOfRange (armed .service (heard .parked)) (.trimSet 1 (.fields ⟨5, 0⟩)) .trimSet 1
      ∧ OutOfRange (armed .service (heard .parked)) (.holdOut 1 (.fields 0)) .holdOut 1
      ∧ WrongState halted (.halt 1 []) .halt 1 ∧ WrongState halted (.readmit 1 (.fields 1)) .readmit 1
      ∧ WrongState halted (.capture 1 []) .capture 1 ∧ WrongState halted (.lineReport 1 (.fields [⟨2, some .active⟩])) .lineReport 1
      ∧ (profile (armed .service (heard .parked)) 47).enrolled = false
      ∧ ([0] : List Byte) ≠ [] ∧ ¬ Granting halted ∧ ready.setup.limits.returnMode = .grouped
      ∧ ready.setup.limits.releaseSource = .host ∧ Granting (spaced ready)
      ∧ readinessNow (spaced ready) ≠ ⟨true, true, true, true, true, true, true⟩ :=
  ⟨writable_halted, .inl ⟨writable_halted, .inr (.inr (.inl ⟨49, rfl, rfl, .inr (by decide)⟩))⟩,
    .inl ⟨writable_halted, .inr (.inl ⟨_, rfl, rfl, by decide, by decide, .inr (.inr (fun h => absurd h.2.2.2.1 (by decide)))⟩)⟩,
    .inr (.inr (.inr (.inl ⟨_, rfl, rfl, .inr (by decide)⟩))),
    .inr (.inr (.inr (.inr (.inr (.inl ⟨by decide +kernel, 0, .inl rfl, .inl ⟨rfl, rfl⟩⟩))))),
    .inl ⟨rfl, rfl, by decide +kernel, by decide +kernel⟩, .inr (.inl ⟨rfl, 1, .inr ⟨rfl, rfl⟩⟩),
    .inr (.inr (.inl ⟨rfl, rfl, .inl rfl⟩)),
    .inr (.inr (.inr ⟨_, rfl, rfl, by decide, by decide, fun x h => ⟨1, .active, by simpa using h⟩, by decide,
      ⟨2, some .active⟩, by simp, 1, rfl, by decide +kernel⟩)),
    by decide +kernel, by decide, by unfold Granting; decide +kernel, rfl, rfl, .inr rfl, by unfold readinessNow; decide +kernel⟩

/-- A step from a state that meets every invariant. -/
theorem witness_invariants :
    TotalsMatch (serving.setPending [.transmitStart]) ∧ OneEntryPerCar (serving.setPending [.transmitStart])
      ∧ PermitsDistinct (serving.setPending [.transmitStart]) ∧ OvercommitMatches (serving.setPending [.transmitStart])
      ∧ QuietStage (serving.setPending [.transmitStart]) ∧ ReportsBounded (serving.setPending [.transmitStart])
      ∧ RepliesBounded (serving.setPending [.transmitStart]) ∧ (∃ t, step (serving.setPending [.transmitStart]) = .next t)
      ∧ QuietStage halted ∧ SamplingStopped halted ∧ LinksQuiet halted ∧ RecordsMatch halted
      ∧ RecordsMatch (serving.setPending [.transmitStart]) ∧ ReturnsMatch (serving.setPending [.transmitStart])
      ∧ EntriesMatch (serving.setPending [.transmitStart]) ∧ ∃ t, step halted = .next t := by
  refine ⟨by unfold TotalsMatch; decide +kernel, by unfold OneEntryPerCar; decide +kernel,
    by unfold PermitsDistinct PermitNumber; decide +kernel, by unfold OvercommitMatches; decide +kernel, ?_,
    by unfold ReportsBounded; decide +kernel, by unfold RepliesBounded; decide +kernel, ⟨_, rfl⟩, ?_, fun _ => rfl,
    by unfold LinksQuiet; decide +kernel, by unfold RecordsMatch; decide +kernel, by unfold RecordsMatch; decide +kernel, by unfold ReturnsMatch; decide +kernel,
    by unfold EntriesMatch; decide +kernel, _, rfl⟩
  · intro h; exact absurd h (by unfold Quiet; decide +kernel)
  · exact fun _ => ⟨rfl, rfl, rfl⟩

theorem witness_LinksKept :
    LinksBusy (watched.setPending [.transmitStart]) ∧ LinksQuiet (watched.setPending [.transmitStart])
      ∧ ∃ t, step (watched.setPending [.transmitStart]) = .next t :=
  ⟨by unfold LinksBusy; decide +kernel, by unfold LinksQuiet; decide +kernel, _, rfl⟩

/-- A plant that gives C and S as section 6.9 has them before the trip. -/
theorem witness_CapacityFollowsPlantKept :
    CapacityFollowsPlant (tripping.setPending [.settleExpiry]) ∧ ∃ t, step (tripping.setPending [.settleExpiry]) = .next t :=
  ⟨by unfold CapacityFollowsPlant; decide +kernel, _, rfl⟩

theorem witness_CapacityFollowsPlantKept_lines :
    LinesDriven (State.reset.setPending [.supplyDip]) ∧ ∃ t, step (State.reset.setPending [.supplyDip]) = .next t := by
  refine ⟨fun i => ?_, _, rfl⟩
  have direct : ∀ i : IndId, (State.reset.setup.inds.at i).source = .direct := by decide +kernel
  have level : ∀ i : IndId, (State.reset.inds.at i = .high ↔ (State.reset.setup.inds.at i).direct = true) := by decide +kernel
  exact ⟨fun _ => level i, fun h => absurd (direct i) h, fun h => absurd (direct i) h⟩

end Sys2Proof.Tests
end

section
/-! Proofs about the plant lines' requests: how an accepted frame reaches its rule, and QUERY-LINES (R12). -/

namespace Sys2Proof.Proofs.PlantLines

open Sys2Proof.Machine Sys2Proof.Safety

/-- With room in the reply path and no RESTART accepted, a request is answered by its rule, run with the framer hunting
(R167, R168). -/
theorem takeRequest_of_taking {s : State} (h : Taking s) (kind : ReqKind) (tag : Byte) (rule : State → Taken) :
    takeRequest s kind tag rule = answer (requestCode kind) tag (rule (setFramer s .hunting)) := by
  obtain ⟨restart_none, room⟩ := h
  rcases takeFrame_cases s (requestCode kind) tag rule with ⟨restarting, _⟩ | ⟨_, overrun, _⟩ | ⟨_, _, answered⟩
  · simp [restart_none] at restarting
  · omega
  · exact answered

/-- A request without a body, sent without one, is its rule's. -/
@[simp] theorem bare_nil (rule : State → Taken) (s : State) : bare [] rule s = rule s := rfl

/-- The list of all indices holds `i` at place `i`. -/
theorem indices_getElem? {n : Nat} (i : Fin n) : (indices n)[i.val]? = some i := by
  have bound : i.val < (indices n).length := by simp [indices, listOf_length]
  rw [List.getElem?_eq_getElem bound]
  exact congrArg some (listOf_get n id i.val i.isLt bound)

@[simp] theorem clearCounts_at (s : State) (l : LineId) :
    (clearCounts s).lines.at l = { s.lines.at l with count := 0 } := by
  simp [clearCounts]

/-- A WIRED line's view shows its pending sample. -/
theorem lineView_held {s : State} {l : LineId} (wired : (s.setup.lines.at l).source = .wired) :
    (lineView s l).held = (s.lines.at l).held := if_pos wired

/-- A MESSAGE line's view shows its last report time. -/
theorem lineView_lastReport {s : State} {l : LineId} (message : (s.setup.lines.at l).source = .message) :
    (lineView s l).lastReport = (s.lines.at l).lastReport := if_pos message

/-- The views of the QUERY-LINES reply, in order of line number (R12). -/
def lineViews (s : State) : List LineView := (indices 8).map (lineView s)

theorem lineViews_length (s : State) : (lineViews s).length = 8 := by
  simp [lineViews, indices, listOf_length]

theorem lineViews_getElem? (s : State) (l : LineId) : (lineViews s)[l.val]? = some (lineView s l) := by
  simp [lineViews, indices_getElem?]

/-- An accepted QUERY-LINES replies with the time and the lines as they stood, and leaves their counts cleared. -/
theorem exec_queryLines {s : State} (h : Taking s) (tag : Byte) :
    exec (.queryLines tag []) s
      = .next (clearCounts (replied s .queryLines tag .ok (.lines ⟨s.time, lineViews s⟩))) := by
  change Host.Outcome.next (takeRequest s .queryLines tag (bare [] ruleQueryLines)) = _
  rw [takeRequest_of_taking h, bare_nil]
  -- Hunting and the new reply are changes of the port, which no view shows and which clearing the counts keeps.
  rfl

/-- Settles O11: the reply is formed from the lines as they stood, and only then are the counts cleared. -/
theorem queryLinesClears : Obligations.QueryLinesClears := by
  intro s tag taking
  refine ⟨_, lineViews s, exec_queryLines taking tag, rfl, fun l => ?cleared, lineViews_length s, fun l => ?shown⟩
  case cleared => exact clearCounts_at _ l
  case shown =>
    exact ⟨lineView s l, lineViews_getElem? s l, rfl, rfl, rfl, rfl, rfl, rfl, lineView_held, lineView_lastReport⟩

end Sys2Proof.Proofs.PlantLines
end

section
/-! PROOFS. The Demand Calculator (05): a division rounded up, the shares, and the three figures with their ranges. -/

namespace Sys2Proof.Proofs.Demand

open Sys2Proof.Machine

/-! ## Division rounded up (R88) -/

theorem le_mul_divUp {d : Nat} (hd : 0 < d) (n : Nat) : n ≤ d * divUp n d := by
  have euclid := Nat.div_add_mod n d
  have small := Nat.mod_lt n hd
  unfold divUp
  split
  case isTrue exact_quotient => omega
  case isFalse remainder => rw [Nat.mul_succ]; omega

theorem mul_divUp_lt {d : Nat} (hd : 0 < d) (n : Nat) : d * divUp n d < n + d := by
  have euclid := Nat.div_add_mod n d
  unfold divUp
  split
  case isTrue exact_quotient => omega
  case isFalse remainder => rw [Nat.mul_succ]; omega

/-- The rounded quotient is the least number whose multiple reaches the dividend: `divUp · d` is the lower adjoint of `d * ·`. -/
theorem divUp_le_iff {n d c : Nat} (hd : 0 < d) : divUp n d ≤ c ↔ n ≤ d * c := by
  constructor
  · intro h
    exact (le_mul_divUp hd n).trans (Nat.mul_le_mul_left d h)
  · intro h
    have below : d * divUp n d < d * (c + 1) := (mul_divUp_lt hd n).trans_le (Nat.add_le_add_right h d)
    exact Nat.le_of_lt_succ (Nat.lt_of_mul_lt_mul_left below)

theorem lt_divUp_iff {n d c : Nat} (hd : 0 < d) : c < divUp n d ↔ d * c < n := by
  rw [← not_le, divUp_le_iff hd, not_le]

@[simp] theorem divUp_zero (d : Nat) : divUp 0 d = 0 := by simp [divUp]

/-! ## The shares (R81) -/

theorem share_le (points balance : Nat) : share points balance ≤ 1500 := Nat.min_le_left _ _

@[simp] theorem share_zero (balance : Nat) : share 0 balance = 0 := by simp [share]

theorem motoringShare_le (m : Int) (balance : Nat) : motoringShare m balance ≤ 1500 := share_le _ _

theorem regenShare_le (m : Int) (balance : Nat) : regenShare m balance ≤ 1500 := share_le _ _

/-- A balanced or regenerating car does not motor. -/
theorem motoringShare_of_nonpos {m : Int} (h : m ≤ 0) (balance : Nat) : motoringShare m balance = 0 := by
  rw [motoringShare, Int.toNat_of_nonpos h, share_zero]

/-- A balanced or motoring car does not regenerate. -/
theorem regenShare_of_nonneg {m : Int} (h : 0 ≤ m) (balance : Nat) : regenShare m balance = 0 := by
  rw [regenShare, Int.toNat_of_nonpos (neg_nonpos.mpr h), share_zero]

/-! ## The products (R82 to R84) -/

/-- The dividend of the run draw (R82). -/
def runProduct (p : CarProfile) (m : Int) : Nat := p.power * (motoringShare m p.balance + p.loss)

/-- The dividend of the start draw, with the acceleration floor (R83). -/
def startProduct (p : CarProfile) (m : Int) : Nat :=
  p.power * (max (motoringShare m p.balance) 200 + p.loss) * p.inrush

/-- The dividend of the regeneration (R84). -/
def regenProduct (p : CarProfile) (m : Int) : Nat := p.power * regenShare m p.balance * p.efficiency

theorem runDraw_eq (p : CarProfile) (m : Int) : runDraw p m = divUp (runProduct p m) 1000 := rfl

theorem startDraw_eq (p : CarProfile) (m : Int) : startDraw p m = divUp (startProduct p m) 100000 := rfl

theorem regeneration_of_capable {p : CarProfile} (h : p.regenCapable = true) (m : Int) :
    regeneration p m = divUp (regenProduct p m) 100000 := if_pos h

theorem regeneration_of_not_capable {p : CarProfile} (h : p.regenCapable = false) (m : Int) : regeneration p m = 0 := by
  simp [regeneration, h]

section
variable {p : CarProfile} (m : Int)

theorem runProduct_le (power : p.power ≤ 4000) (loss : p.loss ≤ 300) : runProduct p m ≤ 7200000 :=
  calc runProduct p m
    _ ≤ 4000 * (1500 + 300) := Nat.mul_le_mul power (Nat.add_le_add (motoringShare_le m p.balance) loss)
    _ = 7200000 := rfl

/-- The losses are drawn even by a car that does not motor. -/
theorem le_runProduct (power : 50 ≤ p.power) (loss : 20 ≤ p.loss) : 1000 ≤ runProduct p m :=
  calc 1000
    _ = 50 * 20 := rfl
    _ ≤ runProduct p m := Nat.mul_le_mul power (loss.trans (Nat.le_add_left _ _))

theorem startProduct_le (power : p.power ≤ 4000) (loss : p.loss ≤ 300) (inrush : p.inrush ≤ 350) :
    startProduct p m ≤ 2520000000 := by
  have startShare : max (motoringShare m p.balance) 200 ≤ 1500 := max_le (motoringShare_le m p.balance) (by decide)
  calc startProduct p m
    _ ≤ 4000 * (1500 + 300) * 350 := Nat.mul_le_mul (Nat.mul_le_mul power (Nat.add_le_add startShare loss)) inrush
    _ = 2520000000 := rfl

/-- The acceleration floor and the losses are drawn at the start by every car. -/
theorem le_startProduct (power : 50 ≤ p.power) (loss : 20 ≤ p.loss) (inrush : 100 ≤ p.inrush) :
    1100000 ≤ startProduct p m :=
  calc 1100000
    _ = 50 * (200 + 20) * 100 := rfl
    _ ≤ startProduct p m := Nat.mul_le_mul (Nat.mul_le_mul power (Nat.add_le_add (le_max_right _ _) loss)) inrush

theorem regenProduct_le (power : p.power ≤ 4000) (efficiency : p.efficiency ≤ 100) : regenProduct p m ≤ 600000000 :=
  calc regenProduct p m
    _ ≤ 4000 * 1500 * 100 := Nat.mul_le_mul (Nat.mul_le_mul power (regenShare_le m p.balance)) efficiency
    _ = 600000000 := rfl

/-! ## The ranges of the figures (R82 to R84) -/

theorem runDraw_pos (power : 50 ≤ p.power) (loss : 20 ≤ p.loss) : 1 ≤ runDraw p m := by
  have product := le_runProduct m power loss
  exact (lt_divUp_iff (by decide)).mpr (show 1000 * 0 < runProduct p m by omega)

theorem runDraw_le (power : p.power ≤ 4000) (loss : p.loss ≤ 300) : runDraw p m ≤ 7200 :=
  (divUp_le_iff (by decide)).mpr (runProduct_le m power loss)

theorem le_startDraw (power : 50 ≤ p.power) (loss : 20 ≤ p.loss) (inrush : 100 ≤ p.inrush) : 11 ≤ startDraw p m := by
  have product := le_startProduct m power loss inrush
  exact (lt_divUp_iff (by decide)).mpr (show 100000 * 10 < startProduct p m by omega)

theorem startDraw_le (power : p.power ≤ 4000) (loss : p.loss ≤ 300) (inrush : p.inrush ≤ 350) : startDraw p m ≤ 25200 :=
  (divUp_le_iff (by decide)).mpr (startProduct_le m power loss inrush)

theorem regeneration_le (power : p.power ≤ 4000) (efficiency : p.efficiency ≤ 100) : regeneration p m ≤ 6000 := by
  cases capable : p.regenCapable with
  | false => rw [regeneration_of_not_capable capable]; exact Nat.zero_le _
  | true =>
    rw [regeneration_of_capable capable, divUp_le_iff (by decide)]
    exact regenProduct_le m power efficiency

end

/-- Settles O31: each figure is its product rounded up, and the product's bounds divided give the figure's range. -/
theorem figuresRoundedUp : Obligations.FiguresRoundedUp := by
  intro p m power_ge power_le _ _ loss_ge loss_le inrush_ge inrush_le _ efficiency_le
  refine ⟨fun h => motoringShare_of_nonpos h _, fun h => regenShare_of_nonneg h _,
    runProduct_le m power_le loss_le, le_mul_divUp (by decide) _, mul_divUp_lt (by decide) _,
    runDraw_pos m power_ge loss_ge, runDraw_le m power_le loss_le,
    startProduct_le m power_le loss_le inrush_le, le_mul_divUp (by decide) _, mul_divUp_lt (by decide) _,
    le_startDraw m power_ge loss_ge inrush_ge, startDraw_le m power_le loss_le inrush_le,
    regenProduct_le m power_le efficiency_le, fun capable => ?rounded,
    fun notCapable => regeneration_of_not_capable notCapable m, regeneration_le m power_le efficiency_le⟩
  case rounded =>
    rw [regeneration_of_capable capable]
    exact ⟨le_mul_divUp (by decide) _, mul_divUp_lt (by decide) _⟩

end Sys2Proof.Proofs.Demand
end

section
/-! PROOFS. The Indication Lines (10): each source's condition is what Table 10-5 says, a line driven from it has the level of
R178, a reply leaves the lines alone; and ACK-FLAGS, which drives them again (R175). -/

namespace Sys2Proof.Proofs.IndicationLines

open Sys2Proof.Machine Sys2Proof.Safety

/-! ## The conditions (Table 10-5) -/

theorem anyCarIn_iff (s : State) (states : List CarState) :
    anyCarIn s states = true ↔ ∃ c r, record s c = some r ∧ r.state ∈ states := by
  unfold anyCarIn
  simp only [List.any_eq_true, mem_indices, true_and]
  exact exists_congr fun c => by cases h : record s c <;> simp [stateOf, h]

theorem anyCarIn_eq_false_iff (s : State) (states : List CarState) :
    anyCarIn s states = false ↔ ∀ c r, record s c = some r → r.state ∉ states := by
  simp [← Bool.not_eq_true, anyCarIn_iff]

theorem isShed_iff (e : Entry) : e.isShed = true ↔ e.phase = .stop ∧ e.stopCause = some .shed := by
  simp [Entry.isShed]

theorem overcommitted_iff (s : State) : overcommitted s = true ↔ s.acct.drawOver = true ∨ s.acct.regenOver = true := by
  simp [overcommitted]

theorem derated_iff (s : State) : derated s = true ↔ effective s alarmLine = .active := by
  simp [derated, isActive]

/-- The condition the lines are driven from holds exactly when Table 10-5's does. -/
theorem condition_iff_sourceTrue (s : State) (src : IndSource) : condition s src = true ↔ sourceTrue s src := by
  cases src with
  | inReturn => exact beq_iff_eq
  | allRecovered =>
    simp only [condition, sourceTrue, Bool.and_eq_true, beq_iff_eq, Bool.not_eq_true', anyCarIn_eq_false_iff]
  | overcommit => exact overcommitted_iff s
  | shedding => simp only [condition, sourceTrue, List.any_eq_true, isShed_iff]
  | prealarm => exact derated_iff s
  | anyFailed => simp only [condition, sourceTrue, anyCarIn_iff, List.mem_singleton]
  | halted => exact beq_iff_eq
  | supplyDip => exact Iff.rfl
  | storeFault => exact Iff.rfl
  | direct => exact Bool.false_eq_true.to_iff

/-! ## The level of a line (R178) -/

@[simp] theorem levelFor_eq_high_iff (b : Bool) : levelFor b = .high ↔ b = true := by cases b <;> decide

@[simp] theorem levelFor_eq_low_iff (b : Bool) : levelFor b = .low ↔ b = false := by cases b <;> decide

theorem indLevel_of_direct (s : State) {set : IndSettings} (direct : set.source = .direct) :
    indLevel s set = levelFor set.direct := by
  simp [indLevel, direct]

theorem indLevel_of_not_direct (s : State) {set : IndSettings} (not_direct : set.source ≠ .direct) :
    indLevel s set = levelFor (condition s set.source != set.invert) := by
  unfold indLevel
  split
  case h_1 direct => exact absurd direct not_direct
  case h_2 => rfl

/-- A line at the level formed from its settings is driven as R178 says, inverted or not. -/
theorem lineDriven_of_indLevel {s : State} {i : IndId} (level : s.inds.at i = indLevel s (s.setup.inds.at i)) :
    LineDriven s i := by
  unfold LineDriven
  rw [level]
  refine ⟨fun direct => ?_, fun not_direct plain => ?_, fun not_direct inverted => ?_⟩
  · rw [indLevel_of_direct s direct, levelFor_eq_high_iff]
  · rw [indLevel_of_not_direct s not_direct, plain, Bool.bne_false, levelFor_eq_high_iff, condition_iff_sourceTrue]
  · rw [indLevel_of_not_direct s not_direct, inverted, Bool.bne_true, levelFor_eq_low_iff, Bool.not_eq_false',
      condition_iff_sourceTrue]

/-- No source's condition reads the lines' own levels. -/
@[simp] theorem indLevel_setInds (s : State) (x : Table PinLevel 2) (set : IndSettings) :
    indLevel (s.setInds x) set = indLevel s set := rfl

theorem linesDriven_driveLines (s : State) : LinesDriven (driveLines s) := by
  refine fun i => lineDriven_of_indLevel ?_
  simp [driveLines]

/-- Of the port, the lines read the supply-dip flag alone, and a reply at the tail of the reply path leaves that. -/
theorem linesDriven_answer_iff (kind tag : Byte) (t : Taken) : LinesDriven (answer kind tag t) ↔ LinesDriven t.st := by
  have sources : sourceTrue (answer kind tag t) = sourceTrue t.st := by
    funext src
    cases src <;> rfl
  simp only [LinesDriven, LineDriven, sources]
  rfl

/-! ## ACK-FLAGS (R175) -/

/-- An accepted ACK-FLAGS is answered by its rule in every plan state, a save in progress or not. -/
theorem exec_ackFlags {s : State} (h : Taking s) (tag : Byte) :
    exec (.ackFlags tag []) s
      = .next (answer (requestCode .ackFlags) tag (ruleAckFlags (setFramer s .hunting))) := by
  change Host.Outcome.next (takeRequest s .ackFlags tag (bare [] ruleAckFlags)) = _
  rw [PlantLines.takeRequest_of_taking h, PlantLines.bare_nil]

/-- Settles O49: the rule forms the reply from the flags before it clears them and drives the lines after, and the reply placed
then leaves the lines as driven. -/
theorem ackFlagsClears : Obligations.AckFlagsClears := by
  intro s tag taking
  refine ⟨_, exec_ackFlags taking tag, ?driven, ?rest_kept⟩
  case driven => exact (linesDriven_answer_iff _ _ _).mpr (linesDriven_driveLines _)
  case rest_kept => rfl

end Sys2Proof.Proofs.IndicationLines
end
section
/-! PROOFS. The Power Account's own operations (6.1, 6.2, 6.6): the totals as sums, a move to STOP phase, and the completion of
an event in the account, which changes the account, the port, the history and the selector alone. -/
namespace Sys2Proof.Proofs.Account
open Sys2Proof.Machine Sys2Proof.Safety

/-- A change of an entry that the totals and the table's order do not see: a move to STOP phase, a lapsed window (R96, R97). -/
def Marks (f : Entry → Entry) : Prop :=
  ∀ e, (f e).car = e.car ∧ (f e).permit = e.permit ∧ (f e).draw = e.draw ∧ (f e).regen = e.regen

theorem marks_toStop (cause : StopCause) : Marks (Entry.toStop cause) := fun _ => ⟨rfl, rfl, rfl, rfl⟩

theorem marks_lapseWindow : Marks lapseWindow := fun _ => ⟨rfl, rfl, rfl, rfl⟩

/-! ## Lists with one member changed -/

section
variable {α : Type} {p : α → Bool} {f : α → α}

theorem alterFirst_of_find?_none : ∀ {l : List α}, l.find? p = none → alterFirst p f l = l
  | [], _ => rfl
  | x :: xs, h => by
    rw [List.find?_cons] at h
    cases px : p x <;> simp only [px] at h
    · simp [alterFirst, px, alterFirst_of_find?_none h]
    · cases h

/-- What a sum gains by a change of the member found first. -/
theorem sum_alterFirst (amount : α → Nat) {x : α} : ∀ {l : List α}, l.find? p = some x →
    amount x ≤ (l.map amount).sum ∧
      ((alterFirst p f l).map amount).sum = (l.map amount).sum - amount x + amount (f x)
  | [], h => by cases h
  | y :: ys, h => by
    rw [List.find?_cons] at h
    cases py : p y <;> simp only [py] at h
    · obtain ⟨le, sum⟩ := sum_alterFirst amount h
      simp only [alterFirst, py, List.map_cons, List.sum_cons, Bool.false_eq_true, if_false, sum]
      omega
    · cases h
      simp [alterFirst, py]
      omega

/-- What a sum loses by the removal of the member found first. -/
theorem sum_eraseP (amount : α → Nat) {x : α} : ∀ {l : List α}, l.find? p = some x →
    ((l.eraseP p).map amount).sum = (l.map amount).sum - amount x
  | [], h => by cases h
  | y :: ys, h => by
    rw [List.find?_cons] at h
    cases py : p y <;> simp only [py] at h
    · have le := (sum_alterFirst (f := id) amount h).1
      simp only [List.eraseP_cons, py, List.map_cons, List.sum_cons, cond_false, sum_eraseP amount h]
      omega
    · cases h
      simp [py]

/-- A change that keeps a field keeps the list of it. -/
theorem map_alterFirst {β : Type} (g : α → β) (keeps : ∀ x, g (f x) = g x) :
    ∀ l : List α, (alterFirst p f l).map g = l.map g
  | [] => rfl
  | x :: xs => by
    unfold alterFirst
    split
    · simp [keeps]
    · simp [map_alterFirst g keeps xs]

/-- Where a field tells the members apart, the member found first is the only one. -/
theorem alterFirst_eq_map {β : Type} [DecidableEq β] (g : α → β) (b : β) :
    ∀ {l : List α}, (l.map g).Nodup → alterFirst (fun x => g x == b) f l = l.map (fun x => if g x = b then f x else x)
  | [], _ => rfl
  | x :: xs, nodup => by
    rw [List.map_cons, List.nodup_cons] at nodup
    obtain ⟨fresh, rest⟩ := nodup
    by_cases same : g x = b
    · have others : ∀ y ∈ xs, (if g y = b then f y else y) = y := fun y mem =>
        if_neg (fun also : g y = b => fresh (same.trans also.symm ▸ List.mem_map_of_mem mem))
      simp [alterFirst, same, List.map_congr_left others]
    · simp [alterFirst, same, alterFirst_eq_map g b rest]

end

/-! ## The table -/

@[simp] theorem change_entries (a : Account) (c : CarId) (f : Entry → Entry) :
    (a.change c f).entries = alterFirst (fun e => e.car == c) f a.entries := by
  unfold Account.change
  split
  · rfl
  · rename_i missing
    exact (alterFirst_of_find?_none missing).symm

@[simp] theorem remove_entries (a : Account) (c : CarId) :
    (a.remove c).entries = a.entries.eraseP (fun e => e.car == c) := by
  unfold Account.remove
  split
  · rfl
  · rename_i missing
    rw [List.eraseP_of_forall_not]
    simpa using missing

/-- The fields of the account that no change of its entries touches. -/
theorem change_rest (a : Account) (c : CarId) (f : Entry → Entry) :
    (a.change c f).drawOver = a.drawOver ∧ (a.change c f).regenOver = a.regenOver
      ∧ (a.change c f).drawExhausted = a.drawExhausted ∧ (a.change c f).regenExhausted = a.regenExhausted
      ∧ (a.change c f).nextPermit = a.nextPermit := by
  unfold Account.change
  split <;> exact ⟨rfl, rfl, rfl, rfl, rfl⟩

/-- The totals of an account are the sums over its entries (R92). -/
def Summed (a : Account) : Prop :=
  a.kd = (a.entries.map (·.draw)).sum ∧ a.kr = (a.entries.map (·.regen)).sum

theorem totalsMatch_iff (s : State) : TotalsMatch s ↔ Summed s.acct := Iff.rfl

theorem summed_add {a : Account} (h : Summed a) (e : Entry) : Summed (a.add e) := by
  obtain ⟨kd, kr⟩ := h
  simp [Summed, Account.add, kd, kr]

theorem summed_change {a : Account} (h : Summed a) (c : CarId) (f : Entry → Entry) :
    Summed (a.change c f) := by
  obtain ⟨kd, kr⟩ := h
  unfold Account.change
  split
  case h_1 e found =>
    exact ⟨by rw [(sum_alterFirst _ found).2, kd], by rw [(sum_alterFirst _ found).2, kr]⟩
  case h_2 => exact ⟨kd, kr⟩

theorem summed_remove {a : Account} (h : Summed a) (c : CarId) : Summed (a.remove c) := by
  obtain ⟨kd, kr⟩ := h
  unfold Account.remove
  split
  case h_1 e found => exact ⟨by rw [sum_eraseP _ found, kd], by rw [sum_eraseP _ found, kr]⟩
  case h_2 => exact ⟨kd, kr⟩

/-- A marked entry leaves the totals where they are, as long as those are the sums. -/
theorem change_totals {a : Account} (h : Summed a) (c : CarId) {f : Entry → Entry} (marks : Marks f) :
    (a.change c f).kd = a.kd ∧ (a.change c f).kr = a.kr := by
  obtain ⟨kd, kr⟩ := h
  unfold Account.change
  split
  case h_1 e found =>
    obtain ⟨_, _, draw, regen⟩ := marks e
    have leDraw := (sum_alterFirst (f := f) (·.draw) found).1
    have leRegen := (sum_alterFirst (f := f) (·.regen) found).1
    simp only [draw, regen]
    omega
  case h_2 => exact ⟨rfl, rfl⟩

/-! ## A move to STOP phase and shedding -/

/-- One state is another with a different account, port, history and selector. -/
def AccountOnly (s t : State) : Prop := t = { s with acct := t.acct, port := t.port, hist := t.hist, svc := t.svc }

theorem AccountOnly.refl (s : State) : AccountOnly s s := rfl

theorem AccountOnly.trans {s t u : State} (h : AccountOnly s t) (g : AccountOnly t u) : AccountOnly s u := by
  unfold AccountOnly at *
  rw [g, h]

/-- What an event in the account keeps when the totals are the sums: the totals, both overcommit flags, the permit counter. -/
def FlagsStand (s t : State) : Prop :=
  Summed t.acct ∧ t.acct.kd = s.acct.kd ∧ t.acct.kr = s.acct.kr ∧ t.acct.drawOver = s.acct.drawOver
    ∧ t.acct.regenOver = s.acct.regenOver ∧ t.acct.nextPermit = s.acct.nextPermit

theorem FlagsStand.refl {s : State} (h : TotalsMatch s) : FlagsStand s s := ⟨h, rfl, rfl, rfl, rfl, rfl⟩

theorem FlagsStand.trans {s t u : State} (h : FlagsStand s t) (g : FlagsStand t u) : FlagsStand s u := by
  obtain ⟨_, kd, kr, draw, regen, next⟩ := h
  obtain ⟨sums, kd', kr', draw', regen', next'⟩ := g
  exact ⟨sums, kd'.trans kd, kr'.trans kr, draw'.trans draw, regen'.trans regen, next'.trans next⟩

theorem flagsStand_change {s : State} (h : TotalsMatch s) (c : CarId) {f : Entry → Entry} (marks : Marks f) :
    FlagsStand s (s.setAcct (s.acct.change c f)) := by
  obtain ⟨draw, regen, _, _, next⟩ := change_rest s.acct c f
  obtain ⟨kd, kr⟩ := change_totals h c marks
  exact ⟨summed_change h c f, kd, kr, draw, regen, next⟩

/-- What a move to STOP phase does: nothing where R97 does not move the entry; else the entry is marked, and a designation ends
with it. -/
theorem moveToStop_cases (w : Work) (c : CarId) (cause : StopCause) :
    moveToStop w c cause = w
      ∨ ∃ e, entryOf w.st c = some e ∧ e.movable = true
        ∧ ((e.designates = false
            ∧ moveToStop w c cause = w.up (fun s => s.setAcct (s.acct.change c (Entry.toStop cause))))
          ∨ (e.designates = true
            ∧ moveToStop w c cause
              = ((w.up (fun s => s.setAcct (s.acct.change c (Entry.toStop cause)))).up
                  (fun s => endDesignation s c)).noteSs)) := by
  unfold moveToStop
  split
  case h_1 e found =>
    by_cases movable : e.movable
    · refine Or.inr ⟨e, found, movable, ?_⟩
      cases designates : e.designates <;> simp [movable]
    · exact Or.inl (if_neg movable)
  case h_2 => exact Or.inl rfl

theorem accountOnly_moveToStop (w : Work) (c : CarId) (cause : StopCause) : AccountOnly w.st (moveToStop w c cause).st := by
  rcases moveToStop_cases w c cause with stands | ⟨_, _, _, ⟨_, moved⟩ | ⟨_, moved⟩⟩
  · rw [stands]; exact AccountOnly.refl _
  · rw [moved]; rfl
  · rw [moved]; rfl

theorem flagsStand_moveToStop {w : Work} (h : TotalsMatch w.st) (c : CarId) (cause : StopCause) :
    FlagsStand w.st (moveToStop w c cause).st := by
  rcases moveToStop_cases w c cause with stands | ⟨_, _, _, ⟨_, moved⟩ | ⟨_, moved⟩⟩
  · rw [stands]; exact FlagsStand.refl h
  · rw [moved]; exact flagsStand_change h c (marks_toStop cause)
  · rw [moved]; exact flagsStand_change h c (marks_toStop cause)

/-- A fold of steps that are in a reflexive, transitive relation stays in it. -/
theorem foldl_rel {α σ : Type} {R : σ → σ → Prop} (refl : ∀ x, R x x) (trans : ∀ {x y z}, R x y → R y z → R x z)
    {f : σ → α → σ} (step : ∀ x a, R x (f x a)) : ∀ (l : List α) (x : σ), R x (l.foldl f x)
  | [], x => refl x
  | a :: l, x => trans (step x a) (foldl_rel refl trans step l (f x a))

theorem accountOnly_shedAll (w : Work) (chosen : List Entry) : AccountOnly w.st (shedAll w chosen).st :=
  foldl_rel (R := fun v u : Work => AccountOnly v.st u.st) (fun _ => AccountOnly.refl _) AccountOnly.trans
    (fun _ _ => accountOnly_moveToStop _ _ _) chosen w

theorem flagsStand_shedAll {w : Work} (h : TotalsMatch w.st) (chosen : List Entry) :
    FlagsStand w.st (shedAll w chosen).st :=
  closed_foldl (Q := fun v : Work => FlagsStand w.st v.st)
    (fun _ _ stands => stands.trans (flagsStand_moveToStop stands.1 _ _)) (FlagsStand.refl h)

theorem accountOnly_shedDraw (w : Work) : AccountOnly w.st (shedDraw w).1.st := by
  unfold shedDraw
  split
  · exact accountOnly_shedAll _ _
  · exact AccountOnly.refl _

theorem accountOnly_shedRegen (w : Work) : AccountOnly w.st (shedRegen w).1.st := by
  unfold shedRegen
  split
  · exact accountOnly_shedAll _ _
  · exact AccountOnly.refl _

theorem flagsStand_shedDraw {w : Work} (h : TotalsMatch w.st) : FlagsStand w.st (shedDraw w).1.st := by
  unfold shedDraw
  split
  · exact flagsStand_shedAll h _
  · exact FlagsStand.refl h

theorem flagsStand_shedRegen {w : Work} (h : TotalsMatch w.st) : FlagsStand w.st (shedRegen w).1.st := by
  unfold shedRegen
  split
  · exact flagsStand_shedAll h _
  · exact FlagsStand.refl h

/-! ## The completion of an event in the account (R100) -/

/-- The account with both flags matched, before any shedding. -/
def flaggedWork (w : Work) : Work := w.up (fun s => s.setAcct (s.acct.flagged s.cap.c s.cap.sink))

/-- The two shedding runs of an event, draw before regen. -/
def shedBoth (w : Work) : Work := (shedRegen (shedDraw (flaggedWork w)).1).1

/-- What the shedding runs of an event did, draw and regen. -/
def runsOf (w : Work) : ShedRun × ShedRun :=
  ((shedDraw (flaggedWork w)).2, (shedRegen (shedDraw (flaggedWork w)).1).2)

/-- The entries that an event sheds, as its alerts list them. -/
def shedOf (w : Work) : List ShedEntry :=
  ((runsOf w).1.shed ++ (runsOf w).2.shed).map (fun e => ⟨e.permit, e.car⟩)

/-- The shed account with the outcome of both runs noted. -/
def notedState (w : Work) : State :=
  (shedBoth w).st.setAcct
    { (shedBoth w).st.acct with drawExhausted := (runsOf w).1.exhausted, regenExhausted := (runsOf w).2.exhausted }

/-- The reports of an event queued. -/
def alertedState (w : Work) : State :=
  (alertCauses w.st.acct (notedState w).acct (runsOf w).1 (runsOf w).2).foldl
    (fun acc cause => queueReport acc (alertOf acc cause (shedOf w))) (notedState w)

/-- Draw overcommit that has become set is offered to the capture. -/
def offeredState (w : Work) : State :=
  if !w.st.acct.drawOver && (alertedState w).acct.drawOver then offerTrigger (alertedState w) .drawOvercommit
  else alertedState w

theorem settleAccount_eq (w : Work) (eased : Bool) :
    settleAccount w eased
      = if eased then noteEased ⟨offeredState w, (shedBoth w).nt⟩ else ⟨offeredState w, (shedBoth w).nt⟩ := by
  unfold settleAccount
  extract_lets old w1 d r shed w2 w3 w4
  have same : w4 = ⟨offeredState w, (shedBoth w).nt⟩ := by
    unfold w4 offeredState
    by_cases offered : (!w.st.acct.drawOver && (alertedState w).acct.drawOver) = true
    · exact (if_pos offered).trans (by rw [if_pos offered]; rfl)
    · exact (if_neg offered).trans (by rw [if_neg offered]; rfl)
  rw [same]

theorem accountOnly_noteEased (w : Work) : AccountOnly w.st (noteEased w).st := rfl

theorem accountOnly_alerted (w : Work) : AccountOnly w.st (alertedState w) := by
  have shed : AccountOnly w.st (shedBoth w).st :=
    (show AccountOnly w.st (flaggedWork w).st from rfl).trans
      ((accountOnly_shedDraw _).trans (accountOnly_shedRegen _))
  exact (shed.trans (show AccountOnly _ (notedState w) from rfl)).trans
    (foldl_rel (f := fun acc cause => queueReport acc (alertOf acc cause (shedOf w))) AccountOnly.refl AccountOnly.trans
      (fun _ _ => rfl) _ _)

theorem accountOnly_offered (w : Work) : AccountOnly w.st (offeredState w) := by
  unfold offeredState offerTrigger
  split
  · split
    · exact (accountOnly_alerted w).trans rfl
    · exact accountOnly_alerted w
  · exact accountOnly_alerted w

/-- The completion of an event in the account changes the account, the port, the history and the selector alone. -/
theorem accountOnly_settleAccount (w : Work) (eased : Bool) : AccountOnly w.st (settleAccount w eased).st := by
  rw [settleAccount_eq]
  split
  · exact (accountOnly_offered w).trans (accountOnly_noteEased ⟨offeredState w, (shedBoth w).nt⟩)
  · exact accountOnly_offered w

theorem settleAccount_plan (w : Work) (eased : Bool) : (settleAccount w eased).st.plan = w.st.plan := by
  rw [accountOnly_settleAccount w eased]

theorem settleAccount_cars (w : Work) (eased : Bool) : (settleAccount w eased).st.cars = w.st.cars := by
  rw [accountOnly_settleAccount w eased]

theorem settleAccount_link (w : Work) (eased : Bool) : (settleAccount w eased).st.link = w.st.link := by
  rw [accountOnly_settleAccount w eased]

theorem settleAccount_ret (w : Work) (eased : Bool) : (settleAccount w eased).st.ret = w.st.ret := by
  rw [accountOnly_settleAccount w eased]

theorem alerted_acct (w : Work) : (alertedState w).acct = (notedState w).acct :=
  closed_foldl (Q := fun s : State => s.acct = (notedState w).acct)
    (f := fun acc cause => queueReport acc (alertOf acc cause (shedOf w))) (fun _ _ h => h) rfl

theorem offered_acct (w : Work) : (offeredState w).acct = (notedState w).acct := by
  unfold offeredState offerTrigger
  split
  · split <;> exact alerted_acct w
  · exact alerted_acct w

/-- The account that an event leaves: the shed one, with the outcome of both runs noted. -/
theorem settleAccount_acct (w : Work) (eased : Bool) : (settleAccount w eased).st.acct = (notedState w).acct := by
  rw [settleAccount_eq]
  split
  · exact offered_acct w
  · exact offered_acct w

/-- Where the totals are the sums, an event keeps them and leaves both flags matched (R92, R100). -/
theorem flagsStand_settleAccount {w : Work} (h : TotalsMatch w.st) (eased : Bool) :
    FlagsStand (flaggedWork w).st (settleAccount w eased).st := by
  have shed : FlagsStand (flaggedWork w).st (shedBoth w).st := by
    have draw : FlagsStand (flaggedWork w).st (shedDraw (flaggedWork w)).1.st := flagsStand_shedDraw h
    exact draw.trans (flagsStand_shedRegen draw.1)
  obtain ⟨sums, kd, kr, draw, regen, next⟩ := shed
  unfold FlagsStand
  rw [settleAccount_acct]
  exact ⟨sums, kd, kr, draw, regen, next⟩

theorem totalsMatch_settleAccount {w : Work} (h : TotalsMatch w.st) (eased : Bool) :
    TotalsMatch (settleAccount w eased).st := (flagsStand_settleAccount h eased).1

theorem overcommitMatches_settleAccount {w : Work} (h : TotalsMatch w.st) (eased : Bool) :
    OvercommitMatches (settleAccount w eased).st := by
  obtain ⟨_, kd, kr, draw, regen, _⟩ := flagsStand_settleAccount h eased
  have cap : (settleAccount w eased).st.cap = w.st.cap := by rw [accountOnly_settleAccount w eased]
  unfold OvercommitMatches
  rw [kd, kr, draw, regen, cap]
  simp [flaggedWork, Account.flagged]

end Sys2Proof.Proofs.Account
end
section
/-! PROOFS. What an event does below the plan's exits, said once for every property: a property that the pieces keep is kept by
each operation of the blocks (sections 3 to 9). The pieces are coarser than those of `Closed`: an entry goes in, out or to another
phase together with the completion of the event in the account (R100), and each piece names the plan states it can occur in. -/
namespace Sys2Proof.Proofs.Upkeep
open Sys2Proof.Machine Sys2Proof.Safety Sys2Proof.Proofs.Account

/-- Nothing is in flight, waits or runs on the car links (R71, R72). -/
def LinksStill (l : LinkCtl) : Prop :=
  l.a.exchange = none ∧ l.b.exchange = none ∧ ∀ c, (l.cars.at c).slot = none ∧ (l.cars.at c).silentHold = none

/-- A property that every piece of an event keeps, but for the plan's own change of state. -/
structure Kept (P : State → Prop) : Prop where
  car : ∀ {s : State} {c f}, P s → P (alterCar s c f)
  carsAll : ∀ {s : State} {f}, P s → P (alterCars s f)
  link : ∀ {s : State} {x : LinkCtl}, (s.plan.state = .halted → LinksStill s.link → LinksStill x) → P s → P (s.setLink x)
  trigger : ∀ {s : State} {t}, P s → P (offerTrigger s t)
  startSampling : ∀ {s : State}, P s → P (startSampling s)
  stopSampling : ∀ {s : State}, P s → P (stopSampling s)
  plan : ∀ {s : State} {x : PlanCtl}, x.state = s.plan.state → P s → P (s.setPlan x)
  ret : ∀ {s : State} {x : Returns},
    (Quiet s.plan.state → s.ret.queue = [] → s.ret.group = [] → x.queue = [] ∧ x.group = []) → P s → P (s.setRet x)
  svc : ∀ {s : State} {x : Selector}, P s → P (s.setSvc x)
  report : ∀ {s : State} {r}, P s → P (queueReport s r)
  mark : ∀ {s : State} {c f}, Marks f → P s → P (s.setAcct (s.acct.change c f))
  enter : ∀ {w : Work} {e : Entry} {eased}, ¬ Quiet w.st.plan.state → entryOf w.st e.car = none → P w.st →
    P (settleAccount (w.up (fun s => s.setAcct (s.acct.add e))) eased).st
  change : ∀ {w : Work} {c f eased}, (∀ e, (f e).car = e.car ∧ (f e).permit = e.permit) → P w.st →
    P (settleAccount (w.up (fun s => s.setAcct (s.acct.change c f))) eased).st
  remove : ∀ {w : Work} {c eased}, P w.st → P (settleAccount (w.up (fun s => s.setAcct (s.acct.remove c))) eased).st
  clear : ∀ {w : Work}, P w.st → P (clearTable w).st

variable {P : State → Prop} (H : Kept P)
include H

/-! ## Slots and records (3, 4) -/

theorem kept_alterLink {s : State} {c : CarId} {f : CarLink → CarLink}
    (still : s.plan.state = .halted → ∀ l, l.slot = none → l.silentHold = none → (f l).slot = none ∧ (f l).silentHold = none)
    (h : P s) : P (alterLink s c f) := by
  refine H.link (fun halted ⟨a, b, cars⟩ => ⟨a, b, fun d => ?_⟩) h
  rw [Table.alter_at]
  split
  · exact still halted _ (cars c).1 (cars c).2
  · exact cars d

theorem kept_alterLinks {s : State} {f : CarId → CarLink → CarLink}
    (still : ∀ c l, l.slot = none → l.silentHold = none → (f c l).slot = none ∧ (f c l).silentHold = none)
    (h : P s) : P (alterLinks s f) := by
  refine H.link (fun _ ⟨a, b, cars⟩ => ⟨a, b, fun d => ?_⟩) h
  rw [Table.mapAll_at]
  exact still d _ (cars d).1 (cars d).2

theorem kept_placeCommand {s : State} {c : CarId} {k : CmdKind} {target permit : Option Nat} (h : P s) :
    P (placeCommand s c k target permit) := by
  unfold placeCommand
  split
  case isTrue placed =>
    refine kept_alterLink H (fun halted => ?_) h
    simp [halted, mayPlace] at placed
  case isFalse => exact h

theorem kept_place {s : State} {c : CarId} {k : CmdKind} (h : P s) : P (place s c k) := kept_placeCommand H h

omit H in
theorem dropIf_still (p : CmdKind → Bool) (l : CarLink) (slot : l.slot = none) : l.dropIf p = l := by
  simp [CarLink.dropIf, slot]

theorem kept_removeCommand {s : State} {c : CarId} {p : CmdKind → Bool} (h : P s) : P (removeCommand s c p) :=
  kept_alterLink H (fun _ l slot hold => by rw [dropIf_still p l slot]; exact ⟨slot, hold⟩) h

theorem kept_removeCommands {s : State} {p : CmdKind → Bool} (h : P s) : P (removeCommands s p) :=
  kept_alterLinks H (fun _ l slot hold => by rw [dropIf_still p l slot]; exact ⟨slot, hold⟩) h

theorem kept_emptySlot {s : State} {c : CarId} (h : P s) : P (emptySlot s c) := kept_removeCommand H h

omit H in
theorem leaveSilent_still (st : CarState) (l : CarLink) (slot : l.slot = none) (hold : l.silentHold = none) :
    (l.leaveSilent st).slot = none ∧ (l.leaveSilent st).silentHold = none := by
  unfold CarLink.leaveSilent
  split
  · exact ⟨slot, hold⟩
  · exact ⟨slot, rfl⟩

theorem kept_moveCar {s : State} {c : CarId} {st : CarState} (h : P s) : P (moveCar s c st) :=
  kept_alterLink H (fun _ => leaveSilent_still st) (H.car h)

theorem kept_failCar {s : State} {c : CarId} {why : FailReason} (h : P s) : P (failCar s c why) :=
  H.car (kept_moveCar H h)

theorem kept_clearPark {s : State} {c : CarId} (h : P s) : P (clearPark s c) := H.car h

theorem kept_consumeAttempt {s : State} {c : CarId} (h : P s) : P (consumeAttempt s c) := H.car h

theorem kept_reportCar {s : State} {c : CarId} {old cause decline} (h : P s) : P (reportCar s c old cause decline) := by
  unfold reportCar
  split
  · split
    · exact H.report h
    · exact h
  · exact h

theorem kept_reportAlways {s : State} {c : CarId} {old cause} (h : P s) : P (reportAlways s c old cause) := by
  unfold reportAlways
  split
  · exact H.report h
  · exact h

theorem kept_reportChanged {s : State} {old : Table (Option CarRecord) 48} {cause : CarCause} (h : P s) :
    P (reportChanged s old cause) :=
  closed_foldl (Q := P) (fun _ _ => kept_reportCar H) h

theorem kept_setCancelled {s : State} {c : CarId} {b : Bool} (h : P s) : P (setCancelled s c b) := H.plan rfl h

theorem kept_setOwed {s : State} {c : CarId} {b : Bool} (h : P s) : P (setOwed s c b) := H.plan rfl h

/-! ## The account (6) -/

theorem kept_endDesignation {s : State} {c : CarId} (h : P s) : P (endDesignation s c) := H.svc h

theorem kept_moveToStop {w : Work} {c : CarId} {cause : StopCause} (h : P w.st) : P (moveToStop w c cause).st := by
  unfold moveToStop
  split
  case h_1 =>
    split
    case isTrue =>
      have marked : P (w.st.setAcct (w.st.acct.change c (Entry.toStop cause))) := H.mark (marks_toStop cause) h
      dsimp only
      split
      · exact kept_endDesignation H marked
      · exact marked
    case isFalse => exact h
  case h_2 => exact h

theorem kept_stopShed {s : State} {c : CarId} (h : P s) : P (stopShed s c) := by
  unfold stopShed
  dsimp only
  split
  · split
    · exact kept_place H h
    · exact kept_reportCar H (kept_moveCar H (kept_place H h))
  · exact kept_place H h

theorem kept_handShed {s : State} {c : CarId} (h : P s) : P (handShed s c) := by
  unfold handShed
  split
  · split
    · exact kept_stopShed H h
    · exact h
  · exact h

theorem kept_handSheds {w : Work} (h : P w.st) : P (handSheds w).st :=
  closed_overCars (fun _ _ => kept_handShed H) h

theorem kept_enterEntry {w : Work} {e : Entry} (busy : ¬ Quiet w.st.plan.state) (h : P w.st) : P (enterEntry w e).st := by
  unfold enterEntry
  split
  case isTrue => exact h
  case isFalse free => exact H.enter busy (by simpa using free) h

theorem kept_enterUntested {w : Work} {c : CarId} {adopted : Bool} (busy : ¬ Quiet w.st.plan.state) (h : P w.st) :
    P (enterUntested w c adopted).st := kept_enterEntry H busy h

theorem kept_stepEntry {w : Work} {c : CarId} (h : P w.st) : P (stepEntry w c).st :=
  H.change (fun _ => ⟨rfl, rfl⟩) h

/-- The part of a conversion or release before the table changes: a command leaves the slot, a designation ends. -/
theorem kept_undesignated {w : Work} {c : CarId} {p : CmdKind → Bool} {b : Bool} (h : P w.st) :
    P (if b then ((w.up (fun s => removeCommand s c p)).up (fun s => endDesignation s c)).noteSs
      else w.up (fun s => removeCommand s c p)).st := by
  split
  · exact kept_endDesignation H (kept_removeCommand H h)
  · exact kept_removeCommand H h

theorem kept_convertEntry {w : Work} {c : CarId} (h : P w.st) : P (convertEntry w c).st := by
  unfold convertEntry
  split
  · exact H.change (fun _ => ⟨rfl, rfl⟩) (kept_undesignated H h)
  · exact h

theorem kept_releaseEntry {w : Work} {c : CarId} (h : P w.st) : P (releaseEntry w c).st := by
  unfold releaseEntry
  split
  · exact H.remove (kept_undesignated H h)
  · exact h

/-! ## The queue and the group (8) -/

theorem kept_enqueue {w : Work} {c : CarId} {front : Bool} (busy : ¬ Quiet w.st.plan.state) (h : P w.st) :
    P (enqueue w c front).st :=
  H.ret (fun quiet => absurd quiet busy) (H.ret (fun quiet => absurd quiet busy) h)

theorem kept_leaveReturns {w : Work} {c : CarId} (h : P w.st) : P (leaveReturns w c).st := by
  unfold leaveReturns
  split
  · exact H.ret (fun _ queue group => by simp [Returns.without, queue, group]) h
  · exact h

omit H in
theorem insertItem_setQueue (s : State) (q : List QueueItem) (x : QueueItem) :
    insertItem (setQueue s q) x = setQueue s (insertBy (queueBefore s.ret.nextSeq) x q) := rfl

theorem kept_reorderItem {w : Work} {c : CarId} {occupied : Bool} (h : P w.st) : P (reorderItem w c occupied).st := by
  unfold reorderItem
  split
  case h_1 x found =>
    have nonempty : w.st.ret.queue ≠ [] := fun empty => by simp [empty] at found
    split
    · exact H.ret (fun _ queue => absurd queue nonempty) h
    · rw [Work.noteRs_st, Work.up_st, insertItem_setQueue]
      exact H.ret (fun _ queue => absurd queue nonempty) h
  case h_2 => exact h

theorem kept_recomputeStaged {w : Work} {c : CarId} (h : P w.st) : P (recomputeStaged w c).st := by
  unfold recomputeStaged
  split
  case isTrue staged => exact H.ret (fun _ _ group => by simp [group] at staged) h
  case isFalse => exact h

theorem kept_startSpacing {s : State} (h : P s) : P (startSpacing s) := H.ret (fun _ queue group => ⟨queue, group⟩) h

theorem kept_emptyReturns {s : State} (h : P s) : P (emptyReturns s) := H.ret (fun _ _ _ => ⟨rfl, rfl⟩) h

end Sys2Proof.Proofs.Upkeep
end
section
/-! PROOFS. What the Car Table and the granting blocks keep (3, 8, 9). -/
namespace Sys2Proof.Proofs.Upkeep
open Sys2Proof.Machine Sys2Proof.Safety Sys2Proof.Proofs.Account

variable {P : State → Prop} (H : Kept P)
include H

/-! ## The evaluation rule (R40) -/

theorem kept_holdAs {s : State} {c : CarId} {st : CarState} (h : P s) : P (holdAs s c st) :=
  kept_moveCar H (kept_place H h)

theorem kept_deferCar {w : Work} {c : CarId} (busy : ¬ Quiet w.st.plan.state) (h : P w.st) : P (deferCar w c).st :=
  kept_moveCar H (kept_enterUntested H busy h)

theorem kept_adoptCar {w : Work} {c : CarId} (busy : ¬ Quiet w.st.plan.state) (h : P w.st) : P (adoptCar w c).st :=
  kept_moveCar H (kept_place H (kept_enterUntested H busy h))

theorem kept_parkCar {s : State} {c : CarId} (h : P s) : P (parkCar s c) := H.car (kept_moveCar H (kept_place H h))

theorem kept_evaluateFull {w : Work} {c : CarId} {claim : Bool} (busy : ¬ Quiet w.st.plan.state) (h : P w.st) :
    P (evaluateFull w c claim).st := by
  unfold evaluateFull
  split
  case h_1 => exact h
  case h_2 r _ =>
    have cleared : P (setCancelled (clearPark w.st c) c false) := kept_setCancelled H (kept_clearPark H h)
    dsimp only
    repeat' split
    · exact kept_deferCar H busy cleared
    · exact kept_holdAs H cleared
    · exact kept_failCar H (kept_place H cleared)
    · exact kept_parkCar H cleared
    · exact kept_moveCar H (kept_enqueue H busy cleared)

theorem kept_evaluateSettling {w : Work} {c : CarId} (busy : ¬ Quiet w.st.plan.state) (h : P w.st) :
    P (evaluateSettling w c).st := by
  unfold evaluateSettling
  split
  case h_1 => exact h
  case h_2 r _ =>
    have cleared : P (clearPark w.st c) := kept_clearPark H h
    dsimp only
    repeat' split
    · exact kept_deferCar H busy cleared
    · exact kept_holdAs H cleared
    · exact kept_holdAs H cleared

omit H in
theorem not_quiet_iff (p : PlanState) : ¬ Quiet p ↔ p = .settling ∨ p = .returning ∨ p = .service ∨ p = .restoring := by
  cases p <;> simp [Quiet]

theorem kept_evaluate {w : Work} {c : CarId} {claim : Bool} (h : P w.st) : P (evaluate w c claim).st := by
  unfold evaluate
  split
  case h_1 p => exact kept_evaluateFull H (by simp [not_quiet_iff, p]) h
  case h_2 p => exact kept_evaluateFull H (by simp [not_quiet_iff, p]) h
  case h_3 p => exact kept_evaluateSettling H (by simp [not_quiet_iff, p]) h
  case h_4 => exact kept_holdAs H h
  all_goals exact h

/-! ## Stops and status replies (R35 to R48) -/

theorem kept_handStop {w : Work} {c : CarId} {e : Entry} (h : P w.st) : P (handStop w c e).1.st := by
  unfold handStop
  split
  · dsimp only
    split
    · exact kept_consumeAttempt H h
    · exact h
  · exact h

theorem kept_stopCar {w : Work} {c : CarId} (h : P w.st) : P (stopCar w c).st := by
  unfold stopCar
  split
  · exact h
  · dsimp only
    split
    · exact kept_evaluate H (kept_releaseEntry H h)
    · exact kept_evaluate H (kept_handStop H (kept_releaseEntry H h))

theorem kept_startExpired {w : Work} {c : CarId} (h : P w.st) : P (startExpired w c).st :=
  kept_evaluate H (kept_consumeAttempt H (kept_releaseEntry H h))

theorem kept_reportPosition {s : State} {c : CarId} {old new : CarRecord} (h : P s) : P (reportPosition s c old new) := by
  unfold reportPosition
  split
  · exact H.report h
  · exact h

theorem kept_handOccupancy {w : Work} {c : CarId} {old new : CarRecord} (h : P w.st) :
    P (handOccupancy w c old new).st := by
  unfold handOccupancy
  repeat' split
  · exact kept_reorderItem H h
  · exact h
  · exact kept_recomputeStaged H h
  · exact h
  · exact h

theorem kept_applyStatus {w : Work} {c : CarId} {x : CarStatus} (h : P w.st) : P (applyStatus w c x).st := by
  unfold applyStatus
  split
  · exact h
  · exact kept_handOccupancy H (kept_reportPosition H (H.car h))

theorem kept_firstContact {w : Work} {c : CarId} {r : CarRecord} (h : P w.st) : P (firstContact w c r).work.st := by
  have moving (busy : ¬ Quiet w.st.plan.state) : P (if underLocal r then deferCar w c else adoptCar w c).st := by
    split
    · exact kept_deferCar H busy h
    · exact kept_adoptCar H busy h
  unfold firstContact
  dsimp only
  split
  case h_1 => exact h
  case h_2 =>
    dsimp only [Work.up_st]
    split
    · exact kept_place H (kept_moveCar H h)
    · exact kept_moveCar H h
  case h_3 => exact kept_holdAs H h
  all_goals
    rename_i p
    split
    · exact moving (by simp [not_quiet_iff, p])
    · first | exact kept_evaluate H h | exact kept_holdAs H h

theorem kept_withdraw {w : Work} {c : CarId} (h : P w.st) : P (withdraw w c).st :=
  kept_clearPark H (kept_leaveReturns H h)

omit H in
theorem busy_of_adopts {p : PlanState} (h : adopts p = true) : ¬ Quiet p := by
  cases p <;> simp_all [adopts, Quiet]

omit H in
@[simp] theorem withdraw_plan (w : Work) (c : CarId) : (withdraw w c).st.plan = w.st.plan := by
  unfold withdraw leaveReturns
  split <;> rfl

theorem kept_entrylessRules {w : Work} {c : CarId} {r : CarRecord} {changed : Bool} (h : P w.st) :
    P (entrylessRules w c r changed).work.st := by
  have out : P (withdraw w c).st := kept_withdraw H h
  unfold entrylessRules
  dsimp only
  split
  case isTrue => exact kept_evaluate H out
  case isFalse =>
    split
    case isTrue moving =>
      have busy : ¬ Quiet (withdraw w c).st.plan.state := by
        rw [withdraw_plan]
        exact busy_of_adopts (Bool.and_eq_true_iff.mp moving).1
      split
      · exact kept_deferCar H busy out
      · exact kept_adoptCar H busy out
    case isFalse => exact h

theorem kept_deferredRules {w : Work} {c : CarId} {r : CarRecord} (h : P w.st) : P (deferredRules w c r).work.st := by
  unfold deferredRules
  split
  · exact kept_evaluate H (kept_releaseEntry H h)
  · exact h

theorem kept_motionRules {w : Work} {c : CarId} {st : CarState} {r : CarRecord} (h : P w.st) :
    P (motionRules w c st r).work.st := by
  unfold motionRules
  repeat' split
  all_goals first | exact h | exact kept_stopCar H h

theorem kept_outOfOrderRule {w : Work} {c : CarId} {r : CarRecord} (h : P w.st) : P (outOfOrderRule w c r).st := by
  have emptied : P (emptySlot w.st c) := kept_emptySlot H h
  unfold outOfOrderRule
  dsimp only
  split
  · exact kept_evaluate H (kept_releaseEntry H emptied)
  · exact kept_moveCar H (kept_moveToStop H emptied)

theorem kept_localRule {w : Work} {c : CarId} (h : P w.st) : P (localRule w c).st :=
  kept_moveCar H (kept_convertEntry H (kept_emptySlot H h))

theorem kept_runRules {w : Work} {c : CarId} {st : CarState} {x : CarStatus} {r : CarRecord} (h : P w.st) :
    P (runRules w c st x r).work.st := by
  unfold runRules
  split
  case h_1 => exact h
  case h_2 e _ =>
    split
    case h_1 => exact kept_startExpired H h
    case h_2 =>
      extract_lets st1 w1
      have handed : P w1.st := by
        unfold w1
        split
        · exact kept_moveCar H (kept_stepEntry H h)
        · exact h
      split
      · exact kept_localRule H handed
      · split
        · exact kept_outOfOrderRule H handed
        · exact kept_motionRules H handed

theorem kept_entryRules {w : Work} {c : CarId} {st : CarState} {x : CarStatus} {r : CarRecord} (h : P w.st) :
    P (entryRules w c st x r).work.st := by
  unfold entryRules
  split
  · exact kept_deferredRules H h
  · exact kept_runRules H h

theorem kept_resume {w : Work} {c : CarId} {x : CarStatus} {r : CarRecord} (h : P w.st) : P (resume w c x r).work.st := by
  unfold resume
  split
  · exact h
  · exact kept_entryRules H (kept_moveCar H h)

theorem kept_statusRules {w : Work} {c : CarId} {old : CarRecord} {first : Bool} {x : CarStatus} (h : P w.st) :
    P (statusRules w c old first x).work.st := by
  unfold statusRules
  split
  case h_1 => exact h
  case h_2 =>
    split
    case isTrue => exact kept_firstContact H h
    case isFalse =>
      split
      all_goals first
        | exact h | exact kept_resume H h | exact kept_entrylessRules H h | exact kept_entryRules H h

theorem kept_parkAccepted {w : Work} {c : CarId} (h : P w.st) : P (parkAccepted w c).st :=
  kept_moveCar H (kept_clearPark H h)

theorem kept_parkDeclined {w : Work} {c : CarId} (h : P w.st) : P (parkDeclined w c).st :=
  kept_evaluate H (kept_consumeAttempt H (kept_clearPark H h))

theorem kept_parkDropped {w : Work} {c : CarId} (h : P w.st) : P (parkDropped w c).st := by
  unfold parkDropped
  split
  · exact kept_evaluate H h
  · exact h

/-! ## The Return Sequencer (8) -/

omit H in
theorem busy_of_granting {s : State} (h : granting s = true) : ¬ Quiet s.plan.state := by
  rcases Bool.or_eq_true_iff.mp h with p | p <;> simp [not_quiet_iff, beq_iff_eq.mp p]

theorem kept_startRun {w : Work} {c : CarId} {f : RunFigures} (busy : ¬ Quiet w.st.plan.state) (h : P w.st) :
    P (startRun w c f).st :=
  kept_reportCar H (kept_moveCar H (kept_placeCommand H (kept_enterEntry H busy h)))

theorem kept_grantAttempt {w : Work} (h : P w.st) : P (grantAttempt w).st := by
  unfold grantAttempt
  split
  case isTrue attempt =>
    have granted : granting w.st = true := by
      simp only [mayAttempt, Bool.and_eq_true] at attempt
      exact attempt.1.1.1.1.1
    split
    case h_1 x _ =>
      have shorter : P (setQueue w.st (grantedFrom x.car w.st.ret.queue)) :=
        H.ret (fun quiet => absurd quiet (busy_of_granting granted)) h
      exact kept_startSpacing H (kept_startRun H (busy_of_granting granted) shorter)
    case h_2 => exact h
  case isFalse => exact h

theorem kept_stageCar {s : State} {x : QueueItem} (busy : ¬ Quiet s.plan.state) (h : P s) : P (stageCar s x) :=
  kept_reportCar H (kept_moveCar H (H.ret (fun quiet => absurd quiet busy) h))

omit H in
theorem offerTrigger_plan (s : State) (t : Trigger) : (offerTrigger s t).plan = s.plan := by
  unfold offerTrigger
  split <;> rfl

omit H in
theorem takeSample_plan (s : State) : (takeSample s).plan = s.plan := by
  unfold takeSample
  split
  · dsimp only
    split <;> rfl
  · rfl

omit H in
theorem startSampling_plan (s : State) : (startSampling s).plan = s.plan := by
  unfold startSampling
  split
  · rfl
  · exact takeSample_plan s

omit H in
/-- The state of the plan stands through every piece of an event. -/
theorem kept_planState (p : PlanState) : Kept (fun s => s.plan.state = p) where
  car h := h
  carsAll h := h
  link _ h := h
  trigger {s t} h := by rw [offerTrigger_plan]; exact h
  startSampling {s} h := by rw [startSampling_plan]; exact h
  stopSampling h := h
  plan e h := e.trans h
  ret _ h := h
  svc h := h
  report h := h
  mark _ h := h
  enter _ _ h := by rw [settleAccount_plan]; exact h
  change _ h := by rw [settleAccount_plan]; exact h
  remove h := by rw [settleAccount_plan]; exact h
  clear h := by unfold clearTable; rw [settleAccount_plan]; exact h

end Sys2Proof.Proofs.Upkeep
end
section
/-! PROOFS. What the rest of the granting blocks and the Plan Controller keep (7, 8, 9). -/
namespace Sys2Proof.Proofs.Upkeep
open Sys2Proof.Machine Sys2Proof.Safety Sys2Proof.Proofs.Account

section
variable {P : State → Prop} (H : Kept P)
include H

/-! ## Folds that keep the state of the plan -/

omit H in
/-- A fold of steps that each keep `P` and the state of the plan, as long as the plan is in that state. -/
theorem kept_foldl {α : Type} {p : PlanState} {f : Work → α → Work}
    (step : ∀ w a, w.st.plan.state = p → P w.st → P (f w a).st)
    (plan : ∀ w a, w.st.plan.state = p → (f w a).st.plan.state = p) {l : List α} {w : Work}
    (state : w.st.plan.state = p) (h : P w.st) : P (l.foldl f w).st :=
  (closed_foldl (Q := fun v : Work => v.st.plan.state = p ∧ P v.st)
    (fun v a kept => ⟨plan v a kept.1, step v a kept.1 kept.2⟩) ⟨state, h⟩).2

/-! ## The Return Sequencer (8) -/

theorem kept_stage {w : Work} (busy : ¬ Quiet w.st.plan.state) (h : P w.st) : P (stage w).st := by
  unfold stage
  split
  · exact (closed_foldl (Q := fun s : State => s.plan.state = w.st.plan.state ∧ P s)
      (fun s x kept => ⟨kept_stageCar (kept_planState _) (kept.1 ▸ busy) kept.1, kept_stageCar H (kept.1 ▸ busy) kept.2⟩)
      ⟨rfl, h⟩).2
  · exact h

theorem kept_releaseStaged {w : Work} (busy : ¬ Quiet w.st.plan.state) (h : P w.st) : P (releaseStaged w).st := by
  have emptied : P (setGroup w.st []) := H.ret (fun quiet => absurd quiet busy) h
  have started : ∀ {Q : State → Prop}, Kept Q → Q (setGroup w.st []) →
      Q (w.st.ret.group.foldl (fun acc x => startRun acc x.car x.figures) (w.up (fun s => setGroup s []))).st :=
    fun K => kept_foldl (w := w.up (fun s => setGroup s [])) (p := w.st.plan.state) (fun v x p kept => kept_startRun K (p ▸ busy) kept)
      (fun v x p => kept_startRun (kept_planState _) (p ▸ busy) p) rfl
  have plan := started (kept_planState w.st.plan.state) rfl
  exact kept_stage H (fun quiet => busy (plan ▸ quiet)) (kept_startSpacing H (started H emptied))

theorem kept_sequencerWork {w : Work} (h : P w.st) : P (sequencerWork w).st := by
  unfold sequencerWork
  split
  case isTrue granted =>
    split
    · exact kept_grantAttempt H h
    · have busy := busy_of_granting granted
      have plan : (stage w).st.plan.state = w.st.plan.state := kept_stage (kept_planState _) busy rfl
      dsimp only
      split
      · exact kept_releaseStaged H (fun quiet => busy (plan ▸ quiet)) (kept_stage H busy h)
      · exact kept_stage H busy h
  case isFalse => exact h

/-! ## The Service Selector (9) -/

theorem kept_designate {w : Work} {c : CarId} (busy : ¬ Quiet w.st.plan.state) (h : P w.st) : P (designate w c).st :=
  kept_startSpacing H (kept_reportCar H (kept_moveCar H (kept_placeCommand H (H.svc (kept_enterEntry H busy h)))))

theorem kept_selectionPass {w : Work} (busy : ¬ Quiet w.st.plan.state) (h : P w.st) : P (selectionPass w).st := by
  unfold selectionPass
  split
  · exact kept_designate H busy h
  · exact h

omit H in
theorem service_of_maySelect {s : State} (may : maySelect s = true) : s.plan.state = .service := by
  simp only [maySelect, Bool.and_eq_true, beq_iff_eq] at may
  exact may.1.1.1.1.1.1

theorem kept_selectorWork {w : Work} (h : P w.st) : P (selectorWork w).st := by
  unfold selectorWork
  split
  case isTrue may => exact kept_selectionPass H (by simp [not_quiet_iff, service_of_maySelect may]) h
  case isFalse => exact h

theorem kept_confirmService {s : State} {c : CarId} (h : P s) : P (confirmService s c) := H.svc h

theorem kept_setAside {s : State} {c : CarId} {why : AsideReason} (h : P s) : P (setAside s c why) := H.svc h

theorem kept_undesignate {w : Work} {c : CarId} (h : P w.st) : P (undesignate w c).st := by
  unfold undesignate
  split
  · exact h
  · split
    · dsimp only
      split
      · exact kept_moveCar H (kept_emptySlot H (kept_releaseEntry H h))
      · exact kept_moveCar H (kept_releaseEntry H h)
    · dsimp only [Work.up_st]
      split
      · exact kept_place H (kept_moveToStop H h)
      · exact kept_moveCar H (kept_place H (kept_moveToStop H h))

theorem kept_serveDeclined {w : Work} {c : CarId} (h : P w.st) : P (serveDeclined w c).st :=
  kept_undesignate H (kept_setAside H (kept_consumeAttempt H h))

theorem kept_serveDropped {w : Work} {c : CarId} {permit : Option Nat} (h : P w.st) : P (serveDropped w c permit).st := by
  unfold serveDropped
  split
  · exact kept_reportAlways H (kept_undesignate H (kept_setAside H h))
  · exact h

theorem kept_endForCount {w : Work} {c : CarId} (h : P w.st) : P (endForCount w c).st := by
  have stopped : P (place (moveToStop w c .count).st c .stopNext) := kept_place H (kept_moveToStop H h)
  unfold endForCount
  dsimp only [Work.up_st]
  split
  · split
    · exact stopped
    · exact kept_reportCar H (kept_moveCar H stopped)
  · exact stopped

theorem kept_trimDesignations {w : Work} {b : BankId} (h : P w.st) : P (trimDesignations w b).st :=
  closed_foldl (Q := fun v : Work => P v.st) (fun _ _ => kept_endForCount H) h

theorem kept_endService {s : State} (h : P s) : P (endService s) := H.svc h

/-! ## Pieces of the entry actions (7) -/

theorem kept_setCensus {s : State} {counted : Table Bool 48} (h : P s) : P (setCensus s counted) := H.plan rfl h

theorem kept_beginCensus {s : State} (h : P s) : P (beginCensus s) := kept_setCensus H h

theorem kept_countCar {s : State} {c : CarId} (h : P s) : P (countCar s c) := by
  unfold countCar
  split
  · exact kept_setCensus H h
  · exact h

theorem kept_startOutage {s : State} {left : PlanState} (h : P s) : P (startOutage s left) := by
  unfold startOutage
  split
  · exact H.plan rfl h
  · exact H.plan rfl h
  · exact h

theorem kept_recordCarry {s : State} (h : P s) : P (recordCarry s) := H.plan rfl h

theorem kept_recordRecovered {s : State} (h : P s) : P (recordRecovered s) := H.plan rfl h

theorem kept_recordEnd {s : State} (h : P s) : P (recordEnd s) := H.plan rfl h

theorem kept_endHandBack {s : State} (h : P s) : P (endHandBack s) := kept_removeCommands H (H.plan rfl h)

theorem kept_resetCars {s : State} {f : CarRecord → CarState} (h : P s) : P (resetCars s f) :=
  kept_alterLinks H (fun _ _ slot _ => ⟨slot, rfl⟩) (H.carsAll h)

theorem kept_clearStage {w : Work} (h : P w.st) : P (clearStage w).st :=
  kept_endService H (kept_emptyReturns H (H.clear h))

theorem kept_clearParks {s : State} (h : P s) : P (clearParks s) := H.carsAll h

theorem kept_undriveLinks {s : State} (h : P s) : P (undriveLinks s) :=
  H.link (fun _ _ => ⟨rfl, rfl, fun c => by simp⟩) h

theorem kept_driveLinks {s : State} (h : P s) : P (driveLinks s) :=
  kept_alterLinks H (fun _ _ _ hold => ⟨rfl, hold⟩) h

/-! ## Entry actions (7) -/

/-- The entry into OUTAGE, once the stage is cleared. -/
theorem kept_enterOutage {w : Work} {left : PlanState} (cleared : P (clearStage w).st) : P (enterOutage w left).st :=
  kept_startOutage H (H.plan rfl (kept_removeCommands H (kept_resetCars H cleared)))

theorem kept_enterSettling {w : Work} {left : PlanState} (h : P w.st) : P (enterSettling w left).st := by
  have counted : P (if left = .restoring ∧ w.st.plan.census ≠ .none then w.st else beginCensus w.st) := by
    split
    · exact h
    · exact kept_beginCensus H h
  exact H.plan rfl (kept_endHandBack H (kept_startOutage H counted))

theorem kept_evaluateIdle {w : Work} {c : CarId} (busy : ¬ Quiet w.st.plan.state) (h : P w.st) :
    P (evaluateIdle w c).st := by
  unfold evaluateIdle
  split
  · exact kept_handSheds H (kept_reportCar H (kept_evaluateFull H busy h))
  · exact h

theorem kept_enterReturn {w : Work} (busy : ¬ Quiet w.st.plan.state) (h : P w.st) : P (enterReturn w).st :=
  kept_foldl (p := w.st.plan.state) (fun _ _ p => kept_evaluateIdle H (p ▸ busy))
    (fun _ _ p => kept_evaluateIdle (kept_planState _) (p ▸ busy) p) rfl (kept_recordCarry H h)

theorem kept_enterService {w : Work} (h : P w.st) : P (enterService w).st := kept_recordRecovered H h

theorem kept_cancelReturn {s : State} {c : CarId} (h : P s) : P (cancelReturn s c) :=
  kept_setCancelled H (kept_holdAs H h)

theorem kept_cancelRun {w : Work} {c : CarId} (h : P w.st) : P (cancelRun w c).st := by
  unfold cancelRun
  split
  · split
    · have stopped : P (setCancelled (place (moveToStop w c .plan).st c .stopNext) c true) :=
        kept_setCancelled H (kept_place H (kept_moveToStop H h))
      dsimp only [Work.up_st]
      split
      · exact stopped
      · exact kept_moveCar H stopped
    · exact h
  · exact h

theorem kept_enterRestoring {w : Work} {parks : List CarId} (h : P w.st) : P (enterRestoring w parks).st := by
  have cancelled : P ((indices 48).foldl cancelRun (w.up (fun s =>
      overCars (emptyReturns s) ((indices 48).filter (inReturns s.ret)) cancelReturn))).st :=
    closed_foldl (Q := fun v : Work => P v.st) (fun _ _ => kept_cancelRun H)
      (closed_overCars (fun _ _ => kept_cancelReturn H) (kept_emptyReturns H h))
  exact H.plan rfl (kept_endService H (closed_overCars (fun _ _ => kept_place H) cancelled))

/-- The entry into WATCHING, once the stage is cleared. -/
theorem kept_enterWatching {w : Work} {left : PlanState} (cleared : P (clearStage w).st) : P (enterWatching w left).st := by
  unfold enterWatching
  rw [Work.up_st]
  extract_lets s1 ctl s2 s3
  have handed : P s3 :=
    closed_overCars (fun _ _ => kept_place H) (H.plan rfl (kept_removeCommands H (kept_resetCars H cleared)))
  split
  · exact kept_recordEnd H handed
  · exact handed

theorem kept_enterHalted {w : Work} (h : P w.st) : P (enterHalted w).st :=
  H.plan rfl (H.stopSampling (kept_undriveLinks H (H.carsAll h)))

/-- The entry actions of a state: those of WATCHING and OUTAGE begin by clearing the stage. -/
theorem kept_enter {w : Work} {left dest : PlanState} {parks : List CarId} (state : w.st.plan.state = dest)
    (h : dest ≠ .watching → dest ≠ .outage → P w.st)
    (cleared : dest = .watching ∨ dest = .outage → P (clearStage w).st) : P (enter w left dest parks).st := by
  cases dest with
  | halted => exact kept_enterHalted H (h (by decide) (by decide))
  | watching => exact kept_enterWatching H (cleared (Or.inl rfl))
  | outage => exact kept_enterOutage H (cleared (Or.inr rfl))
  | settling => exact kept_enterSettling H (h (by decide) (by decide))
  | returning => exact kept_enterReturn H (by simp [not_quiet_iff, state]) (h (by decide) (by decide))
  | service => exact kept_enterService H (h (by decide) (by decide))
  | restoring => exact kept_enterRestoring H (h (by decide) (by decide))

end

/-! ## Transitions (R114) -/

/-- The state of a transition once the plan has its new state, before its entry actions. -/
def movedState (s : State) (dest : PlanState) (cause : PlanCause) : State :=
  let s1 := queueReport s (planReport s dest cause)
  let s2 := s1.setPlan { s1.plan with state := dest, enteredAt := s1.time }
  let s3 := if s.plan.state = .halted then startSampling (driveLinks s2) else s2
  if s.plan.state = .returning ∧ dest = .service then s3 else clearParks s3

theorem transition_eq (w : Work) (dest : PlanState) (cause : PlanCause) :
    transition w dest cause
      = (enter (w.up (fun s => movedState s dest cause)) w.st.plan.state dest (parksOut w.st)).up
          (fun s => if dest = .returning then s else reportChanged s w.st.cars .plan) := rfl

theorem movedState_plan_state (s : State) (dest : PlanState) (cause : PlanCause) :
    (movedState s dest cause).plan.state = dest := by
  unfold movedState
  extract_lets s1 ctl s2 s3
  have s3_plan : s3.plan.state = dest := by
    unfold s3
    split
    · rw [startSampling_plan]; rfl
    · rfl
  split <;> exact s3_plan

section
variable {P : State → Prop} (H : Kept P)
include H

theorem kept_transition {w : Work} {dest : PlanState} {cause : PlanCause}
    (h : dest ≠ .watching → dest ≠ .outage → P (movedState w.st dest cause))
    (cleared : dest = .watching ∨ dest = .outage → P (clearStage (w.up (fun s => movedState s dest cause))).st) :
    P (transition w dest cause).st := by
  have entered : P (enter (w.up (fun s => movedState s dest cause)) w.st.plan.state dest (parksOut w.st)).st :=
    kept_enter H (movedState_plan_state w.st dest cause) h cleared
  rw [transition_eq, Work.up_st]
  split
  · exact entered
  · exact kept_reportChanged H entered

/-- A property that does not see the state of the plan is kept by a transition. -/
theorem kept_transition_of_any (any : ∀ {s : State} {x : PlanCtl}, P s → P (s.setPlan x)) {w : Work} {dest : PlanState}
    {cause : PlanCause} (h : P w.st) : P (transition w dest cause).st := by
  have moved : P (movedState w.st dest cause) := by
    unfold movedState
    extract_lets s1 ctl s2 s3
    have planned : P s2 := any (H.report h)
    have driven : P s3 := by
      unfold s3
      split
      · exact H.startSampling (kept_driveLinks H planned)
      · exact planned
    split
    · exact driven
    · exact kept_clearParks H driven
  exact kept_transition H (fun _ _ => moved) (fun _ => kept_clearStage H moved)

end

theorem transition_plan_state (w : Work) (dest : PlanState) (cause : PlanCause) :
    (transition w dest cause).st.plan.state = dest :=
  kept_transition (kept_planState dest) (fun _ _ => movedState_plan_state _ _ _)
    (fun _ => kept_clearStage (kept_planState dest) (movedState_plan_state _ _ _))

/-- No exit leads to HALTED, and HALTED has none (R113). -/
theorem planExit_ne_halted {s : State} {dest : PlanState} {cause : PlanCause} (exits : planExit s = some (dest, cause)) :
    dest ≠ .halted ∧ s.plan.state ≠ .halted := by
  unfold planExit at exits
  repeat' split at exits
  all_goals first | contradiction | (obtain ⟨rfl, -⟩ := Prod.mk.inj (Option.some.inj exits); simp_all)

/-- A property that every transition but the one into HALTED keeps. -/
def Moves (P : State → Prop) : Prop :=
  ∀ {w : Work} {dest : PlanState} {cause : PlanCause}, dest ≠ .halted → P w.st → P (transition w dest cause).st

theorem moves_planSteps {P : State → Prop} (M : Moves P) : ∀ (fuel : Nat) {w : Work}, P w.st → P (planSteps fuel w).st
  | 0, _, h => h
  | fuel + 1, w, h => by
    unfold planSteps
    split
    case h_1 dest cause exits => exact moves_planSteps M fuel (M (planExit_ne_halted exits).1 h)
    case h_2 => exact h

theorem moves_planRun {P : State → Prop} (M : Moves P) {w : Work} (h : P w.st) : P (planRun w).st := moves_planSteps M 8 h

theorem armState_ne_halted (s : State) : armState s ≠ .halted := by
  unfold armState
  repeat' split
  all_goals decide

theorem moves_armPlan {P : State → Prop} (M : Moves P) {w : Work} (h : P w.st) : P (armPlan w).st :=
  moves_planRun M (M (armState_ne_halted _) h)

end Sys2Proof.Proofs.Upkeep
end
section
/-! PROOFS. What the car link and the end of an event keep (4), and the arbiters, the exchanges and the silent hold. -/
namespace Sys2Proof.Proofs.Upkeep
open Sys2Proof.Machine Sys2Proof.Safety Sys2Proof.Proofs.Account

/-- A property that every piece of an event keeps, but for a reset, the framing of a request, a change of the plant and a write of the
configuration. -/
structure Inner (P : State → Prop) : Prop extends Kept P where
  inds : ∀ {s : State} {x}, P s → P (s.setInds x)
  port : ∀ {s : State} {x : Port}, x.reports = s.port.reports → x.replies = s.port.replies → P s → P (s.setPort x)
  store : ∀ {s : State} {x}, P s → P (s.setStore x)
  counts : ∀ {s : State}, P s → P (clearCounts s)
  resample : ∀ {s : State}, s.hist.timer ≠ none → P s → P (rearmSampling (takeSample s))
  releaseCapture : ∀ {s : State}, P s → P (releaseCapture s)
  moves : Moves P
  halt : ∀ {s : State}, Quiet s.plan.state → P s → P (transition (begin s) .halted .halt).st
  /-- The property does not see the links, or rules out that one carries an exchange in HALTED. -/
  links : (∀ {s : State} {x}, P s → P (s.setLink x))
    ∨ ∀ {s : State} {k : Link}, P s → (linkLine s k).exchange.isSome → s.plan.state ≠ .halted

/-- A property that the framing of a request, the transmitter and a restart keep. -/
structure Framed (P : State → Prop) : Prop where
  frame : ∀ {s : State} {f : Framer}, P s → P (setFramer s f)
  answer : ∀ {kind tag : Byte} {t : Taken}, t.st.port.replies.length < 8 → P t.st → P (answer kind tag t)
  transmit : ∀ {s : State}, P s → P (s.setPort s.port.transmit)
  restart : ∀ {s : State}, P s → P (afterRestart s)

/-- A change of the links is free where the property does not see them, or the plan is out of HALTED. -/
def LinkFree (P : State → Prop) (s : State) : Prop := (∀ {s : State} {x}, P s → P (s.setLink x)) ∨ s.plan.state ≠ .halted

section
variable {P : State → Prop} (H : Kept P)
include H

/-! ## Links and exchanges (4) -/

theorem kept_setLinkLine {s : State} {k : Link} {l : LinkLine} (quiet : s.plan.state = .halted → l.exchange = none)
    (h : P s) : P (setLinkLine s k l) := by
  cases k with
  | a => exact H.link (fun halted ⟨_, b, cars⟩ => ⟨quiet halted, b, cars⟩) h
  | b => exact H.link (fun halted ⟨a, _, cars⟩ => ⟨a, quiet halted, cars⟩) h

omit H in
theorem setLinkLine_plan (s : State) (k : Link) (l : LinkLine) : (setLinkLine s k l).plan = s.plan := by cases k <;> rfl

theorem kept_beginExchange {s : State} {k : Link} {x : Choice} (driven : s.plan.state ≠ .halted) (h : P s) :
    P (beginExchange s k x) := by
  unfold beginExchange
  dsimp only
  split
  · exact kept_setLinkLine H (fun halted => absurd halted driven)
      (kept_alterLink H (fun _ _ _ hold => ⟨rfl, hold⟩) h)
  · exact kept_setLinkLine H (fun halted => absurd halted driven) h

theorem kept_arbitrate {s : State} {k : Link} (h : P s) : P (arbitrate s k) := by
  unfold arbitrate
  split
  case isTrue may =>
    split
    · exact kept_beginExchange H (by simpa [driven] using (Bool.and_eq_true_iff.mp may).1) h
    · exact h
  case isFalse => exact h

theorem kept_arbiters {s : State} (h : P s) : P (arbiters s) := kept_arbitrate H (kept_arbitrate H h)

theorem kept_renewFor {s : State} {renew : Option CarId} (h : P s) : P (renewFor s renew) := by
  unfold renewFor renewStop
  split
  · split
    · exact kept_place H h
    · exact h
  · exact h

theorem kept_grantWork (M : Moves P) {w : Work} (h : P w.st) : P (grantWork w).st := by
  have run : P (planRun w).st := moves_planRun M h
  have sequenced : P (if (planRun w).nt.rs then sequencerWork (planRun w) else planRun w).st := by
    split
    · exact kept_sequencerWork H run
    · exact run
  unfold grantWork
  extract_lets w1 w2
  split
  · exact kept_selectorWork H sequenced
  · exact sequenced

theorem kept_endExchange {s : State} {k : Link} {c : CarId} (h : P s) : P (endExchange s k c) :=
  kept_countCar H (H.car (kept_alterLink H (fun _ _ slot _ => ⟨slot, rfl⟩) (kept_setLinkLine H (fun _ => rfl) h)))

theorem kept_endMissed {s : State} {k : Link} {c : CarId} (h : P s) : P (endMissed s k c) :=
  kept_alterLink H (fun _ _ slot hold => ⟨slot, hold⟩) (kept_setLinkLine H (fun _ => rfl) h)

/-! ## Verdicts -/

theorem kept_judgePark {w : Work} {c : CarId} {v : Verdict} (h : P w.st) : P (judgePark w c v).work.st := by
  unfold judgePark
  split
  · split
    · exact kept_parkAccepted H h
    · exact kept_parkDeclined H h
    · exact h
  · exact h

theorem kept_judgeRun {w : Work} {c : CarId} {permit : Option Nat} {v : Verdict} (h : P w.st) :
    P (judgeRun w c permit v).work.st := by
  unfold judgeRun
  split
  · split
    · exact kept_evaluate H (kept_consumeAttempt H (kept_releaseEntry H h))
    · exact h
  · exact h
  · exact h

theorem kept_judgeServe {w : Work} {c : CarId} {permit : Option Nat} {v : Verdict} (h : P w.st) :
    P (judgeServe w c permit v).work.st := by
  unfold judgeServe
  split
  · split
    · exact kept_confirmService H h
    · exact kept_serveDeclined H h
    · exact h
  · exact h

theorem kept_replaceHandBack {s : State} {c : CarId} (h : P s) : P (replaceHandBack s c) := by
  unfold replaceHandBack
  split
  · exact kept_place H h
  · exact h

theorem kept_judgeHandBack {w : Work} {c : CarId} {v : Verdict} (h : P w.st) : P (judgeHandBack w c v).work.st := by
  unfold judgeHandBack
  split
  · exact kept_setOwed H h
  · exact kept_replaceHandBack H h
  · exact h

theorem kept_judge {w : Work} {c : CarId} {q : Request} {v : Verdict} (h : P w.st) : P (judge w c q v).work.st := by
  unfold judge
  split
  · exact h
  · split
    · exact kept_judgePark H h
    · exact kept_judgeRun H h
    · exact kept_judgeServe H h
    · exact kept_judgeHandBack H h
    · exact h
    · exact h

theorem kept_reportReply {s : State} {c : CarId} {old : CarRecord} {rule : Option CarCause} {j : Judged}
    {decline : Option Decline} (h : P s) : P (reportReply s c old rule j decline) := by
  unfold reportReply
  split
  · dsimp only
    split
    · exact H.report h
    · exact h
  · exact h

theorem kept_handReply {w : Work} {c : CarId} {old : CarRecord} {first : Bool} {q : Request} {v : Verdict} {x : CarStatus}
    (h : P w.st) : P (handReply w c old first q v x).st :=
  kept_handSheds H (kept_reportReply H (kept_judge H (kept_statusRules H (kept_applyStatus H h))))

/-! ## Missed exchanges and silence -/

/-- A free change of a car's link state: of its slot by a command that returns, of its silent hold. -/
theorem kept_alterLink_of_free {s : State} {c : CarId} {f : CarLink → CarLink} (free : LinkFree P s) (h : P s) :
    P (alterLink s c f) := by
  rcases free with any | driven
  · exact any h
  · exact kept_alterLink H (fun halted => absurd halted driven) h

theorem kept_loseCar {w : Work} {c : CarId} (h : P w.st) : P (loseCar w c).st :=
  kept_emptySlot H (kept_moveCar H (kept_clearPark H h))

theorem kept_holdSilent {s : State} {c : CarId} (free : LinkFree P s) (h : P s) : P (holdSilent s c) :=
  kept_alterLink_of_free H free (kept_moveCar H h)

theorem kept_silenceBy {w : Work} {c : CarId} {st : CarState} (free : LinkFree P w.st) (h : P w.st) :
    P (silenceBy w c st).st := by
  cases st with
  | starting | running | stopping | serving | deferred => exact kept_holdSilent H free h
  | queued | staged => exact kept_loseCar H (kept_leaveReturns H h)
  | idle | parked | held => exact kept_loseCar H h
  | failed => exact kept_emptySlot H h
  | absent | silent => exact h

omit H in
theorem LinkFree.of_plan_state {s t : State} (free : LinkFree P s) (plan : t.plan.state = s.plan.state) : LinkFree P t :=
  free.imp id (fun driven => plan ▸ driven)

theorem kept_declareSilence {w : Work} {c : CarId} (free : LinkFree P w.st) (h : P w.st) : P (declareSilence w c).st := by
  unfold declareSilence
  split
  · exact h
  · exact kept_reportCar H (kept_silenceBy H (free.of_plan_state (kept_countCar (kept_planState _) rfl))
      (kept_countCar H (H.car h)))

theorem kept_dropCommand {w : Work} {c : CarId} {cmd : Command} (h : P w.st) : P (dropCommand w c cmd).st := by
  unfold dropCommand
  split
  · exact kept_handSheds H (kept_reportCar H (kept_parkDropped H h))
  · exact kept_handSheds H (kept_serveDropped H h)
  · exact kept_replaceHandBack H h
  all_goals exact h

theorem kept_missedCommand {w : Work} {c : CarId} {cmd : Command} (free : LinkFree P w.st) (h : P w.st) :
    P (missedCommand w c cmd).st := by
  unfold missedCommand
  split
  · exact h
  · split
    · exact kept_alterLink_of_free H free h
    · exact kept_dropCommand H h

theorem kept_missedRequest {w : Work} {c : CarId} {q : Request} (free : LinkFree P w.st) (h : P w.st) :
    P (missedRequest w c q).st := by
  unfold missedRequest
  split
  · exact kept_missedCommand H free h
  · exact h

end

theorem declareSilence_plan_state (w : Work) (c : CarId) (driven : w.st.plan.state ≠ .halted) :
    (declareSilence w c).st.plan.state = w.st.plan.state :=
  kept_declareSilence (kept_planState _) (Or.inr driven) rfl

theorem missedRequest_plan_state (w : Work) (c : CarId) (q : Request) (driven : w.st.plan.state ≠ .halted) :
    (missedRequest w c q).st.plan.state = w.st.plan.state :=
  kept_missedRequest (kept_planState _) (Or.inr driven) rfl

section
variable {P : State → Prop} (H : Kept P)
include H

theorem kept_handMiss {w : Work} {x : Exchange} {order : DropOrder} (free : LinkFree P w.st) (h : P w.st) :
    P (handMiss w x order).st := by
  unfold handMiss
  dsimp only
  split
  · split
    · exact kept_declareSilence H free h
    · split
      · refine kept_declareSilence H ?_ (kept_missedRequest H free h)
        exact free.imp id (fun driven => (missedRequest_plan_state w _ _ driven).symm ▸ driven)
      · refine kept_missedRequest H ?_ (kept_declareSilence H free h)
        exact free.imp id (fun driven => (declareSilence_plan_state w _ driven).symm ▸ driven)
  · exact kept_missedRequest H free h

theorem kept_expireHold {w : Work} {c : CarId} (h : P w.st) : P (expireHold w c).st :=
  kept_reportCar H (kept_failCar H (kept_emptySlot H (kept_releaseEntry H h)))

/-! ## Timer expiries -/

theorem kept_expireWindow {w : Work} {c : CarId} (h : P w.st) : P (expireWindow w c).st := by
  unfold expireWindow
  split
  · exact h
  · split
    · refine kept_reportCar H ?_
      split
      · exact kept_moveCar H (kept_stepEntry H h)
      · exact kept_stepEntry H h
    · split
      · exact kept_reportCar H (kept_startExpired H h)
      · exact H.mark marks_lapseWindow h

theorem kept_expireDeadline {w : Work} {c : CarId} (h : P w.st) : P (expireDeadline w c).st := by
  have stopped : P (place (moveToStop w c .deadline).st c .stopNext) := kept_place H (kept_moveToStop H h)
  unfold expireDeadline
  dsimp only [Work.up_st]
  split
  · exact stopped
  · exact kept_reportCar H (kept_moveCar H stopped)

/-! ## HOLD-OUT and READMIT (R49, R50) -/

theorem kept_stopForHoldOut {w : Work} {c : CarId} (h : P w.st) : P (stopForHoldOut w c).st :=
  kept_moveCar H (kept_place H (kept_moveToStop H h))

theorem kept_holdOutBy {w : Work} {c : CarId} {st : CarState} (h : P w.st) : P (holdOutBy w c st).st := by
  cases st with
  | starting | running | serving => exact kept_stopForHoldOut H h
  | queued | staged => exact kept_holdAs H (kept_leaveReturns H h)
  | parked => exact kept_holdAs H (kept_clearPark H h)
  | idle =>
    unfold holdOutBy
    dsimp only
    split
    · exact kept_holdAs H (kept_clearPark H h)
    · exact h
  | stopping | deferred | silent | absent | held | failed => exact h

theorem kept_holdOutCar {w : Work} {c : CarId} (h : P w.st) : P (holdOutCar w c).st := by
  unfold holdOutCar
  split
  · exact h
  · split
    · exact h
    · exact kept_reportCar H (kept_holdOutBy H (H.car h))

theorem kept_readmitHeld {w : Work} {c : CarId} {r : CarRecord} (h : P w.st) : P (readmitHeld w c r).st := by
  unfold readmitHeld
  dsimp only
  split
  · exact kept_moveCar H h
  · split
    · split
      · exact kept_evaluate H h
      · exact h
    · split
      case isTrue moving =>
        have busy : ¬ Quiet w.st.plan.state := busy_of_adopts (Bool.and_eq_true_iff.mp moving).1
        repeat' split
        · exact kept_evaluate H h
        · exact kept_deferCar H busy h
        · exact kept_adoptCar H busy h
      case isFalse => exact h

theorem kept_readmitCar {w : Work} {c : CarId} (h : P w.st) : P (readmitCar w c).st := by
  have cleared : P (clearForReadmit w.st c) := H.svc (H.car h)
  unfold readmitCar
  split
  · exact h
  · refine kept_reportCar H ?_
    split
    · split
      · exact kept_readmitHeld H cleared
      · exact cleared
    · exact cleared

end

/-! ## The end of an event -/

section
variable {P : State → Prop} (W : Inner P)
include W

theorem inner_completeWith {w : Work} {renew : Option CarId} (h : P w.st) : P (completeWith w renew) :=
  W.inds (kept_arbiters W.toKept (kept_renewFor W.toKept (kept_grantWork W.toKept W.moves h)))

theorem inner_complete {w : Work} (h : P w.st) : P (complete w) := inner_completeWith W h

theorem inner_driveLines {s : State} (h : P s) : P (driveLines s) := W.inds h

theorem inner_receiveReply {s : State} {k : Link} {r : CarReply} (h : P s) : P (receiveReply s k r) := by
  unfold receiveReply
  split
  · split
    · unfold takeReply
      split
      · exact inner_completeWith W (kept_handReply W.toKept (kept_endExchange W.toKept h))
      · exact h
    · exact h
  · exact h

theorem inner_missExchange {s : State} {k : Link} {order : DropOrder} (h : P s) : P (missExchange s k order) := by
  unfold missExchange
  split
  case h_1 x carries =>
    have free : LinkFree P (endMissed s k x.car) :=
      W.links.imp id (fun driven => by
        rw [show (endMissed s k x.car).plan = s.plan from setLinkLine_plan s k _]
        exact driven (k := k) h (by rw [carries]; rfl))
    exact inner_completeWith W (kept_handMiss W.toKept free (kept_endMissed W.toKept h))
  case h_2 => exact h

theorem inner_autoArm {w : Work} (h : P w.st) : P (autoArm w).st := by
  unfold autoArm
  split
  · exact W.store h
  · exact moves_armPlan W.moves (W.store h)

/-! ## Requests -/

omit W in
theorem kept_ofCar {n : Nat} {s : State} {rule : CarId → State → Taken} (keeps : ∀ c, P (rule c s).st) (h : P s) :
    P (ofCar n s rule).st := by
  unfold ofCar
  repeat' split
  all_goals first | exact h | exact keeps _

omit W in
theorem kept_inHalted {s : State} {rule : State → Taken} (keeps : s.plan.state = .halted → P (rule s).st) (h : P s) :
    P (inHalted s rule).st := by
  unfold inHalted
  split
  case isTrue => exact h
  case isFalse halted =>
    split
    · exact h
    · exact keeps (by simpa using halted)

omit W in
theorem quiet_of_mayHalt {p : PlanState} (may : mayHalt p = true) : Quiet p := by
  cases p <;> simp_all [mayHalt, Quiet]

theorem inner_ruleArm {s : State} (h : P s) : P (ruleArm s).st := by
  refine kept_inHalted (fun _ => ?_) h
  split
  · exact h
  · exact inner_complete W (moves_armPlan W.moves h)

theorem inner_ruleHalt {s : State} (h : P s) : P (ruleHalt s).st := by
  unfold ruleHalt
  split
  case isTrue may => exact inner_complete W (W.halt (quiet_of_mayHalt may) h)
  case isFalse => exact h

theorem inner_ruleRestart {s : State} (h : P s) : P (ruleRestart s).st := by
  unfold ruleRestart
  split
  · exact h
  · exact W.port rfl rfl h

theorem inner_ruleServiceCount {f : CountForm} {s : State} (h : P s) : P (ruleServiceCount f s).st := by
  unfold ruleServiceCount
  split
  · split
    · refine inner_complete W (kept_trimDesignations W.toKept ?_)
      split <;> exact W.svc h
    · exact h
  · exact h

theorem inner_ruleReleaseGroup {s : State} (h : P s) : P (ruleReleaseGroup s).st := by
  unfold ruleReleaseGroup
  repeat' split
  · exact h
  · exact h
  · exact h
  · rename_i wrong _ _
    exact inner_complete W (kept_releaseStaged W.toKept (busy_of_granting (by simpa using wrong)) h)

theorem inner_ruleCapture {s : State} (h : P s) : P (ruleCapture s).st := by
  unfold ruleCapture
  split
  · exact h
  · exact W.trigger h

omit W in
theorem kept_ruleReadHistory {f : HistoryForm} {s : State} (h : P s) : P (ruleReadHistory f s).st := by
  unfold ruleReadHistory
  repeat' split
  all_goals exact h

end

end Sys2Proof.Proofs.Upkeep
end
section
/-! PROOFS. What every command keeps: an induction over the commands, said once. The commands that move the plant or write the
configuration have their own pieces. -/
namespace Sys2Proof.Proofs.Upkeep
open Sys2Proof.Machine Sys2Proof.Safety Sys2Proof.Proofs.Account

/-- A property that does not see the state of the plan is kept by every transition. -/
theorem moves_of_any {P : State → Prop} (H : Kept P) (any : ∀ {s : State} {x : PlanCtl}, P s → P (s.setPlan x)) : Moves P :=
  fun _ h => kept_transition_of_any H any h

/-! ## Properties that the primitive updates keep -/

section
variable {P : State → Prop} (C : Closed P) (car : ∀ {s : State} {c f}, P s → P (alterCar s c f))
  (carsAll : ∀ {s : State} {f}, P s → P (alterCars s f)) (svc : ∀ {s : State} {x}, P s → P (s.setSvc x))
include C car carsAll svc

theorem kept_of_closed : Kept P where
  car := car
  carsAll := carsAll
  link _ := C.link
  trigger := closed_offerTrigger C
  startSampling := closed_startSampling C
  stopSampling := closed_stopSampling C
  plan _ := C.plan
  ret _ := C.ret
  svc := svc
  report := C.report
  mark marks := C.change (fun e => (marks e).1) (fun e => (marks e).2.1)
  enter {w e _} _ free h := closed_settleAccount (w := w.up (fun s => s.setAcct (s.acct.add e))) C (C.add free h)
  change {w c f _} keeps h := closed_settleAccount (w := w.up (fun s => s.setAcct (s.acct.change c f))) C
    (C.change (fun e => (keeps e).1) (fun e => (keeps e).2) h)
  remove {w c _} h := closed_settleAccount (w := w.up (fun s => s.setAcct (s.acct.remove c))) C (C.remove h)
  clear h := closed_clearTable C h

theorem inner_of_closed (store : ∀ {s : State} {x}, P s → P (s.setStore x)) (counts : ∀ {s : State}, P s → P (clearCounts s))
    (port : ∀ {s : State} {x : Port}, x.reports = s.port.reports → x.replies = s.port.replies → P s → P (s.setPort x)) :
    Inner P where
  toKept := kept_of_closed C car carsAll svc
  inds := C.inds
  port := port
  store := store
  counts := counts
  resample _ h := closed_rearmSampling C (closed_takeSample C h)
  releaseCapture h := by
    unfold releaseCapture
    dsimp only
    split
    · exact closed_startSampling C (C.hist h)
    · exact C.hist h
  moves := moves_of_any (kept_of_closed C car carsAll svc) C.plan
  halt _ h := kept_transition_of_any (kept_of_closed C car carsAll svc) C.plan h
  links := Or.inl C.link

end

/-- The replies that wait are left alone by all but the framing of a request. -/
theorem inner_replies (k : List Reply) : Inner (fun s => s.port.replies = k) :=
  inner_of_closed
    { car := fun _ h => h, carsAll := fun _ h => h, link := fun h => h, hist := fun h => h, plan := fun h => h
      ret := fun h => h, svc := fun _ h => h, inds := fun h => h
      report := fun {s r} h => (Port.place_cases s.port r).2.2.2.1.trans h
      add := fun _ h => h, change := fun _ _ h => h, remove := fun h => h, cleared := fun h => h, flags := fun _ _ _ _ h => h }
    (fun h => h) (fun h => h) (fun h => h) (fun h => h) (fun h => h) (fun _ same h => same.trans h)

/-- A property that does not see the port, and that a restart leaves. -/
theorem framed_of_any {P : State → Prop} (port : ∀ {s : State} {x}, P s → P (s.setPort x))
    (restart : ∀ {s : State}, P s → P (afterRestart s)) : Framed P :=
  ⟨port, fun _ h => port h, port, restart⟩

/-! ## Requests (R168) -/

section
variable {P : State → Prop} (I : Inner P) (F : Framed P)

include F in
theorem framed_takeFrame {s : State} {kind tag : Byte} {rule : State → Taken} (keeps : ∀ {x : State}, P x → P (rule x).st)
    (same : ∀ x, (rule x).st.port.replies = x.port.replies) (h : P s) : P (takeFrame s kind tag rule) := by
  rcases takeFrame_cases s kind tag rule with ⟨_, stands⟩ | ⟨_, _, overrun⟩ | ⟨_, room, answered⟩
  · rw [stands]; exact h
  · rw [overrun]; exact F.frame h
  · rw [answered]
    exact F.answer (by rw [same]; exact room) (keeps (F.frame h))

include I F

/-- A request whose rule is made of pieces. -/
theorem inner_takeFrame {s : State} {kind tag : Byte} {rule : State → Taken}
    (keeps : ∀ {Q : State → Prop}, Inner Q → ∀ {x : State}, Q x → Q (rule x).st) (h : P s) : P (takeFrame s kind tag rule) :=
  framed_takeFrame F (keeps I) (fun _ => keeps (inner_replies _) rfl) h

theorem inner_bare {s : State} {kind : ReqKind} {tag : Byte} {body : List Byte} {rule : State → Taken}
    (keeps : ∀ {Q : State → Prop}, Inner Q → ∀ {x : State}, Q x → Q (rule x).st) (h : P s) :
    P (takeRequest s kind tag (bare body rule)) := by
  refine inner_takeFrame I F (fun {Q} J {x} hx => ?_) h
  unfold bare
  split
  · exact keeps J hx
  · exact hx

theorem inner_withBody {α : Type} {s : State} {kind : ReqKind} {tag : Byte} {body : Body α} {rule : α → State → Taken}
    (keeps : ∀ {Q : State → Prop}, Inner Q → ∀ (a : α) {x : State}, Q x → Q (rule a x).st) (h : P s) :
    P (takeRequest s kind tag (withBody body rule)) := by
  refine inner_takeFrame I F (fun {Q} J {x} hx => ?_) h
  cases body with
  | fields a => exact keeps J a hx
  | badLength => exact hx

theorem inner_takeRestart {s : State} (h : P s) : P (takeRestart s) := by
  unfold takeRestart
  refine inner_complete I ?_
  split
  · exact inner_autoArm I (F.restart h)
  · exact F.restart h

end

/-- The commands that change the Capacity Unit or a line's level outside a reset and a write of the configuration. -/
def MovesPlant : Instr → Prop
  | .lineSample _ _ => True
  | .settleExpiry => True
  | .trimSet _ _ => True
  | .lineReport _ _ => True
  | _ => False

/-- The requests that write the configuration (R2, R16, R32, R34, R170, R177, R181). -/
def WritesSetup : Instr → Prop
  | .setLimits _ _ => True
  | .setCar _ _ => True
  | .dropCar _ _ => True
  | .setGenset _ _ => True
  | .setLine _ _ => True
  | .setIndicatorFull _ _ => True
  | .setIndicatorValue _ _ => True
  | .savePlan _ _ => True
  | _ => False

/-- A command keeps such a property when it is kept where the command is a reset, moves the plant or writes the configuration. -/
theorem inner_exec {P : State → Prop} (W : Inner P) (F : Framed P) {c : Instr} {s t : State} (runs : exec c s = .next t) (h : P s)
    (reset : IsReset c → P t) (plant : MovesPlant c → P t) (writes : WritesSetup c → P t) : P t := by
  cases c with
  | powerOnReset | externalReset => exact reset trivial
  | lineSample | settleExpiry | trimSet | lineReport => exact plant trivial
  | setLimits | setCar | dropCar | setGenset | setLine | setIndicatorFull | setIndicatorValue | savePlan => exact writes trivial
  | supplyDip =>
    have dip : P (s.setPort { s.port with dipFlag := true }) := W.port rfl rfl h
    simp only [exec, execSupplyDip] at runs
    split at runs
    · cases runs; exact inner_driveLines W (W.report (W.store dip))
    · cases runs; exact inner_driveLines W dip
  | saveEnd =>
    simp only [exec, execSaveEnd] at runs
    repeat' split at runs
    · cases runs; exact inner_driveLines W (W.report (W.store h))
    · cases runs; exact inner_driveLines W (W.report (W.store h))
    · cases runs; exact h
  | carReply => cases runs; exact inner_receiveReply W h
  | carReplyInvalid => cases runs; exact inner_receiveReply W h
  | missedExchange => cases runs; exact inner_missExchange W h
  | silentHoldExpiry =>
    simp only [exec, execSilentHoldExpiry] at runs
    split at runs
    · cases runs; exact inner_complete W (kept_handSheds W.toKept (kept_expireHold W.toKept h))
    · cases runs; exact h
  | startWindowExpiry =>
    simp only [exec, execStartWindowExpiry] at runs
    split at runs
    · cases runs; exact inner_complete W (kept_handSheds W.toKept (kept_expireWindow W.toKept h))
    · cases runs; exact h
  | historySample =>
    simp only [exec, execHistorySample] at runs
    split at runs
    case isTrue due =>
      cases runs
      exact W.resample (fun stopped => by simp [stopped, timerDue] at due) h
    case isFalse => cases runs; exact h
  | deadlineExpiry =>
    simp only [exec, execDeadlineExpiry] at runs
    split at runs
    · cases runs; exact inner_complete W (kept_expireDeadline W.toKept h)
    · cases runs; exact h
  | spacingExpiry =>
    simp only [exec, execSpacingExpiry] at runs
    split at runs
    · cases runs; exact inner_complete W (W.ret (fun _ queue group => ⟨queue, group⟩) h)
    · cases runs; exact h
  | restoreTimeout =>
    simp only [exec, execRestoreTimeout] at runs
    split at runs
    · cases runs; exact inner_complete W (W.plan rfl h)
    · cases runs; exact h
  | frameGapTimeout =>
    simp only [exec, execFrameGapTimeout] at runs
    split at runs
    · cases runs; exact F.frame h
    · cases runs; exact h
  | frameDiscarded =>
    simp only [exec, execFrameDiscarded] at runs
    repeat' split at runs
    · cases runs; exact h
    · cases runs; exact F.frame h
    · cases runs; exact h
  | unknownKind =>
    simp only [exec, execUnknownKind] at runs
    split at runs
    · cases runs; exact h
    · cases runs; exact inner_takeFrame W F (fun _ => id) h
  | transmitEnd =>
    simp only [exec, execTransmitEnd] at runs
    repeat' split at runs
    · cases runs; exact inner_takeRestart W F h
    · cases runs; exact F.transmit h
    · cases runs; exact h
  | restartTaken =>
    simp only [exec, execRestartTaken] at runs
    split at runs
    · cases runs; exact inner_takeRestart W F h
    · cases runs; exact h
  | transmitStart =>
    simp only [exec, execTransmitStart] at runs
    split at runs
    · cases runs; exact h
    · cases runs; exact F.transmit h
  | identify => cases runs; exact inner_bare W F (fun _ => id) h
  | arm => cases runs; exact inner_bare W F inner_ruleArm h
  | halt => cases runs; exact inner_bare W F inner_ruleHalt h
  | restart => cases runs; exact inner_bare W F inner_ruleRestart h
  | setServiceCount => cases runs; exact inner_withBody W F (fun J _ => inner_ruleServiceCount J) h
  | holdOut =>
    cases runs
    exact inner_withBody W F (fun J n _ kept => kept_ofCar
      (fun _ => inner_complete J (kept_handSheds J.toKept (kept_holdOutCar J.toKept kept))) kept) h
  | readmit =>
    cases runs
    exact inner_withBody W F (fun J n _ kept => kept_ofCar
      (fun _ => inner_complete J (kept_handSheds J.toKept (kept_readmitCar J.toKept kept))) kept) h
  | releaseGroup =>
    cases runs
    refine inner_takeFrame W F (fun {Q} J {x} kept => ?_) h
    split
    · exact inner_ruleReleaseGroup J kept
    · exact kept
  | capture => cases runs; exact inner_bare W F inner_ruleCapture h
  | captureRelease => cases runs; exact inner_bare W F (fun J => J.releaseCapture) h
  | queryPlan => cases runs; exact inner_bare W F (fun _ => id) h
  | queryCar =>
    cases runs
    refine inner_withBody W F (fun {Q} _ n {x} kept => ?_) h
    unfold ruleQueryCar
    split <;> exact kept
  | queryAccountSummary =>
    cases runs
    refine inner_withBody W F (fun {Q} _ part {x} kept => ?_) h
    cases part <;> exact kept
  | queryAccountEntries =>
    cases runs
    refine inner_withBody W F (fun {Q} _ n {x} kept => ?_) h
    unfold ruleEntries
    split <;> exact kept
  | queryQueue =>
    cases runs
    refine inner_withBody W F (fun {Q} _ n {x} kept => ?_) h
    unfold ruleQueryQueue
    split <;> exact kept
  | queryLines => cases runs; exact inner_bare W F (fun J => J.counts) h
  | readHistory => cases runs; exact inner_withBody W F (fun _ _ => kept_ruleReadHistory) h
  | ackFlags => cases runs; exact inner_bare W F (fun J _ kept => inner_driveLines J (J.port rfl rfl kept)) h

/-- The end of a power-on or external reset keeps what holds before any arm. -/
theorem inner_reset {P : State → Prop} (W : Inner P) {c : Instr} {s t : State}
    (fresh : ∀ kind image hist dip, P (afterReset s kind image hist dip))
    (runs : exec c s = .next t) (reset : IsReset c) : P t := by
  have ends : ∀ {x : State}, P x → P (endReset x) := fun hx => by
    refine inner_complete W ?_
    split
    · exact inner_autoArm W hx
    · exact hx
  cases c with
  | powerOnReset => cases runs; exact ends (fresh _ _ _ _)
  | externalReset => cases runs; exact ends (fresh _ _ _ _)
  | _ => exact reset.elim

/-! ## The plant (1, 2) -/

/-- A property that every change of the plant keeps too: it sees C and S alone of the plant, and the handing on of new values of C and
S restores what it says of them. -/
structure Plant (P : State → Prop) : Prop extends Inner P where
  lines : ∀ {s : State} {x}, P s → P (s.setLines x)
  tune : ∀ {s : State} {x : Capacity}, x.c = s.cap.c → x.sink = s.cap.sink → P s → P (s.setCap x)
  hand : ∀ {w : Work} {c sink : Nat}, P (w.st.setCap { w.st.cap with c, sink }) → P (handCapacity w c sink).st

/-- A property that every write of the configuration keeps too. -/
structure Tuned (P : State → Prop) : Prop extends Plant P where
  setup : ∀ {s : State} {x}, s.plan.state = .halted → P s → P (s.setSetup x)
  indicators : ∀ {s : State} {i x}, P s → P (storeIndicator s i x)
  cars : ∀ {s : State} {x}, P s → P (s.setCars x)

section
variable {P : State → Prop} (T : Plant P)
include T

/-- A change of the Capacity Unit that leaves C and S to be recomputed. -/
theorem plant_capacityEvent {w : Work} {f : State → State} (c : (f w.st).cap.c = w.st.cap.c)
    (sink : (f w.st).cap.sink = w.st.cap.sink) (h : P (f w.st)) : P (capacityEvent w f).st := by
  refine T.hand ?_
  have same : (w.up (fun s => recompute (f s))).st.setCap
      { (w.up (fun s => recompute (f s))).st.cap with c := w.st.cap.c, sink := w.st.cap.sink } = f w.st := by
    rw [← c, ← sink]
    rfl
  rw [same]
  exact h

theorem plant_stageChange {s : State} (h : P s) : P (stageChange s) := T.tune rfl rfl h

theorem plant_setStatus {s : State} {n : SetId} {st : SetStatus} (h : P s) : P (setStatus s n st) := T.tune rfl rfl h

theorem plant_setActive {w : Work} {n : SetId} (h : P w.st) : P (setActive w n).st := by
  unfold setActive
  split
  · exact plant_capacityEvent T rfl rfl (plant_stageChange T (plant_setStatus T h))
  · exact h

omit T in
theorem offerTrigger_setCap (s : State) (t : Trigger) (x : Capacity) :
    (offerTrigger s t).setCap x = offerTrigger (s.setCap x) t := by
  unfold offerTrigger
  rw [apply_ite (fun y : State => y.setCap x)]
  rfl

omit T in
theorem offerTrigger_cap (s : State) (t : Trigger) : (offerTrigger s t).cap = s.cap := by
  unfold offerTrigger
  split <;> rfl

theorem plant_setInactive {w : Work} {n : SetId} (h : P w.st) : P (setInactive w n).st := by
  have off : P (stageChange (setStatus w.st n .offline)) := plant_stageChange T (plant_setStatus T h)
  unfold setInactive
  split
  case h_1 => exact h
  case h_2 => exact plant_capacityEvent T rfl rfl off
  case h_3 =>
    refine T.hand ?_
    dsimp only
    split
    · rw [Work.up_st, Work.up_st, offerTrigger_setCap, offerTrigger_cap]
      have reported : P (queueReport (stageChange (setStatus w.st n .offline))
          (tripReport (recompute (stageChange (setStatus w.st n .offline))) n (contribution w.st n))) := T.report off
      exact T.trigger reported
    · exact off

theorem plant_handLine {w : Work} {l : LineId} {level : Level} (h : P w.st) : P (handLine w l level).st := by
  unfold handLine
  repeat' split
  · exact plant_setActive T h
  · exact plant_setInactive T h
  · exact plant_capacityEvent T rfl rfl (plant_stageChange T h)
  · exact h

theorem plant_qualifiedChange {w : Work} {l : LineId} {level : Level} (h : P w.st) : P (qualifiedChange w l level).st := by
  have recorded : ∀ x r, P (queueReport (alterLine w.st l x) r) := fun _ _ => T.report (T.lines h)
  unfold qualifiedChange
  dsimp only
  split
  · exact recorded _ _
  · exact plant_handLine T (recorded _ _)

theorem plant_samplePin {w : Work} {l : LineId} {pin : PinLevel} (h : P w.st) : P (samplePin w l pin).st := by
  have raw : P (recordRaw w.st l pin) := T.lines h
  have offered : ∀ level, P (offerSample (w.up (fun s => recordRaw s l pin)) l level).st := fun level => by
    unfold offerSample
    dsimp only
    repeat' split
    all_goals first | exact T.lines raw | exact plant_qualifiedChange T raw
  unfold samplePin
  dsimp only
  split
  · exact offered _
  · exact raw

theorem plant_applyItem {w : Work} {l : LineId} {level : Level} (h : P w.st) : P (applyItem w l level).st := by
  have stamped : P (alterLine w.st l (fun x => { x with lastReport := some w.st.time })) := T.lines h
  unfold applyItem
  dsimp only
  split
  · exact stamped
  · exact moves_planRun T.moves (plant_qualifiedChange T stamped)

theorem plant_applyItems {w : Work} {items : List (LineId × Level)} (h : P w.st) : P (applyItems w items).st :=
  closed_foldl (Q := fun v : Work => P v.st) (fun _ _ kept => by
    split
    · exact plant_applyItem T kept
    · exact kept) h

theorem plant_ruleLineReport {items : List ReportItem} {s : State} (h : P s) : P (ruleLineReport items s).st := by
  unfold ruleLineReport
  repeat' split
  · exact h
  · exact h
  · exact inner_complete T.toInner (plant_applyItems T h)
  · exact h

theorem plant_ruleTrimSet {f : TrimForm} {s : State} (h : P s) : P (ruleTrimSet f s).st := by
  unfold ruleTrimSet
  split
  · exact inner_complete T.toInner (plant_capacityEvent T rfl rfl (T.tune rfl rfl h))
  · exact h

omit T in
theorem plant_replies (k : List Reply) : Plant (fun s => s.port.replies = k) where
  toInner := inner_replies k
  lines h := h
  tune _ _ h := h
  hand {w c sink} h := by
    unfold handCapacity
    split
    · exact h
    · exact kept_handSheds (inner_replies k).toKept
        ((congrArg Fixed.replies (closed_settleAccount (w := w) (closed_fixed w.st.fixed) rfl)).trans h)

theorem plant_takeFrame (F : Framed P) {s : State} {kind tag : Byte} {rule : State → Taken}
    (keeps : ∀ {Q : State → Prop}, Plant Q → ∀ {x : State}, Q x → Q (rule x).st) (h : P s) : P (takeFrame s kind tag rule) :=
  framed_takeFrame F (keeps T) (fun _ => keeps (plant_replies _) rfl) h

theorem plant_withBody (F : Framed P) {α : Type} {s : State} {kind : ReqKind} {tag : Byte} {body : Body α}
    {rule : α → State → Taken} (keeps : ∀ {Q : State → Prop}, Plant Q → ∀ (a : α) {x : State}, Q x → Q (rule a x).st)
    (h : P s) : P (takeRequest s kind tag (withBody body rule)) := by
  refine plant_takeFrame T F (fun {Q} U {x} hx => ?_) h
  cases body with
  | fields a => exact keeps U a hx
  | badLength => exact hx

/-- A command that moves the plant keeps such a property. -/
theorem plant_movesPlant (F : Framed P) {c : Instr} {s t : State} (runs : exec c s = .next t) (h : P s) (plant : MovesPlant c) : P t := by
  cases c with
  | lineSample =>
    simp only [exec, execLineSample] at runs
    split at runs
    · cases runs; exact inner_complete T.toInner (plant_samplePin T h)
    · cases runs; exact h
  | settleExpiry =>
    simp only [exec, execSettleExpiry] at runs
    split at runs
    · cases runs
      exact inner_complete T.toInner (w := (capacityEvent (begin s) settleNow).noteBoth)
        (plant_capacityEvent T rfl rfl (T.tune rfl rfl h))
    · cases runs; exact h
  | trimSet => cases runs; exact plant_withBody T F (fun U _ => plant_ruleTrimSet U) h
  | lineReport => cases runs; exact plant_withBody T F (fun U _ => plant_ruleLineReport U) h
  | _ => exact plant.elim

end

/-! ## The configuration -/

theorem tuned_replies (k : List Reply) : Tuned (fun s => s.port.replies = k) where
  toPlant := plant_replies k
  setup _ h := h
  indicators h := h
  cars h := h

section
variable {P : State → Prop} (T : Tuned P)
include T

theorem tuned_takeFrame (F : Framed P) {s : State} {kind tag : Byte} {rule : State → Taken}
    (keeps : ∀ {Q : State → Prop}, Tuned Q → ∀ {x : State}, Q x → Q (rule x).st) (h : P s) : P (takeFrame s kind tag rule) :=
  framed_takeFrame F (keeps T) (fun _ => keeps (tuned_replies _) rfl) h

theorem tuned_withBody (F : Framed P) {α : Type} {s : State} {kind : ReqKind} {tag : Byte} {body : Body α}
    {rule : α → State → Taken} (keeps : ∀ {Q : State → Prop}, Tuned Q → ∀ (a : α) {x : State}, Q x → Q (rule a x).st)
    (h : P s) : P (takeRequest s kind tag (withBody body rule)) := by
  refine tuned_takeFrame T F (fun {Q} U {x} hx => ?_) h
  cases body with
  | fields a => exact keeps U a hx
  | badLength => exact hx

theorem tuned_changeLine {w : Work} {l : LineId} {x : LineSettings} (halted : w.st.plan.state = .halted) (h : P w.st) :
    P (changeLine w l x).st := by
  have stored : P (storeLine w.st l x) := T.setup halted h
  unfold changeLine
  dsimp only
  repeat' split
  · exact stored
  · exact T.lines stored
  · exact plant_handLine T.toPlant (T.lines stored)
  · exact T.lines stored

theorem tuned_storeLimits {s : State} {l : Limits} (halted : s.plan.state = .halted) (h : P s) : P (storeLimits s l) :=
  T.store (T.svc (T.setup halted h))

theorem tuned_ruleSetLimits {f : LimitsForm} {s : State} (h : P s) : P (ruleSetLimits f s).st := by
  refine kept_inHalted (fun halted => ?_) h
  split
  · exact inner_complete T.toInner (plant_capacityEvent T.toPlant rfl rfl (tuned_storeLimits T halted h))
  · exact h

theorem tuned_changeSet {s : State} {n : SetId} {x : SetSettings} (halted : s.plan.state = .halted) (h : P s) :
    P (changeSet s n x) := by
  have stored : P (storeSet s n x) := T.store (T.setup halted h)
  unfold changeSet
  dsimp only
  repeat' split
  · exact plant_stageChange T.toPlant (plant_setStatus T.toPlant stored)
  · exact plant_stageChange T.toPlant (plant_setStatus T.toPlant stored)
  · exact stored

omit T in
theorem changeSet_c (s : State) (n : SetId) (x : SetSettings) :
    (changeSet s n x).cap.c = s.cap.c ∧ (changeSet s n x).cap.sink = s.cap.sink := by
  unfold changeSet
  dsimp only
  repeat' split
  all_goals exact ⟨rfl, rfl⟩

theorem tuned_ruleSetGenset {f : GensetForm} {s : State} (h : P s) : P (ruleSetGenset f s).st := by
  refine kept_inHalted (fun halted => ?_) h
  split
  · exact inner_complete T.toInner (plant_capacityEvent T.toPlant (changeSet_c _ _ _).1 (changeSet_c _ _ _).2
      (tuned_changeSet T halted h))
  · exact h

theorem tuned_ruleSetLine {f : LineForm} {s : State} (h : P s) : P (ruleSetLine f s).st := by
  refine kept_inHalted (fun halted => ?_) h
  split
  · exact inner_complete T.toInner (tuned_changeLine T (w := begin (markModified s)) halted (T.store h))
  · exact h

theorem tuned_storeCar {s : State} {c : CarId} {p : CarProfile} (halted : s.plan.state = .halted) (h : P s) :
    P (storeCar s c p) := T.store (T.cars (T.setup halted h))

theorem tuned_ruleSetCar {f : CarForm} {s : State} (h : P s) : P (ruleSetCar f s).st := by
  unfold ruleSetCar
  split
  · refine kept_inHalted (fun halted => ?_) h
    split
    · exact inner_driveLines T.toInner (tuned_storeCar T halted h)
    · exact h
  · exact h

theorem tuned_ruleDropCar {n : Nat} {s : State} (h : P s) : P (ruleDropCar n s).st := by
  refine kept_inHalted (fun halted => ?_) h
  repeat' split
  · exact h
  · exact inner_driveLines T.toInner (kept_emptySlot T.toKept (tuned_storeCar T halted h))
  · exact h

theorem tuned_ruleIndicatorPart {p : IndPart} {s : State} (h : P s) : P (ruleIndicatorPart p s).st := by
  cases p with
  | full =>
    refine kept_inHalted (fun _ => ?_) h
    split
    · exact inner_driveLines T.toInner (T.indicators h)
    · exact h
  | unlisted => exact h

theorem tuned_ruleIndicatorValue {f : IndValueForm} {s : State} (h : P s) : P (ruleIndicatorValue f s).st := by
  unfold ruleIndicatorValue
  split
  · exact inner_driveLines T.toInner (T.indicators h)
  · exact h

theorem tuned_ruleSavePlan {body : List Byte} {s : State} (h : P s) : P (ruleSavePlan body s).st := by
  unfold ruleSavePlan
  split
  · refine kept_inHalted (fun halted => ?_) h
    split
    · exact inner_driveLines T.toInner (T.store (T.setup halted h))
    · exact h
  · exact h

/-- A request that writes the configuration keeps such a property. -/
theorem tuned_writesSetup (F : Framed P) {c : Instr} {s t : State} (runs : exec c s = .next t) (h : P s) (writes : WritesSetup c) : P t := by
  cases c with
  | setLimits => cases runs; exact tuned_withBody T F (fun U _ => tuned_ruleSetLimits U) h
  | setCar => cases runs; exact tuned_withBody T F (fun U _ => tuned_ruleSetCar U) h
  | dropCar => cases runs; exact tuned_withBody T F (fun U _ => tuned_ruleDropCar U) h
  | setGenset => cases runs; exact tuned_withBody T F (fun U _ => tuned_ruleSetGenset U) h
  | setLine => cases runs; exact tuned_withBody T F (fun U _ => tuned_ruleSetLine U) h
  | setIndicatorFull => cases runs; exact tuned_withBody T F (fun U _ => tuned_ruleIndicatorPart U) h
  | setIndicatorValue => cases runs; exact tuned_withBody T F (fun U _ => tuned_ruleIndicatorValue U) h
  | savePlan => cases runs; exact tuned_takeFrame T F (fun U => tuned_ruleSavePlan U) h
  | _ => exact writes.elim

/-- A command other than a power-on or external reset keeps such a property. -/
theorem tuned_exec (F : Framed P) {c : Instr} {s t : State} (runs : exec c s = .next t) (h : P s) (reset : IsReset c → P t) : P t :=
  inner_exec T.toInner F runs h reset (plant_movesPlant T.toPlant F runs h) (tuned_writesSetup T F runs h)

/-- Every step keeps such a property, when it holds right after a reset and does not see the time or the commands that wait. -/
theorem tuned_step (F : Framed P) (fresh : ∀ s kind image hist dip, P (afterReset s kind image hist dip))
    (time : ∀ {s x}, P s → P (s.setTime x)) (pending : ∀ {s x}, P s → P (s.setPending x)) {s t : State}
    (runs : step s = .next t) (h : P s) : P t := by
  unfold step at runs
  split at runs
  · cases runs; exact time h
  · exact tuned_exec T F runs (pending h) (inner_reset T.toInner (fresh _) runs)

end

end Sys2Proof.Proofs.Upkeep
end
section
/-! PROOFS. The permit table and its totals through every step (R90, R91, R92, R100). -/
namespace Sys2Proof.Proofs.Upkeep
open Sys2Proof.Machine Sys2Proof.Safety Sys2Proof.Proofs.Account

theorem offerTrigger_acct (s : State) (t : Trigger) : (offerTrigger s t).acct = s.acct := by
  unfold offerTrigger
  split <;> rfl

theorem takeSample_acct (s : State) : (takeSample s).acct = s.acct := by
  unfold takeSample
  split
  · dsimp only
    split <;> rfl
  · rfl

theorem startSampling_acct (s : State) : (startSampling s).acct = s.acct := by
  unfold startSampling
  split
  · rfl
  · exact takeSample_acct s

theorem releaseCapture_acct (s : State) : (releaseCapture s).acct = s.acct := by
  unfold releaseCapture
  dsimp only
  split
  · rw [startSampling_acct]; rfl
  · rfl

/-! ## Properties of the account -/

section
variable {Q : Account → Prop} (C : Closed (fun s => Q s.acct))
include C

theorem tuned_of_closed : Tuned (fun s => Q s.acct) where
  setup _ h := h
  indicators h := h
  cars h := h
  toInner := inner_of_closed C (fun h => h) (fun h => h) (fun h => h) (fun h => h) (fun h => h) (fun _ _ h => h)
  lines h := h
  tune _ _ h := h
  hand {w _ _} h := by
    unfold handCapacity
    split
    · exact h
    · exact closed_handSheds C (closed_settleAccount (w := w) C h)

/-- A property of the account alone that its own operations keep, and that an empty account has, is kept by every step. -/
theorem step_of_closed (fresh : Q Account.fresh) {s t : State} (runs : step s = .next t) (h : Q s.acct) : Q t.acct :=
  tuned_step (tuned_of_closed C) (framed_of_any (fun h => h) (fun _ => fresh)) (fun _ _ _ _ _ => fresh) (fun h => h)
    (fun h => h) runs h

end

/-! ## The totals (R92) -/

theorem closed_totals : Closed (fun s => Summed s.acct) where
  car _ h := h
  carsAll _ h := h
  link h := h
  hist h := h
  plan h := h
  ret h := h
  svc _ h := h
  inds h := h
  report h := h
  add _ h := summed_add h _
  change _ _ h := summed_change h _ _
  remove h := summed_remove h _
  cleared _ := ⟨rfl, rfl⟩
  flags entries kd kr _ h := by
    obtain ⟨draw, regen⟩ := h
    exact ⟨by rw [State.setAcct_acct, kd, entries, draw], by rw [State.setAcct_acct, kr, entries, regen]⟩

/-! ## Permit numbers (R90, R91) -/

/-- The number `i` places after `n` in the cycle 1..65535. -/
def permitAt (n i : Nat) : Nat := (n - 1 + i) % 65535 + 1

theorem permitAt_zero {n : Nat} (permit : PermitNumber n) : permitAt n 0 = n := by
  obtain ⟨low, high⟩ := permit
  unfold permitAt
  omega

theorem permitNumber_after {n : Nat} (permit : PermitNumber n) : PermitNumber (if n ≥ 65535 then 1 else n + 1) := by
  obtain ⟨low, high⟩ := permit
  unfold PermitNumber
  split <;> omega

theorem permitAt_after {n : Nat} (permit : PermitNumber n) (i : Nat) :
    permitAt (if n ≥ 65535 then 1 else n + 1) i = permitAt n (i + 1) := by
  obtain ⟨low, high⟩ := permit
  unfold permitAt
  split <;> omega

theorem permitNumber_freePermit (used : List Nat) : ∀ (fuel : Nat) {n : Nat}, PermitNumber n →
    PermitNumber (freePermit used fuel n)
  | 0, _, permit => permit
  | fuel + 1, n, permit => by
    unfold freePermit
    split
    · exact permitNumber_freePermit used fuel (permitNumber_after permit)
    · exact permit

/-- When the number found is in use, so was every number that was passed over. -/
theorem passed_of_freePermit_mem (used : List Nat) : ∀ (fuel : Nat) {n : Nat}, PermitNumber n →
    freePermit used fuel n ∈ used → ∀ i ≤ fuel, permitAt n i ∈ used
  | 0, n, permit, found, i, le => by
    obtain rfl : i = 0 := by omega
    rw [permitAt_zero permit]
    exact found
  | fuel + 1, n, permit, found, i, le => by
    unfold freePermit at found
    split at found
    case isTrue taken =>
      cases i with
      | zero => rw [permitAt_zero permit]; simpa using taken
      | succ i =>
        rw [← permitAt_after permit]
        exact passed_of_freePermit_mem used fuel (permitNumber_after permit) found i (by omega)
    case isFalse free => exact absurd found (by simpa using free)

/-- Fewer numbers in use than the cycle has leave a free one to be found. -/
theorem freePermit_notMem {used : List Nat} (room : used.length < 65535) {n : Nat} (permit : PermitNumber n) :
    freePermit used used.length n ∉ used := by
  intro found
  have passed := passed_of_freePermit_mem used used.length permit found
  have distinct : ((List.range (used.length + 1)).map (permitAt n)).Nodup := by
    refine List.nodup_range.map_on (fun i hi j hj same => ?_)
    rw [List.mem_range] at hi hj
    unfold permitAt at same
    omega
  have within : (List.range (used.length + 1)).map (permitAt n) ⊆ used := by
    intro x mem
    obtain ⟨i, hi, rfl⟩ := List.mem_map.mp mem
    exact passed i (by rw [List.mem_range] at hi; omega)
  have length := (distinct.subperm within).length_le
  simp at length

/-- One entry per car and distinct permit numbers. -/
def TableSound (a : Account) : Prop :=
  (a.entries.map (·.car)).Nodup ∧ (a.entries.map (·.permit)).Nodup ∧ (∀ e ∈ a.entries, PermitNumber e.permit)
    ∧ PermitNumber a.nextPermit

theorem tableSound_iff (s : State) : TableSound s.acct ↔ OneEntryPerCar s ∧ PermitsDistinct s := Iff.rfl

theorem entries_length_le {a : Account} (sound : (a.entries.map (·.car)).Nodup) : a.entries.length ≤ 48 := by
  have card := sound.length_le_card
  simpa using card

theorem tableSound_add {a : Account} (h : TableSound a) {e : Entry} (free : a.entries.find? (fun x => x.car == e.car) = none) :
    TableSound (a.add e) := by
  obtain ⟨cars, permits, numbers, next⟩ := h
  have taken : PermitNumber (takenPermit a) := permitNumber_freePermit _ _ next
  have unused : takenPermit a ∉ a.entries.map (·.permit) := by
    have room : (a.entries.map (·.permit)).length < 65535 := by
      rw [List.length_map]; exact Nat.lt_of_le_of_lt (entries_length_le cars) (by decide)
    have found := freePermit_notMem room next
    rwa [List.length_map] at found
  have apart : e.car ∉ a.entries.map (·.car) := by
    intro mem
    obtain ⟨x, mem, same⟩ := List.mem_map.mp mem
    simp only [List.find?_eq_none, beq_iff_eq] at free
    exact free x mem same
  refine ⟨?_, ?_, ?_, permitNumber_after taken⟩
  · simp only [Account.add, List.map_append, List.map_cons, List.map_nil]
    exact cars.append (List.nodup_singleton _) (by simpa using apart)
  · simp only [Account.add, List.map_append, List.map_cons, List.map_nil]
    exact permits.append (List.nodup_singleton _) (by simpa using unused)
  · simp only [Account.add, List.mem_append, List.mem_singleton]
    rintro x (old | rfl)
    · exact numbers x old
    · exact taken

theorem change_entries_map {α : Type} (g : Entry → α) (a : Account) (c : CarId) {f : Entry → Entry} (keeps : ∀ e, g (f e) = g e) :
    (a.change c f).entries.map g = a.entries.map g := by
  rw [change_entries, map_alterFirst g keeps]

theorem closed_table : Closed (fun s => TableSound s.acct) where
  car _ h := h
  carsAll _ h := h
  link h := h
  hist h := h
  plan h := h
  ret h := h
  svc _ h := h
  inds h := h
  report h := h
  add free h := tableSound_add h free
  change {s c f} car permit h := by
    obtain ⟨cars, permits, numbers, next⟩ := h
    refine ⟨?_, ?_, ?_, ?_⟩
    · rw [State.setAcct_acct, change_entries_map _ _ _ car]; exact cars
    · rw [State.setAcct_acct, change_entries_map _ _ _ permit]; exact permits
    · have all : ∀ n ∈ s.acct.entries.map (·.permit), PermitNumber n := by simpa using numbers
      rw [← change_entries_map (·.permit) s.acct c permit] at all
      simpa using all
    · rw [State.setAcct_acct, (change_rest s.acct c f).2.2.2.2]; exact next
  remove {s c} h := by
    obtain ⟨cars, permits, numbers, next⟩ := h
    have next_same : (s.acct.remove c).nextPermit = s.acct.nextPermit := by unfold Account.remove; split <;> rfl
    refine ⟨?_, ?_, ?_, ?_⟩
    · rw [State.setAcct_acct, remove_entries]; exact cars.sublist (List.eraseP_sublist.map _)
    · rw [State.setAcct_acct, remove_entries]; exact permits.sublist (List.eraseP_sublist.map _)
    · rw [State.setAcct_acct, remove_entries]
      exact fun e mem => numbers e (List.eraseP_sublist.subset mem)
    · rw [State.setAcct_acct, next_same]; exact next
  cleared h := ⟨List.nodup_nil, List.nodup_nil, fun _ mem => absurd mem List.not_mem_nil, h.2.2.2⟩
  flags entries _ _ next h := by
    unfold TableSound
    rw [State.setAcct_acct, entries, next]
    exact h

theorem tableSound_fresh : TableSound Account.fresh :=
  ⟨List.nodup_nil, List.nodup_nil, fun _ mem => absurd mem List.not_mem_nil, by unfold PermitNumber; decide⟩

/-! ## Overcommit (R100) -/

/-- The totals are the sums and the flags are the comparisons. -/
def AccountSound (s : State) : Prop := TotalsMatch s ∧ OvercommitMatches s

theorem accountSound_settleAccount {w : Work} (h : TotalsMatch w.st) (eased : Bool) :
    AccountSound (settleAccount w eased).st :=
  ⟨totalsMatch_settleAccount h eased, overcommitMatches_settleAccount h eased⟩

theorem accountSound_of_same {s t : State} (h : AccountSound s) (acct : t.acct = s.acct) (cap : t.cap = s.cap) :
    AccountSound t := by
  unfold AccountSound TotalsMatch OvercommitMatches at *
  rw [acct, cap]
  exact h

theorem takeSample_cap (s : State) : (takeSample s).cap = s.cap := by
  unfold takeSample
  split
  · dsimp only
    split <;> rfl
  · rfl

theorem startSampling_cap (s : State) : (startSampling s).cap = s.cap := by
  unfold startSampling
  split
  · rfl
  · exact takeSample_cap s

theorem releaseCapture_cap (s : State) : (releaseCapture s).cap = s.cap := by
  unfold releaseCapture
  dsimp only
  split
  · rw [startSampling_cap]; rfl
  · rfl

theorem kept_accountSound : Kept AccountSound where
  car h := h
  carsAll h := h
  link _ h := h
  trigger h := accountSound_of_same h (offerTrigger_acct _ _) (offerTrigger_cap _ _)
  startSampling h := accountSound_of_same h (startSampling_acct _) (startSampling_cap _)
  stopSampling h := h
  plan _ h := h
  ret _ h := h
  svc h := h
  report h := h
  mark {s c f} marks h := by
    obtain ⟨totals, draw, regen⟩ := h
    obtain ⟨sums, kd, kr, drawOver, regenOver, _⟩ := flagsStand_change totals c marks
    refine ⟨sums, ?_⟩
    unfold OvercommitMatches
    rw [kd, kr, drawOver, regenOver]
    exact ⟨draw, regen⟩
  enter {w e _} _ _ h :=
    accountSound_settleAccount (w := w.up (fun s => s.setAcct (s.acct.add e))) (summed_add h.1 _) _
  change {w c f _} _ h :=
    accountSound_settleAccount (w := w.up (fun s => s.setAcct (s.acct.change c f))) (summed_change h.1 _ _) _
  remove {w c _} h :=
    accountSound_settleAccount (w := w.up (fun s => s.setAcct (s.acct.remove c))) (summed_remove h.1 _) _
  clear {w} _ := accountSound_settleAccount (w := w.up (fun s => s.setAcct s.acct.cleared)) ⟨rfl, rfl⟩ _

theorem accountSound_fresh {s : State} (fresh : s.acct = Account.fresh) : AccountSound s := by
  unfold AccountSound TotalsMatch OvercommitMatches
  rw [fresh]
  simp [Account.fresh]

theorem tuned_accountSound : Tuned AccountSound where
  setup _ h := h
  indicators h := h
  cars h := h
  toKept := kept_accountSound
  inds h := h
  port _ _ h := h
  store h := h
  counts h := h
  resample {s} _ h := accountSound_of_same h (takeSample_acct s) (takeSample_cap s)
  releaseCapture h := accountSound_of_same h (releaseCapture_acct _) (releaseCapture_cap _)
  moves := moves_of_any kept_accountSound (fun h => h)
  halt _ h := kept_transition_of_any kept_accountSound (fun h => h) h
  links := Or.inl (fun h => h)
  lines h := h
  tune c sink h := by
    unfold AccountSound TotalsMatch OvercommitMatches at *
    rw [State.setCap_cap, c, sink]
    exact h
  hand {w c sink} h := by
    unfold handCapacity
    split
    case isTrue same =>
      obtain ⟨rfl, rfl⟩ := same
      exact h
    case isFalse => exact kept_handSheds kept_accountSound (accountSound_settleAccount h.1 _)

/-- Settles O54: the totals and the table are properties of the account that its own operations keep; the flags are matched again
wherever a total or a limit changes, since the event is then completed in the account. -/
theorem totalsMatchKept : Obligations.TotalsMatchKept := by
  intro s t runs
  refine ⟨fun totals => ?_, fun cars permits => ?_, fun totals matched => ?_⟩
  · exact step_of_closed closed_totals ⟨rfl, rfl⟩ runs totals
  · exact step_of_closed closed_table tableSound_fresh runs ⟨cars, permits⟩
  · exact (tuned_step tuned_accountSound (framed_of_any (fun h => h) (fun _ => accountSound_fresh rfl))
      (fun _ _ _ _ _ => accountSound_fresh rfl) (fun h => h) (fun h => h) runs ⟨totals, matched⟩).2

end Sys2Proof.Proofs.Upkeep
end
section
/-! PROOFS. The quiet stage (R113), sampling (R105, R108) and the links in HALTED (R72) through every step. -/
namespace Sys2Proof.Proofs.Upkeep
open Sys2Proof.Machine Sys2Proof.Safety Sys2Proof.Proofs.Account

/-! ## The entries' fields through an event in the account -/

section
variable {α : Type} {g : Entry → α} (keeps : ∀ cause e, g (Entry.toStop cause e) = g e)
include keeps

theorem entries_moveToStop (w : Work) (c : CarId) (cause : StopCause) :
    (moveToStop w c cause).st.acct.entries.map g = w.st.acct.entries.map g := by
  rcases moveToStop_cases w c cause with stands | ⟨_, _, _, ⟨_, moved⟩ | ⟨_, moved⟩⟩
  · rw [stands]
  · rw [moved]; exact change_entries_map g _ _ (keeps cause)
  · rw [moved]; exact change_entries_map g _ _ (keeps cause)

theorem entries_shedAll (w : Work) (chosen : List Entry) :
    (shedAll w chosen).st.acct.entries.map g = w.st.acct.entries.map g :=
  closed_foldl (Q := fun v : Work => v.st.acct.entries.map g = w.st.acct.entries.map g)
    (f := fun acc (e : Entry) => moveToStop acc e.car .shed) (fun _ _ same => (entries_moveToStop keeps _ _ _).trans same) rfl

/-- A field that a move to STOP phase leaves is left by the completion of an event in the account. -/
theorem entries_settleAccount (w : Work) (eased : Bool) :
    (settleAccount w eased).st.acct.entries.map g = w.st.acct.entries.map g := by
  have draw : (shedDraw (flaggedWork w)).1.st.acct.entries.map g = w.st.acct.entries.map g := by
    unfold shedDraw
    split
    · exact entries_shedAll keeps _ _
    · rfl
  rw [settleAccount_acct, ← draw]
  change (shedRegen (shedDraw (flaggedWork w)).1).1.st.acct.entries.map g = _
  unfold shedRegen
  split
  · exact entries_shedAll keeps _ _
  · rfl

end

theorem entries_nil_settleAccount {w : Work} (nil : w.st.acct.entries = []) (eased : Bool) :
    (settleAccount w eased).st.acct.entries = [] := by
  have same := entries_settleAccount (g := fun e => e.car) (fun _ _ => rfl) w eased
  rw [nil] at same
  exact List.map_eq_nil_iff.mp same

/-! ## The quiet stage (R113) -/

/-- The permit table, the return queue and the release group are empty. -/
def StageEmpty (s : State) : Prop := s.acct.entries = [] ∧ s.ret.queue = [] ∧ s.ret.group = []

theorem stageEmpty_clearStage (w : Work) : StageEmpty (clearStage w).st :=
  ⟨entries_nil_settleAccount (w := w.up (fun s => s.setAcct s.acct.cleared)) rfl false, rfl, rfl⟩

theorem offerTrigger_ret (s : State) (t : Trigger) : (offerTrigger s t).ret = s.ret := by
  unfold offerTrigger
  split <;> rfl

theorem takeSample_ret (s : State) : (takeSample s).ret = s.ret := by
  unfold takeSample
  split
  · dsimp only
    split <;> rfl
  · rfl

theorem startSampling_ret (s : State) : (startSampling s).ret = s.ret := by
  unfold startSampling
  split
  · rfl
  · exact takeSample_ret s

theorem quietStage_of_same {s t : State} (h : QuietStage s) (acct : t.acct = s.acct) (ret : t.ret = s.ret)
    (plan : t.plan = s.plan) : QuietStage t := by
  unfold QuietStage at *
  rw [acct, ret, plan]
  exact h

/-- An event completed in the account keeps an empty table empty, and the rest of the quiet stage. -/
theorem quietStage_settleAccount {w : Work} (h : QuietStage w.st) (eased : Bool) : QuietStage (settleAccount w eased).st := by
  intro quiet
  rw [settleAccount_plan] at quiet
  obtain ⟨entries, returns⟩ := h quiet
  rw [settleAccount_ret]
  exact ⟨entries_nil_settleAccount entries eased, returns⟩

theorem kept_quietStage : Kept QuietStage where
  car h := h
  carsAll h := h
  link _ h := h
  trigger h := quietStage_of_same h (offerTrigger_acct _ _) (offerTrigger_ret _ _) (offerTrigger_plan _ _)
  startSampling h := quietStage_of_same h (startSampling_acct _) (startSampling_ret _) (startSampling_plan _)
  stopSampling h := h
  plan state h quiet := h (state ▸ quiet)
  ret empty h quiet := ⟨(h quiet).1, empty quiet (h quiet).2.1 (h quiet).2.2⟩
  svc h := h
  report h := h
  mark {s c f} _ h quiet := ⟨by simp [(h quiet).1, alterFirst], (h quiet).2⟩
  enter busy _ _ quiet := by rw [settleAccount_plan] at quiet; exact absurd quiet busy
  change {w c f _} _ h := quietStage_settleAccount (w := w.up (fun s => s.setAcct (s.acct.change c f)))
    (fun quiet => ⟨by simp [(h quiet).1, alterFirst], (h quiet).2⟩) _
  remove {w c _} h := quietStage_settleAccount (w := w.up (fun s => s.setAcct (s.acct.remove c)))
    (fun quiet => ⟨by simp [(h quiet).1], (h quiet).2⟩) _
  clear {w} h := quietStage_settleAccount (w := w.up (fun s => s.setAcct s.acct.cleared)) (fun quiet => ⟨rfl, (h quiet).2⟩) _

theorem movedState_acct (s : State) (dest : PlanState) (cause : PlanCause) : (movedState s dest cause).acct = s.acct := by
  unfold movedState
  extract_lets s1 ctl s2 s3
  have same : s3.acct = s.acct := by
    unfold s3
    split
    · rw [startSampling_acct]; rfl
    · rfl
  split <;> exact same

theorem movedState_ret (s : State) (dest : PlanState) (cause : PlanCause) : (movedState s dest cause).ret = s.ret := by
  unfold movedState
  extract_lets s1 ctl s2 s3
  have same : s3.ret = s.ret := by
    unfold s3
    split
    · rw [startSampling_ret]; rfl
    · rfl
  split <;> exact same

theorem moves_quietStage : Moves QuietStage := by
  intro w dest cause _ h
  refine kept_transition kept_quietStage (fun not_watching not_outage quiet => ?_) (fun _ _ => stageEmpty_clearStage _)
  rw [movedState_plan_state] at quiet
  rcases quiet with halted | watching | outage
  · contradiction
  · exact absurd watching not_watching
  · exact absurd outage not_outage

/-- The entry into HALTED comes from a quiet plan state, whose stage is empty already (R118). -/
theorem quietStage_halt {s : State} (quiet : Quiet s.plan.state) (h : QuietStage s) :
    QuietStage (transition (begin s) .halted .halt).st := by
  refine kept_transition kept_quietStage (fun _ _ _ => ?_) (fun _ _ => stageEmpty_clearStage _)
  rw [movedState_acct, movedState_ret]
  exact h quiet

theorem releaseCapture_ret (s : State) : (releaseCapture s).ret = s.ret := by
  unfold releaseCapture
  dsimp only
  split
  · rw [startSampling_ret]; rfl
  · rfl

theorem releaseCapture_plan (s : State) : (releaseCapture s).plan = s.plan := by
  unfold releaseCapture
  dsimp only
  split
  · rw [startSampling_plan]; rfl
  · rfl

theorem tuned_quietStage : Tuned QuietStage where
  setup _ h := h
  indicators h := h
  cars h := h
  toKept := kept_quietStage
  inds h := h
  port _ _ h := h
  store h := h
  counts h := h
  resample {s} _ h := quietStage_of_same h (takeSample_acct s) (takeSample_ret s) (takeSample_plan s)
  releaseCapture h := quietStage_of_same h (releaseCapture_acct _) (releaseCapture_ret _) (releaseCapture_plan _)
  moves := moves_quietStage
  halt := quietStage_halt
  links := Or.inl (fun h => h)
  lines h := h
  tune _ _ h := h
  hand {w _ _} h := by
    unfold handCapacity
    split
    · exact h
    · exact kept_handSheds kept_quietStage (quietStage_settleAccount (w := w) h _)

/-! ## Sampling (R105, R108) -/

theorem frozen_iff (h : History) : frozen h = true ↔ ∃ r, h.capture = some r ∧ r.state = .complete ∧ r.freeze = true := by
  unfold frozen
  cases h.capture <;> simp

theorem samplingStopped_iff (s : State) :
    SamplingStopped s ↔ (s.plan.state = .halted ∨ frozen s.hist = true → s.hist.timer = none) := by
  unfold SamplingStopped
  rw [frozen_iff]

theorem samplingStopped_of_same {s t : State} (h : SamplingStopped s) (hist : t.hist = s.hist) (plan : t.plan = s.plan) :
    SamplingStopped t := by
  unfold SamplingStopped at *
  rw [hist, plan]
  exact h

/-- Of the history, an event completed in the account offers the capture a trigger alone. -/
theorem samplingStopped_offerTrigger {s : State} {t : Trigger} (h : SamplingStopped s) : SamplingStopped (offerTrigger s t) := by
  unfold offerTrigger
  split
  · rw [samplingStopped_iff] at *
    rintro (halted | frozen_now)
    · exact h (Or.inl halted)
    · simp [frozen] at frozen_now
  · exact h

theorem samplingStopped_rearm {s : State} (driven : s.plan.state ≠ .halted) : SamplingStopped (rearmSampling s) := by
  rw [samplingStopped_iff]
  rintro (halted | frozen_now)
  · exact absurd halted driven
  · exact if_pos frozen_now

theorem samplingStopped_startSampling {s : State} (h : SamplingStopped s) : SamplingStopped (startSampling s) := by
  unfold startSampling
  split
  case isTrue => exact h
  case isFalse open_ =>
    refine samplingStopped_rearm ?_
    rw [takeSample_plan]
    exact fun halted => open_ (by simp [halted])

theorem alerted_hist (w : Work) : (alertedState w).hist = w.st.hist := by
  have moved : ∀ v c cause, (moveToStop v c cause).st.hist = v.st.hist := fun v c cause => by
    rcases moveToStop_cases v c cause with stands | ⟨_, _, _, ⟨_, same⟩ | ⟨_, same⟩⟩
    · rw [stands]
    · rw [same]; rfl
    · rw [same]; rfl
  have all : ∀ v chosen, (shedAll v chosen).st.hist = v.st.hist := fun v chosen =>
    closed_foldl (Q := fun u : Work => u.st.hist = v.st.hist) (f := fun acc (e : Entry) => moveToStop acc e.car .shed)
      (fun _ _ same => (moved _ _ _).trans same) rfl
  have draw : (shedDraw (flaggedWork w)).1.st.hist = w.st.hist := by
    unfold shedDraw
    split
    · exact all _ _
    · rfl
  have both : (shedBoth w).st.hist = w.st.hist := by
    unfold shedBoth shedRegen
    split
    · exact (all _ _).trans draw
    · exact draw
  exact closed_foldl (Q := fun s : State => s.hist = w.st.hist)
    (f := fun acc cause => queueReport acc (alertOf acc cause (shedOf w))) (fun _ _ same => same) both

theorem alerted_plan (w : Work) : (alertedState w).plan = w.st.plan := by rw [accountOnly_alerted w]

theorem samplingStopped_settleAccount {w : Work} (h : SamplingStopped w.st) (eased : Bool) :
    SamplingStopped (settleAccount w eased).st := by
  have alerted : SamplingStopped (alertedState w) := samplingStopped_of_same h (alerted_hist w) (alerted_plan w)
  have offered : SamplingStopped (offeredState w) := by
    unfold offeredState
    split
    · exact samplingStopped_offerTrigger alerted
    · exact alerted
  rw [settleAccount_eq]
  split <;> exact offered

theorem kept_samplingStopped : Kept SamplingStopped where
  car h := h
  carsAll h := h
  link _ h := h
  trigger h := samplingStopped_offerTrigger h
  startSampling h := samplingStopped_startSampling h
  stopSampling _ _ := rfl
  plan state h := by unfold SamplingStopped at *; rwa [State.setPlan_plan, state]
  ret _ h := h
  svc h := h
  report h := h
  mark _ h := h
  enter {w e _} _ _ h := samplingStopped_settleAccount (w := w.up (fun s => s.setAcct (s.acct.add e))) h _
  change {w c f _} _ h := samplingStopped_settleAccount (w := w.up (fun s => s.setAcct (s.acct.change c f))) h _
  remove {w c _} h := samplingStopped_settleAccount (w := w.up (fun s => s.setAcct (s.acct.remove c))) h _
  clear {w} h := samplingStopped_settleAccount (w := w.up (fun s => s.setAcct s.acct.cleared)) h _

theorem samplingStopped_movedState {s : State} {dest : PlanState} {cause : PlanCause} (driven : dest ≠ .halted)
    (h : SamplingStopped s) : SamplingStopped (movedState s dest cause) := by
  unfold movedState
  extract_lets s1 ctl s2 s3
  have planned : SamplingStopped s2 := by
    rw [samplingStopped_iff] at *
    rintro (halted | frozen_now)
    · exact absurd halted driven
    · exact h (Or.inr frozen_now)
  have sampled : SamplingStopped s3 := by
    unfold s3
    split
    · exact samplingStopped_startSampling planned
    · exact planned
  split <;> exact sampled

/-- The entry into HALTED stops sampling (R105, R118). -/
theorem samplingStopped_halt (s : State) : SamplingStopped (transition (begin s) .halted .halt).st := by
  rw [transition_eq]
  exact kept_reportChanged kept_samplingStopped (s := (enterHalted _).st) (fun _ => rfl)

theorem moves_samplingStopped : Moves SamplingStopped := fun driven h =>
  have moved := samplingStopped_movedState driven h
  kept_transition kept_samplingStopped (fun _ _ => moved) (fun _ => kept_clearStage kept_samplingStopped moved)

theorem samplingStopped_releaseCapture {s : State} (h : SamplingStopped s) : SamplingStopped (releaseCapture s) := by
  have released : SamplingStopped (s.setHist { s.hist with capture := none }) := by
    rw [samplingStopped_iff] at *
    rintro (halted | frozen_now)
    · exact h (Or.inl halted)
    · simp [frozen] at frozen_now
  unfold releaseCapture
  dsimp only
  split
  · exact samplingStopped_startSampling released
  · exact released

theorem tuned_samplingStopped : Tuned SamplingStopped where
  setup _ h := h
  indicators h := h
  cars h := h
  toKept := kept_samplingStopped
  inds h := h
  port _ _ h := h
  store h := h
  counts h := h
  resample {s} running h := samplingStopped_rearm (by
    rw [takeSample_plan]
    exact fun halted => running (h (Or.inl halted)))
  releaseCapture := samplingStopped_releaseCapture
  moves := moves_samplingStopped
  halt _ _ := samplingStopped_halt _
  links := Or.inl (fun h => h)
  lines h := h
  tune _ _ h := h
  hand {w _ _} h := by
    unfold handCapacity
    split
    · exact h
    · exact kept_handSheds kept_samplingStopped (samplingStopped_settleAccount (w := w) h _)

/-- Settles O55: the stage is empty where a quiet state is entered, since WATCHING and OUTAGE clear it and HALTED follows a quiet
state; and sampling is started again only outside HALTED and with the ring not frozen. -/
theorem quietStageKept : Obligations.QuietStageKept := by
  intro s t runs
  refine ⟨fun quiet => ?_, fun stopped => ?_⟩
  · exact tuned_step tuned_quietStage (framed_of_any (fun h => h) (fun _ _ => ⟨rfl, rfl, rfl⟩))
      (fun _ _ _ _ _ _ => ⟨rfl, rfl, rfl⟩) (fun h => h) (fun h => h) runs quiet
  · exact tuned_step tuned_samplingStopped (framed_of_any (fun h => h) (fun _ _ => rfl))
      (fun _ _ _ _ _ _ => rfl) (fun h => h) (fun h => h) runs stopped

end Sys2Proof.Proofs.Upkeep
end
section
/-! PROOFS. Every command's frame: it completes, who writes the configuration, and the rooms of the port (R168, R173). -/
namespace Sys2Proof.Proofs.Upkeep
open Sys2Proof.Machine Sys2Proof.Safety Sys2Proof.Proofs.Account

/-! ## Every command completes -/

theorem exec_completes (c : Instr) (s : State) : ∃ t, exec c s = .next t := by
  cases c with
  | supplyDip => simp only [exec, execSupplyDip]; split <;> exact ⟨_, rfl⟩
  | saveEnd => simp only [exec, execSaveEnd]; repeat' split
               all_goals exact ⟨_, rfl⟩
  | lineSample => simp only [exec, execLineSample]; split <;> exact ⟨_, rfl⟩
  | settleExpiry => simp only [exec, execSettleExpiry]; split <;> exact ⟨_, rfl⟩
  | silentHoldExpiry => simp only [exec, execSilentHoldExpiry]; split <;> exact ⟨_, rfl⟩
  | startWindowExpiry => simp only [exec, execStartWindowExpiry]; split <;> exact ⟨_, rfl⟩
  | historySample => simp only [exec, execHistorySample]; split <;> exact ⟨_, rfl⟩
  | deadlineExpiry => simp only [exec, execDeadlineExpiry]; split <;> exact ⟨_, rfl⟩
  | spacingExpiry => simp only [exec, execSpacingExpiry]; split <;> exact ⟨_, rfl⟩
  | restoreTimeout => simp only [exec, execRestoreTimeout]; split <;> exact ⟨_, rfl⟩
  | frameGapTimeout => simp only [exec, execFrameGapTimeout]; split <;> exact ⟨_, rfl⟩
  | frameDiscarded => simp only [exec, execFrameDiscarded]; repeat' split
                      all_goals exact ⟨_, rfl⟩
  | unknownKind => simp only [exec, execUnknownKind]; split <;> exact ⟨_, rfl⟩
  | transmitEnd => simp only [exec, execTransmitEnd]; repeat' split
                   all_goals exact ⟨_, rfl⟩
  | restartTaken => simp only [exec, execRestartTaken]; split <;> exact ⟨_, rfl⟩
  | transmitStart => simp only [exec, execTransmitStart]; split <;> exact ⟨_, rfl⟩
  | _ => exact ⟨_, rfl⟩

/-- Device time and the commands that wait. -/
def ClockAt (pending : List Instr) (time : Time) (s : State) : Prop := s.pending = pending ∧ s.time = time

theorem closed_clockAt (pending : List Instr) (time : Time) : Closed (ClockAt pending time) where
  car _ h := h
  carsAll _ h := h
  link h := h
  hist h := h
  plan h := h
  ret h := h
  svc _ h := h
  inds h := h
  report h := h
  add _ h := h
  change _ _ h := h
  remove h := h
  cleared h := h
  flags _ _ _ _ h := h

theorem tuned_clockAt (pending : List Instr) (time : Time) : Tuned (ClockAt pending time) where
  toInner := inner_of_closed (closed_clockAt pending time) (fun h => h) (fun h => h) (fun h => h) (fun h => h) (fun h => h)
    (fun _ _ h => h)
  setup _ h := h
  indicators h := h
  cars h := h
  lines h := h
  tune _ _ h := h
  hand {w _ _} h := by
    unfold handCapacity
    split
    · exact h
    · exact closed_handSheds (closed_clockAt pending time) (closed_settleAccount (w := w) (closed_clockAt pending time) h)

/-- Settles O2: no piece of an event touches device time or the commands that wait, and a hard reset sets the one to 0. -/
theorem everyCommandCompletes : Obligations.EveryCommandCompletes := by
  intro c s
  obtain ⟨t, runs⟩ := exec_completes c s
  have framed : ∀ time, Framed (ClockAt s.pending time) := fun _ => framed_of_any (fun h => h) (fun h => h)
  by_cases reset : IsReset c
  · obtain ⟨pending, time⟩ : ClockAt s.pending 0 t :=
      inner_reset (tuned_clockAt s.pending 0).toInner (fun _ _ _ _ => ⟨rfl, rfl⟩) runs reset
    exact ⟨t, runs, pending, fun _ => time, fun none => absurd reset none⟩
  · obtain ⟨pending, time⟩ : ClockAt s.pending s.time t :=
      tuned_exec (tuned_clockAt s.pending s.time) (framed s.time) runs ⟨rfl, rfl⟩ (fun is => absurd is reset)
    exact ⟨t, runs, pending, fun is => absurd is reset, fun _ => time⟩

/-! ## The configuration -/

theorem closed_setup (k : Setup) : Closed (fun s => s.setup = k) where
  car _ h := h
  carsAll _ h := h
  link h := h
  hist h := h
  plan h := h
  ret h := h
  svc _ h := h
  inds h := h
  report h := h
  add _ h := h
  change _ _ h := h
  remove h := h
  cleared h := h
  flags _ _ _ _ h := h

theorem plant_setup (k : Setup) : Plant (fun s => s.setup = k) where
  toInner := inner_of_closed (closed_setup k) (fun h => h) (fun h => h) (fun h => h) (fun h => h) (fun h => h) (fun _ _ h => h)
  lines h := h
  tune _ _ h := h
  hand {w _ _} h := by
    unfold handCapacity
    split
    · exact h
    · exact closed_handSheds (closed_setup k) (closed_settleAccount (w := w) (closed_setup k) h)

theorem takeFrame_setup {s : State} {kind tag : Byte} {rule : State → Taken} {k : Setup}
    (keeps : (rule (setFramer s .hunting)).st.setup = k) (same : s.setup = k) : (takeFrame s kind tag rule).setup = k := by
  rcases takeFrame_cases s kind tag rule with ⟨_, stands⟩ | ⟨_, _, overrun⟩ | ⟨_, _, answered⟩
  · rw [stands]; exact same
  · rw [overrun]; exact same
  · rw [answered]; exact keeps

@[simp] theorem withBody_fields {α : Type} (a : α) (rule : α → State → Taken) (s : State) :
    withBody (.fields a) rule s = rule a s := rfl

theorem inHalted_outside {s : State} (outside : s.plan.state ≠ .halted) (rule : State → Taken) :
    inHalted s rule = refuse s .wrongState := if_pos outside

/-- Outside HALTED a request that only HALTED accepts leaves the configuration, whatever its body. -/
theorem writesSetup_outside {c : Instr} {s t : State} (runs : exec c s = .next t) (writes : WritesSetup c)
    (outside : s.plan.state ≠ .halted) (no_value : ¬ IsValueWrite c) : t.setup = s.setup := by
  have refused : ∀ rule : State → Taken, (inHalted (setFramer s .hunting) rule).st.setup = s.setup := fun rule => by
    rw [inHalted_outside (s := setFramer s .hunting) outside]; rfl
  cases c with
  | setLimits tag body =>
    cases runs
    cases body with
    | fields f => exact takeFrame_setup (by rw [withBody_fields]; unfold ruleSetLimits; exact refused _) rfl
    | badLength => exact takeFrame_setup rfl rfl
  | setCar tag body =>
    cases runs
    cases body with
    | fields f =>
      refine takeFrame_setup ?_ rfl
      rw [withBody_fields]
      unfold ruleSetCar
      split
      · exact refused _
      · rfl
    | badLength => exact takeFrame_setup rfl rfl
  | dropCar tag body =>
    cases runs
    cases body with
    | fields f => exact takeFrame_setup (by rw [withBody_fields]; unfold ruleDropCar; exact refused _) rfl
    | badLength => exact takeFrame_setup rfl rfl
  | setGenset tag body =>
    cases runs
    cases body with
    | fields f => exact takeFrame_setup (by rw [withBody_fields]; unfold ruleSetGenset; exact refused _) rfl
    | badLength => exact takeFrame_setup rfl rfl
  | setLine tag body =>
    cases runs
    cases body with
    | fields f => exact takeFrame_setup (by rw [withBody_fields]; unfold ruleSetLine; exact refused _) rfl
    | badLength => exact takeFrame_setup rfl rfl
  | setIndicatorFull tag body =>
    cases runs
    cases body with
    | fields part =>
      cases part with
      | full f =>
        refine takeFrame_setup ?_ rfl
        change (ruleIndicatorFull f _).st.setup = _
        unfold ruleIndicatorFull
        exact refused _
      | unlisted => exact takeFrame_setup rfl rfl
    | badLength => exact takeFrame_setup rfl rfl
  | setIndicatorValue => exact absurd trivial no_value
  | savePlan tag body =>
    cases runs
    refine takeFrame_setup ?_ rfl
    unfold ruleSavePlan
    split
    · exact refused _
    · rfl
  | _ => exact writes.elim

/-- SET-INDICATOR of part VALUE writes the indication settings alone. -/
theorem valueWrite_setup {c : Instr} {s t : State} (runs : exec c s = .next t) (value : IsValueWrite c) :
    t.setup = { s.setup with inds := t.setup.inds } := by
  cases c with
  | setIndicatorValue tag body =>
    have written : ∀ x : State, x.setup = s.setup → ∀ f,
        (ruleIndicatorValue f x).st.setup = { s.setup with inds := (ruleIndicatorValue f x).st.setup.inds } := fun x same f => by
      unfold ruleIndicatorValue
      split
      · rw [← same]; rfl
      · rw [← same]; rfl
    cases runs
    rcases takeFrame_cases s (requestCode .setIndicator) tag (withBody body ruleIndicatorValue) with
      ⟨_, stands⟩ | ⟨_, _, overrun⟩ | ⟨_, _, answered⟩
    · unfold takeRequest; rw [stands]
    · unfold takeRequest; rw [overrun]; rfl
    · unfold takeRequest
      rw [answered]
      cases body with
      | fields f => exact written (setFramer s .hunting) rfl f
      | badLength => rfl
  | _ => exact value.elim

/-- Settles O3: no piece of an event touches the configuration, and outside HALTED the requests that write it are refused, but for
part VALUE. -/
theorem configurationWrittenInHalted : Obligations.ConfigurationWrittenInHalted := by
  intro c s t runs outside no_reset
  by_cases value : IsValueWrite c
  · exact ⟨valueWrite_setup runs value, fun none => absurd value none⟩
  · have same : t.setup = s.setup :=
      inner_exec (P := fun x => x.setup = s.setup) (plant_setup s.setup).toInner (framed_of_any (fun h => h) (fun h => h)) runs
        rfl (fun reset => absurd reset no_reset)
        (plant_movesPlant (plant_setup s.setup) (framed_of_any (fun h => h) (fun h => h)) runs rfl)
        (fun writes => writesSetup_outside runs writes outside value)
    exact ⟨by rw [same], fun _ => same⟩

/-! ## The report queue (R173, R174) -/

theorem replacePosition_some {c : CarId} {r : Report} (position : r.positionOf = some c) :
    ∀ {l l' : List Report}, replacePosition c r l = some l' →
      l'.length = l.length ∧ l'.filterMap Report.positionOf = l.filterMap Report.positionOf
  | [], _, found => by cases found
  | x :: xs, l', found => by
    unfold replacePosition at found
    split at found
    case isTrue here =>
      cases found
      simp [position, here]
    case isFalse =>
      obtain ⟨rest, later, rfl⟩ := Option.map_eq_some_iff.mp found
      obtain ⟨length, positions⟩ := replacePosition_some position later
      exact ⟨by simp [length], by simp [List.filterMap_cons, positions]⟩

theorem replacePosition_none {c : CarId} {r : Report} : ∀ {l : List Report}, replacePosition c r l = none →
    c ∉ l.filterMap Report.positionOf
  | [], _ => by simp
  | x :: xs, missing => by
    unfold replacePosition at missing
    split at missing
    case isTrue => cases missing
    case isFalse other =>
      have rest := replacePosition_none (Option.map_eq_none_iff.mp missing)
      rw [List.filterMap_cons]
      split
      · exact rest
      · rename_i d found
        rw [List.mem_cons]
        rintro (rfl | later)
        · exact other found
        · exact rest later

theorem dropOldestPosition_some : ∀ {l l' : List Report}, dropOldestPosition l = some l' →
    l.length = l'.length + 1 ∧ l'.Sublist l
  | [], _, found => by cases found
  | x :: xs, l', found => by
    unfold dropOldestPosition at found
    split at found
    case isTrue =>
      cases found
      exact ⟨rfl, List.sublist_cons_self _ _⟩
    case isFalse =>
      obtain ⟨rest, later, rfl⟩ := Option.map_eq_some_iff.mp found
      obtain ⟨length, sub⟩ := dropOldestPosition_some later
      exact ⟨by simp [length], sub.cons_cons x⟩

/-- A report queue within its room, with one CAR-POSITION report per car. -/
def Bounded (l : List Report) : Prop := l.length ≤ 64 ∧ (l.filterMap Report.positionOf).Nodup

theorem bounded_append_report {l : List Report} (h : Bounded l) (room : l.length < 64) {r : Report}
    (fresh : ∀ c, r.positionOf = some c → c ∉ l.filterMap Report.positionOf) : Bounded (l ++ [r]) := by
  refine ⟨by rw [List.length_append, List.length_singleton]; omega, ?_⟩
  rw [List.filterMap_append]
  refine h.2.append ?_ ?_
  · rw [List.filterMap_cons, List.filterMap_nil]
    split
    · exact List.nodup_nil
    · exact List.nodup_singleton _
  · intro c mem also
    cases position : r.positionOf with
    | none => simp [position] at also
    | some d =>
      obtain rfl : c = d := by simpa [position] using also
      exact fresh c position mem

theorem bounded_append {p : Port} (h : Bounded p.reports) {r : Report}
    (fresh : ∀ c, r.positionOf = some c → c ∉ p.reports.filterMap Report.positionOf) : Bounded (p.append r).reports := by
  unfold Port.append
  split
  case isTrue room => exact bounded_append_report h room fresh
  case isFalse =>
    split
    case h_1 rest dropped =>
      obtain ⟨length, sub⟩ := dropOldestPosition_some dropped
      have within := h.1
      exact bounded_append_report ⟨by omega, h.2.sublist (sub.filterMap _)⟩ (by omega)
        (fun c position mem => fresh c position ((sub.filterMap _).subset mem))
    case h_2 => exact h

/-- A report placed keeps the queue within its room: a CAR-POSITION report takes the place of the one that stands (R173). -/
theorem bounded_place {p : Port} (h : Bounded p.reports) (r : Report) : Bounded (p.place r).reports := by
  unfold Port.place
  split
  case h_1 c position =>
    split
    case h_1 reports found =>
      obtain ⟨length, positions⟩ := replacePosition_some position found
      exact ⟨by rw [length]; exact h.1, by rw [positions]; exact h.2⟩
    case h_2 missing =>
      refine bounded_append h (fun d same => ?_)
      obtain rfl : c = d := Option.some.inj (position.symm.trans same)
      exact replacePosition_none missing
  case h_2 none => exact bounded_append h (fun c some => by rw [none] at some; cases some)

theorem bounded_transmit {p : Port} (h : Bounded p.reports) : Bounded p.transmit.reports := by
  unfold Port.transmit
  split
  · exact h
  · rename_i r rest _ reports
    rw [reports] at h
    have sub : rest.Sublist (r :: rest) := List.sublist_cons_self r rest
    exact ⟨Nat.le_trans sub.length_le h.1, h.2.sublist (sub.filterMap _)⟩
  · exact h

theorem closed_reports : Closed (fun s => Bounded s.port.reports) where
  car _ h := h
  carsAll _ h := h
  link h := h
  hist h := h
  plan h := h
  ret h := h
  svc _ h := h
  inds h := h
  report h := bounded_place h _
  add _ h := h
  change _ _ h := h
  remove h := h
  cleared h := h
  flags _ _ _ _ h := h

theorem tuned_reports : Tuned (fun s => Bounded s.port.reports) where
  toInner := inner_of_closed closed_reports (fun h => h) (fun h => h) (fun h => h) (fun h => h) (fun h => h)
    (fun same _ h => by rw [State.setPort_port, same]; exact h)
  setup _ h := h
  indicators h := h
  cars h := h
  lines h := h
  tune _ _ h := h
  hand {w _ _} h := by
    unfold handCapacity
    split
    · exact h
    · exact closed_handSheds closed_reports (closed_settleAccount (w := w) closed_reports h)

theorem bounded_nil : Bounded [] := ⟨by simp, by simp⟩

theorem framed_reports : Framed (fun s => Bounded s.port.reports) :=
  ⟨fun h => h, fun _ h => h, fun h => bounded_transmit h, fun _ => bounded_nil⟩

/-! ## The reply path (R168) -/

theorem plant_repliesBounded : Tuned RepliesBounded where
  toInner := inner_of_closed
    { car := fun _ h => h, carsAll := fun _ h => h, link := fun h => h, hist := fun h => h, plan := fun h => h
      ret := fun h => h, svc := fun _ h => h, inds := fun h => h
      report := fun {s r} h => by
        unfold RepliesBounded
        rw [show (queueReport s r).port.replies = s.port.replies from (Port.place_cases s.port r).2.2.2.1]
        exact h
      add := fun _ h => h, change := fun _ _ h => h, remove := fun h => h, cleared := fun h => h, flags := fun _ _ _ _ h => h }
    (fun h => h) (fun h => h) (fun h => h) (fun h => h) (fun h => h)
    (fun _ same h => by unfold RepliesBounded; rw [State.setPort_port, same]; exact h)
  setup _ h := h
  indicators h := h
  cars h := h
  lines h := h
  tune _ _ h := h
  hand {w c sink} h := by
    have same : (handCapacity w c sink).st.port.replies = w.st.port.replies := (plant_replies w.st.port.replies).hand rfl
    unfold RepliesBounded
    rw [same]
    exact h

theorem framed_replies : Framed RepliesBounded where
  frame h := h
  answer {kind tag t} room _ := by
    unfold RepliesBounded answer
    rw [State.setPort_port, List.length_append, List.length_singleton]
    omega
  transmit {s} h := by
    unfold RepliesBounded at *
    rw [State.setPort_port]
    unfold Port.transmit
    split
    · rename_i r rest replies
      rw [replies] at h
      exact Nat.le_of_succ_le h
    · rename_i replies _
      exact h
    · exact h
  restart _ := Nat.zero_le 8

/-- Settles O57: a report is placed only within the room of its queue, and a reply only while fewer than 8 wait. -/
theorem queuesBoundedKept : Obligations.QueuesBoundedKept := by
  intro s t reports replies runs
  refine ⟨?_, ?_⟩
  · exact tuned_step tuned_reports framed_reports (fun _ _ _ _ _ => bounded_nil) (fun h => h) (fun h => h) runs reports
  · exact tuned_step plant_repliesBounded framed_replies (fun _ _ _ _ _ => Nat.zero_le 8) (fun h => h) (fun h => h) runs replies

/-! ## Requests that are not taken -/

/-- Every request is a frame taken by a rule. -/
theorem exec_request {c : Instr} (request : IsRequest c) (s : State) :
    ∃ kind tag rule, exec c s = .next (takeFrame s kind tag rule) := by
  cases c with
  | unknownKind kind tag body =>
    have unknown : ¬ requestCodes.contains kind = true := by simpa [IsRequest] using request
    exact ⟨kind, tag, fun s1 => refuse s1 .unknownKind, if_neg unknown⟩
  | powerOnReset | externalReset | supplyDip | saveEnd | lineSample | settleExpiry | carReply | carReplyInvalid
  | missedExchange | silentHoldExpiry | startWindowExpiry | historySample | deadlineExpiry | spacingExpiry | restoreTimeout
  | frameGapTimeout | frameDiscarded | transmitEnd | restartTaken | transmitStart => exact request.elim
  | _ => exact ⟨_, _, _, rfl⟩

/-- Settles O4: a request is a frame, and a frame is not taken after an accepted RESTART or without room for its reply. -/
theorem requestsNotTaken : Obligations.RequestsNotTaken := by
  intro c s request
  obtain ⟨kind, tag, rule, runs⟩ := exec_request request s
  rw [runs]
  rcases takeFrame_cases s kind tag rule with ⟨awaited, stands⟩ | ⟨none, full, overrun⟩ | ⟨none, room, _⟩
  · refine ⟨fun _ => congrArg _ stands, fun none => ?_⟩
    rw [none] at awaited
    cases awaited
  · exact ⟨fun some => absurd none some, fun _ _ => congrArg _ overrun⟩
  · exact ⟨fun some => absurd none some, fun _ full => by omega⟩

end Sys2Proof.Proofs.Upkeep
end
section
/-! PROOFS. C and S against the plant (R24, R26), the indication lines (R178), and the links (R54, R65, R71, R72) through every
step. -/
namespace Sys2Proof.Proofs.Upkeep
open Sys2Proof.Machine Sys2Proof.Safety Sys2Proof.Proofs.Account Sys2Proof.Proofs.IndicationLines

/-! ## What a command re-establishes at its end -/

/-- A property that the end of an event establishes, and that no piece of a command without one disturbs. -/
structure Outer (P : State → Prop) : Prop where
  complete : ∀ w renew, P (completeWith w renew)
  drive : ∀ {s x : State}, P s → x.link.a = s.link.a → x.link.b = s.link.b → x.plan.state = s.plan.state →
    (x.setup.profiles = s.setup.profiles ∨ s.plan.state = .halted) → P (driveLines x)
  port : ∀ {s : State} {x : Port}, x.dipFlag = s.port.dipFlag → P s → P (s.setPort x)
  hist : ∀ {s : State} {x}, P s → P (s.setHist x)
  counts : ∀ {s : State}, P s → P (clearCounts s)

section
variable {P : State → Prop} (O : Outer P)
include O

theorem outer_report {s : State} {r : Report} (h : P s) : P (queueReport s r) :=
  O.port (Port.place_cases s.port r).2.2.2.2.2 h

theorem outer_takeSample {s : State} (h : P s) : P (takeSample s) := by
  unfold takeSample
  split
  · dsimp only
    split
    · exact outer_report O (O.hist h)
    · exact O.hist h
  · exact O.hist h

theorem outer_startSampling {s : State} (h : P s) : P (startSampling s) := by
  unfold startSampling
  split
  · exact h
  · exact O.hist (outer_takeSample O h)

theorem outer_takeFrame {s : State} {kind tag : Byte} {rule : State → Taken} (keeps : ∀ {x : State}, P x → P (rule x).st)
    (h : P s) : P (takeFrame s kind tag rule) := by
  have hunting : P (setFramer s .hunting) := O.port rfl h
  rcases takeFrame_cases s kind tag rule with ⟨_, stands⟩ | ⟨_, _, overrun⟩ | ⟨_, _, answered⟩
  · rw [stands]; exact h
  · rw [overrun]; exact hunting
  · rw [answered]; exact O.port rfl (keeps hunting)

theorem outer_bare {s : State} {kind : ReqKind} {tag : Byte} {body : List Byte} {rule : State → Taken}
    (keeps : ∀ {x : State}, P x → P (rule x).st) (h : P s) : P (takeRequest s kind tag (bare body rule)) := by
  refine outer_takeFrame O (fun {x} hx => ?_) h
  unfold bare
  split
  · exact keeps hx
  · exact hx

theorem outer_withBody {α : Type} {s : State} {kind : ReqKind} {tag : Byte} {body : Body α} {rule : α → State → Taken}
    (keeps : ∀ (a : α) {x : State}, P x → P (rule a x).st) (h : P s) : P (takeRequest s kind tag (withBody body rule)) := by
  refine outer_takeFrame O (fun {x} hx => ?_) h
  cases body with
  | fields a => exact keeps a hx
  | badLength => exact hx

theorem outer_receiveReply {s : State} {k : Link} {r : CarReply} (h : P s) : P (receiveReply s k r) := by
  unfold receiveReply
  split
  · split
    · unfold takeReply
      split
      · exact O.complete _ _
      · exact h
    · exact h
  · exact h

theorem outer_transmit {s : State} (h : P s) : P (s.setPort s.port.transmit) := by
  refine O.port ?_ h
  unfold Port.transmit
  split <;> rfl

/-- Every command keeps such a property. -/
theorem outer_exec {c : Instr} {s t : State} (runs : exec c s = .next t) (h : P s) : P t := by
  cases c with
  | powerOnReset | externalReset => cases runs; exact O.complete _ _
  | supplyDip =>
    simp only [exec, execSupplyDip] at runs
    split at runs
    · cases runs; exact O.drive h rfl rfl rfl (Or.inl rfl)
    · cases runs; exact O.drive h rfl rfl rfl (Or.inl rfl)
  | saveEnd =>
    simp only [exec, execSaveEnd] at runs
    repeat' split at runs
    · cases runs; exact O.drive h rfl rfl rfl (Or.inl rfl)
    · cases runs; exact O.drive h rfl rfl rfl (Or.inl rfl)
    · cases runs; exact h
  | lineSample => simp only [exec, execLineSample] at runs
                  split at runs
                  · cases runs; exact O.complete _ _
                  · cases runs; exact h
  | settleExpiry => simp only [exec, execSettleExpiry] at runs
                    split at runs
                    · cases runs; exact O.complete _ _
                    · cases runs; exact h
  | carReply => cases runs; exact outer_receiveReply O h
  | carReplyInvalid => cases runs; exact outer_receiveReply O h
  | missedExchange =>
    cases runs
    unfold missExchange
    split
    · exact O.complete _ _
    · exact h
  | silentHoldExpiry => simp only [exec, execSilentHoldExpiry] at runs
                        split at runs
                        · cases runs; exact O.complete _ _
                        · cases runs; exact h
  | startWindowExpiry => simp only [exec, execStartWindowExpiry] at runs
                         split at runs
                         · cases runs; exact O.complete _ _
                         · cases runs; exact h
  | historySample => simp only [exec, execHistorySample] at runs
                     split at runs
                     · cases runs; exact O.hist (outer_takeSample O h)
                     · cases runs; exact h
  | deadlineExpiry => simp only [exec, execDeadlineExpiry] at runs
                      split at runs
                      · cases runs; exact O.complete _ _
                      · cases runs; exact h
  | spacingExpiry => simp only [exec, execSpacingExpiry] at runs
                     split at runs
                     · cases runs; exact O.complete _ _
                     · cases runs; exact h
  | restoreTimeout => simp only [exec, execRestoreTimeout] at runs
                      split at runs
                      · cases runs; exact O.complete _ _
                      · cases runs; exact h
  | frameGapTimeout => simp only [exec, execFrameGapTimeout] at runs
                       split at runs
                       · cases runs; exact O.port rfl h
                       · cases runs; exact h
  | frameDiscarded => simp only [exec, execFrameDiscarded] at runs
                      repeat' split at runs
                      · cases runs; exact h
                      · cases runs; exact O.port rfl h
                      · cases runs; exact h
  | unknownKind => simp only [exec, execUnknownKind] at runs
                   split at runs
                   · cases runs; exact h
                   · cases runs; exact outer_takeFrame O (fun kept => kept) h
  | transmitEnd => simp only [exec, execTransmitEnd] at runs
                   repeat' split at runs
                   · cases runs; exact O.complete _ _
                   · cases runs; exact outer_transmit O h
                   · cases runs; exact h
  | restartTaken => simp only [exec, execRestartTaken] at runs
                    split at runs
                    · cases runs; exact O.complete _ _
                    · cases runs; exact h
  | transmitStart => simp only [exec, execTransmitStart] at runs
                     split at runs
                     · cases runs; exact h
                     · cases runs; exact outer_transmit O h
  | identify | queryPlan => cases runs; exact outer_bare O (fun kept => kept) h
  | setLimits =>
    cases runs
    refine outer_withBody O (fun f x kept => kept_inHalted (fun _ => ?_) kept) h
    split
    · exact O.complete _ _
    · exact kept
  | setCar =>
    cases runs
    refine outer_withBody O (fun f x kept => ?_) h
    unfold ruleSetCar
    split
    · refine kept_inHalted (fun halted => ?_) kept
      split
      · exact O.drive kept rfl rfl rfl (Or.inr halted)
      · exact kept
    · exact kept
  | dropCar =>
    cases runs
    refine outer_withBody O (fun f x kept => kept_inHalted (fun halted => ?_) kept) h
    repeat' split
    · exact kept
    · exact O.drive kept rfl rfl rfl (Or.inr halted)
    · exact kept
  | setGenset =>
    cases runs
    refine outer_withBody O (fun f x kept => kept_inHalted (fun _ => ?_) kept) h
    split
    · exact O.complete _ _
    · exact kept
  | setLine =>
    cases runs
    refine outer_withBody O (fun f x kept => kept_inHalted (fun _ => ?_) kept) h
    split
    · exact O.complete _ _
    · exact kept
  | setIndicatorFull =>
    cases runs
    refine outer_withBody O (fun part x kept => ?_) h
    cases part with
    | full =>
      refine kept_inHalted (fun _ => ?_) kept
      split
      · exact O.drive kept rfl rfl rfl (Or.inl rfl)
      · exact kept
    | unlisted => exact kept
  | setIndicatorValue =>
    cases runs
    refine outer_withBody O (fun f x kept => ?_) h
    unfold ruleIndicatorValue
    split
    · exact O.drive kept rfl rfl rfl (Or.inl rfl)
    · exact kept
  | arm =>
    cases runs
    refine outer_bare O (fun kept => kept_inHalted (fun _ => ?_) kept) h
    split
    · exact kept
    · exact O.complete _ _
  | halt =>
    cases runs
    refine outer_bare O (fun {x} kept => ?_) h
    unfold ruleHalt
    split
    · exact O.complete _ _
    · exact kept
  | savePlan =>
    cases runs
    refine outer_takeFrame O (fun {x} kept => ?_) h
    unfold ruleSavePlan
    split
    · refine kept_inHalted (fun _ => ?_) kept
      split
      · exact O.drive kept rfl rfl rfl (Or.inl rfl)
      · exact kept
    · exact kept
  | restart =>
    cases runs
    refine outer_bare O (fun {x} kept => ?_) h
    unfold ruleRestart
    split
    · exact kept
    · exact O.port rfl kept
  | trimSet =>
    cases runs
    refine outer_withBody O (fun f x kept => ?_) h
    unfold ruleTrimSet
    split
    · exact O.complete _ _
    · exact kept
  | setServiceCount =>
    cases runs
    refine outer_withBody O (fun f x kept => ?_) h
    unfold ruleServiceCount
    repeat' split
    · exact O.complete _ _
    · exact kept
    · exact kept
  | holdOut | readmit =>
    cases runs
    exact outer_withBody O (fun n _ kept => kept_ofCar (fun _ => O.complete _ _) kept) h
  | releaseGroup =>
    cases runs
    refine outer_takeFrame O (fun {x} kept => ?_) h
    unfold ruleReleaseGroup
    repeat' split
    all_goals first | exact kept | exact O.complete _ _
  | lineReport =>
    cases runs
    refine outer_withBody O (fun f x kept => ?_) h
    unfold ruleLineReport
    repeat' split
    all_goals first | exact kept | exact O.complete _ _
  | capture =>
    cases runs
    refine outer_bare O (fun {x} kept => ?_) h
    unfold ruleCapture offerTrigger
    repeat' split
    all_goals first | exact kept | exact O.hist kept
  | captureRelease =>
    cases runs
    refine outer_bare O (fun {x} kept => ?_) h
    change P (releaseCapture x)
    unfold releaseCapture
    dsimp only
    split
    · exact outer_startSampling O (O.hist kept)
    · exact O.hist kept
  | queryCar =>
    cases runs
    refine outer_withBody O (fun n x kept => ?_) h
    unfold ruleQueryCar
    split <;> exact kept
  | queryAccountSummary =>
    cases runs
    refine outer_withBody O (fun part x kept => ?_) h
    cases part <;> exact kept
  | queryAccountEntries =>
    cases runs
    refine outer_withBody O (fun n x kept => ?_) h
    unfold ruleEntries
    split <;> exact kept
  | queryQueue =>
    cases runs
    refine outer_withBody O (fun n x kept => ?_) h
    unfold ruleQueryQueue
    split <;> exact kept
  | queryLines => cases runs; exact outer_bare O O.counts h
  | readHistory => cases runs; exact outer_withBody O (fun _ _ => kept_ruleReadHistory) h
  | ackFlags =>
    cases runs
    exact outer_bare O (fun kept => O.drive kept rfl rfl rfl (Or.inl rfl)) h

end

/-! ## The indication lines (R178) -/

theorem linesDriven_of_same {s t : State} (h : LinesDriven s) (setup : t.setup = s.setup) (inds : t.inds = s.inds)
    (sources : sourceTrue t = sourceTrue s) : LinesDriven t := by
  unfold LinesDriven LineDriven at *
  rw [setup, inds, sources]
  exact h

theorem outer_linesDriven : Outer LinesDriven where
  complete _ _ := linesDriven_driveLines _
  drive _ _ _ _ _ := linesDriven_driveLines _
  port {s x} dip h := linesDriven_of_same h rfl rfl (by
    funext src
    cases src with
    | supplyDip => exact congrArg (· = true) dip
    | _ => rfl)
  hist h := linesDriven_of_same h rfl rfl (by funext src; cases src <;> rfl)
  counts {s} h := linesDriven_of_same h rfl rfl (by
    funext src
    cases src with
    | prealarm => simp [sourceTrue, effective, effectiveOf, clearCounts]
    | _ => rfl)

/-! ## The links busy (R54, R65) -/

theorem eldest_isSome (s : State) (age : CarId → Nat) : ∀ {cars : List CarId}, cars ≠ [] → (eldest s age cars).isSome
  | [], nonempty => absurd rfl nonempty
  | c :: rest, _ => by
    unfold eldest
    split
    · rfl
    · split <;> rfl

theorem choose_isSome {s : State} {k : Link} (cars : linkCars s k ≠ []) : (choose s k).isSome := by
  have other : (otherChoice s k).isSome := by
    unfold otherChoice
    split
    · rfl
    · split
      · rfl
      · exact eldest_isSome s _ cars
  unfold choose
  dsimp only
  split
  · rfl
  · rw [Option.isSome_map]; exact other

theorem linkLine_setLinkLine (s : State) (k : Link) (l : LinkLine) : linkLine (setLinkLine s k l) k = l := by cases k <;> rfl

theorem linkLine_setLinkLine_other {s : State} {k j : Link} (other : j ≠ k) (l : LinkLine) :
    linkLine (setLinkLine s k l) j = linkLine s j := by
  cases k <;> cases j <;> first | rfl | exact absurd rfl other

@[simp] theorem linkLine_alterLink (s : State) (c : CarId) (f : CarLink → CarLink) (k : Link) :
    linkLine (alterLink s c f) k = linkLine s k := by cases k <;> rfl

theorem beginExchange_busy (s : State) (k : Link) (x : Choice) : (linkLine (beginExchange s k x) k).exchange.isSome := by
  unfold beginExchange
  dsimp only
  split <;> rw [linkLine_setLinkLine] <;> rfl

theorem linkLine_beginExchange_other {s : State} {k j : Link} (other : j ≠ k) (x : Choice) :
    linkLine (beginExchange s k x) j = linkLine s j := by
  unfold beginExchange
  dsimp only
  split
  · rw [linkLine_setLinkLine_other other, linkLine_alterLink]
  · rw [linkLine_setLinkLine_other other]

theorem linkLine_arbitrate_other {s : State} {k j : Link} (other : j ≠ k) : linkLine (arbitrate s k) j = linkLine s j := by
  unfold arbitrate
  split
  · split
    · exact linkLine_beginExchange_other other _
    · rfl
  · rfl

/-- A driven link with an enrolled car carries an exchange once its arbiter has run. -/
theorem arbitrate_busy {s : State} {k : Link} (drives : s.plan.state ≠ .halted) (cars : linkCars s k ≠ []) :
    (linkLine (arbitrate s k) k).exchange.isSome := by
  unfold arbitrate
  split
  case isTrue =>
    split
    · exact beginExchange_busy s k _
    · rename_i none
      have some := choose_isSome cars
      rw [none] at some
      cases some
  case isFalse busy =>
    cases exchange : (linkLine s k).exchange with
    | some x => rfl
    | none => simp [driven, drives, exchange] at busy

theorem arbitrate_setup (s : State) (k : Link) : (arbitrate s k).setup = s.setup :=
  congrArg Fixed.setup (closed_arbitrate (closed_fixed s.fixed) rfl)

theorem arbitrate_plan_state (s : State) (k : Link) : (arbitrate s k).plan.state = s.plan.state :=
  kept_arbitrate (kept_planState s.plan.state) rfl

theorem mem_linkCars {s : State} {k : Link} {c : CarId} :
    c ∈ linkCars s k ↔ (profile s c).enrolled = true ∧ (profile s c).link = k := by
  simp [linkCars, enrolledCars, enrolled, and_comm]

theorem linkCars_of_setup {s t : State} (same : t.setup = s.setup) (k : Link) : linkCars t k = linkCars s k := by
  unfold linkCars enrolledCars enrolled profile
  rw [same]

theorem linksBusy_arbiters (s : State) : LinksBusy (arbiters s) := by
  intro drives c enrolled
  have same : (arbiters s).setup = s.setup := (arbitrate_setup _ _).trans (arbitrate_setup _ _)
  have drives_s : s.plan.state ≠ .halted := by
    rwa [show (arbiters s).plan.state = s.plan.state from (arbitrate_plan_state _ _).trans (arbitrate_plan_state _ _)] at drives
  have here : c ∈ linkCars s (profile (arbiters s) c).link := by
    rw [← linkCars_of_setup same]
    exact mem_linkCars.mpr ⟨enrolled, rfl⟩
  have cars := List.ne_nil_of_mem here
  generalize (profile (arbiters s) c).link = k at cars ⊢
  unfold arbiters
  cases k with
  | a =>
    rw [linkLine_arbitrate_other (by decide)]
    exact arbitrate_busy drives_s cars
  | b =>
    refine arbitrate_busy ?_ ?_
    · rw [arbitrate_plan_state]; exact drives_s
    · rw [linkCars_of_setup (arbitrate_setup s .a)]; exact cars

theorem linksBusy_of_same {s t : State} (h : LinksBusy s) (a : t.link.a = s.link.a) (b : t.link.b = s.link.b)
    (plan : t.plan.state = s.plan.state) (profiles : t.setup.profiles = s.setup.profiles ∨ s.plan.state = .halted) :
    LinksBusy t := by
  intro drives c enrolled
  rw [plan] at drives
  rcases profiles with same | halted
  · have line : ∀ k, linkLine t k = linkLine s k := fun k => by cases k <;> assumption
    have profiles : profile t c = profile s c := congrArg (fun p => p.at c) same
    rw [line, profiles]
    exact h drives c (profiles ▸ enrolled)
  · exact absurd halted drives

theorem outer_linksBusy : Outer LinksBusy where
  complete _ _ := linksBusy_arbiters _
  drive h a b plan profiles := linksBusy_of_same h a b plan profiles
  port _ h := h
  hist h := h
  counts h := h

/-! ## The links quiet in HALTED (R71, R72) -/

theorem linksQuiet_of_same {s t : State} (h : LinksQuiet s) (link : t.link = s.link) (plan : t.plan = s.plan) : LinksQuiet t := by
  unfold LinksQuiet at *
  rw [link, plan]
  exact h

theorem linksQuiet_settleAccount {w : Work} (h : LinksQuiet w.st) (eased : Bool) : LinksQuiet (settleAccount w eased).st :=
  linksQuiet_of_same h (settleAccount_link w eased) (settleAccount_plan w eased)

theorem offerTrigger_link (s : State) (t : Trigger) : (offerTrigger s t).link = s.link := by
  unfold offerTrigger
  split <;> rfl

theorem takeSample_link (s : State) : (takeSample s).link = s.link := by
  unfold takeSample
  split
  · dsimp only
    split <;> rfl
  · rfl

theorem startSampling_link (s : State) : (startSampling s).link = s.link := by
  unfold startSampling
  split
  · rfl
  · exact takeSample_link s

theorem releaseCapture_link (s : State) : (releaseCapture s).link = s.link := by
  unfold releaseCapture
  dsimp only
  split
  · rw [startSampling_link]; rfl
  · rfl

theorem kept_linksQuiet : Kept LinksQuiet where
  car h := h
  carsAll h := h
  link still h halted := still halted (h halted)
  trigger h := linksQuiet_of_same h (offerTrigger_link _ _) (offerTrigger_plan _ _)
  startSampling h := linksQuiet_of_same h (startSampling_link _) (startSampling_plan _)
  stopSampling h := h
  plan state h halted := h (state ▸ halted)
  ret _ h := h
  svc h := h
  report h := h
  mark _ h := h
  enter {w e _} _ _ h := linksQuiet_settleAccount (w := w.up (fun s => s.setAcct (s.acct.add e))) h _
  change {w c f _} _ h := linksQuiet_settleAccount (w := w.up (fun s => s.setAcct (s.acct.change c f))) h _
  remove {w c _} h := linksQuiet_settleAccount (w := w.up (fun s => s.setAcct (s.acct.remove c))) h _
  clear {w} h := linksQuiet_settleAccount (w := w.up (fun s => s.setAcct s.acct.cleared)) h _

theorem tuned_linksQuiet : Tuned LinksQuiet where
  toKept := kept_linksQuiet
  inds h := h
  port _ _ h := h
  store h := h
  counts h := h
  resample {s} _ h := linksQuiet_of_same h (takeSample_link s) (takeSample_plan s)
  releaseCapture h := linksQuiet_of_same h (releaseCapture_link _) (releaseCapture_plan _)
  moves driven _ halted := absurd ((transition_plan_state _ _ _).symm.trans halted) driven
  halt _ _ := by
    rw [transition_eq]
    exact kept_reportChanged kept_linksQuiet (s := (enterHalted _).st) (fun _ => ⟨rfl, rfl, fun c => by simp [enterHalted, undriveLinks, stopSampling]⟩)
  links := Or.inr (fun {s k} h carries halted => by
    obtain ⟨a, b, _⟩ := h halted
    cases k
    · simp [linkLine, a] at carries
    · simp [linkLine, b] at carries)
  setup _ h := h
  indicators h := h
  cars h := h
  lines h := h
  tune _ _ h := h
  hand {w _ _} h := by
    unfold handCapacity
    split
    · exact h
    · exact kept_handSheds kept_linksQuiet (linksQuiet_settleAccount (w := w) h _)

theorem linksStill_fresh : LinksStill LinkCtl.fresh := ⟨rfl, rfl, fun c => by simp [LinkCtl.fresh, CarLink.fresh]⟩

/-- Settles O58: the arbiters run at the end of every event that could free a link, and entering HALTED leaves the links bare. -/
theorem linksKept : Obligations.LinksKept := by
  intro s t busy quiet runs
  refine ⟨?_, ?_⟩
  · unfold step at runs
    split at runs
    · cases runs; exact busy
    · exact outer_exec outer_linksBusy (s := s.setPending _) runs busy
  · exact tuned_step tuned_linksQuiet (framed_of_any (fun h => h) (fun _ _ => linksStill_fresh))
      (fun _ _ _ _ _ _ => linksStill_fresh) (fun h => h) (fun h => h) runs quiet

end Sys2Proof.Proofs.Upkeep
end
section
/-! PROOFS. C and S against the plant through every step (R24 to R26). -/
namespace Sys2Proof.Proofs.Upkeep
open Sys2Proof.Machine Sys2Proof.Safety Sys2Proof.Proofs.Account Sys2Proof.Proofs.IndicationLines

theorem Table.mem_toList_iff {α : Type} {n : Nat} (t : Table α n) (a : α) : a ∈ t.toList ↔ ∃ i, t.at i = a := by
  constructor
  · intro mem
    obtain ⟨i, hi, rfl⟩ := List.getElem_of_mem mem
    exact ⟨⟨i, by simpa using hi⟩, by simp [Table.at]⟩
  · rintro ⟨i, rfl⟩
    simp [Table.at]

theorem anyOnline_iff (s : State) : anyOnline s = true ↔ ∃ n, (s.cap.sets.at n).status = .online := by
  unfold anyOnline
  simp only [List.any_eq_true, beq_iff_eq, Table.mem_toList_iff]
  constructor
  · rintro ⟨_, ⟨n, rfl⟩, online⟩; exact ⟨n, online⟩
  · rintro ⟨n, online⟩; exact ⟨_, ⟨n, rfl⟩, online⟩

theorem contribution_eq (s : State) (n : SetId) : contribution s n = contributes s n := rfl

theorem contributions_eq (s : State) :
    contributions s = contributes s 0 + contributes s 1 + contributes s 2 + contributes s 3 := by
  change [contributes s 0, contributes s 1, contributes s 2, contributes s 3].sum = _
  simp only [List.sum_cons, List.sum_nil]
  omega

theorem derateNow_eq (s : State) : derateNow s = derateInForce s := by
  unfold derateNow derateInForce
  simp only [derated_iff]

theorem isActive_iff (s : State) (l : LineId) : isActive s l = true ↔ effective s l = .active := beq_iff_eq

theorem sinkOf_eq (s : State) : sinkOf s = sinkGiven s := by
  unfold sinkOf sinkGiven
  simp only [isActive_iff, anyOnline_iff]

/-- Recomputed, C and S are those the plant gives. -/
theorem capacityFollowsPlant_recompute (s : State) : CapacityFollowsPlant (recompute s) := by
  refine ⟨?_, ?_⟩
  · change capacityOf (contributions s) s.setup.limits.reserve (derateNow s) = capacityGiven s
    rw [contributions_eq, derateNow_eq]
    rfl
  · change sinkOf s = sinkGiven s
    exact sinkOf_eq s

/-- What C and S are formed from. -/
theorem capacityFollowsPlant_of_same {s t : State} (h : CapacityFollowsPlant s) (cap : t.cap = s.cap)
    (limits : t.setup.limits = s.setup.limits) (sets : t.setup.sets = s.setup.sets)
    (alarm : effective t alarmLine = effective s alarmLine) (bank : effective t bankLine = effective s bankLine) :
    CapacityFollowsPlant t := by
  unfold CapacityFollowsPlant capacityGiven sinkGiven contributes derateInForce at *
  rw [cap, limits, sets, alarm, bank]
  exact h

theorem closed_capacityFollowsPlant : Closed CapacityFollowsPlant where
  car _ h := h
  carsAll _ h := h
  link h := h
  hist h := h
  plan h := h
  ret h := h
  svc _ h := h
  inds h := h
  report h := h
  add _ h := h
  change _ _ h := h
  remove h := h
  cleared h := h
  flags _ _ _ _ h := h

theorem inner_capacityFollowsPlant : Inner CapacityFollowsPlant :=
  inner_of_closed closed_capacityFollowsPlant (fun h => h) (fun h => h) (fun h => h) (fun h => h)
    (fun {s} h => capacityFollowsPlant_of_same h rfl rfl rfl (by simp [effective, effectiveOf, clearCounts])
      (by simp [effective, effectiveOf, clearCounts]))
    (fun _ _ h => h)

/-! ## The plant's own changes -/

theorem capacityFollowsPlant_handCapacity {w : Work} (h : CapacityFollowsPlant w.st) (c sink : Nat) :
    CapacityFollowsPlant (handCapacity w c sink).st := by
  unfold handCapacity
  split
  · exact h
  · exact closed_handSheds closed_capacityFollowsPlant (closed_settleAccount (w := w) closed_capacityFollowsPlant h)

theorem capacityFollowsPlant_capacityEvent (w : Work) (f : State → State) : CapacityFollowsPlant (capacityEvent w f).st :=
  capacityFollowsPlant_handCapacity (w := w.up (fun s => recompute (f s))) (capacityFollowsPlant_recompute _) _ _

theorem capacityFollowsPlant_setInactive {w : Work} {n : SetId} (h : CapacityFollowsPlant w.st) :
    CapacityFollowsPlant (setInactive w n).st := by
  unfold setInactive
  split
  · exact h
  · exact capacityFollowsPlant_capacityEvent _ _
  · refine capacityFollowsPlant_handCapacity ?_ _ _
    split
    · exact closed_offerTrigger closed_capacityFollowsPlant (capacityFollowsPlant_recompute _)
    · exact capacityFollowsPlant_recompute _

/-- A line's new effective level handed on: LBNK and PREALM have C and S formed anew, and no other line's level enters them. -/
theorem capacityFollowsPlant_handLine {w : Work} {l : LineId} {level : Level}
    (h : l ≠ bankLine → l ≠ alarmLine → CapacityFollowsPlant w.st) : CapacityFollowsPlant (handLine w l level).st := by
  unfold handLine
  split
  case h_1 n of_set =>
    have apart : l ≠ bankLine ∧ l ≠ alarmLine := by
      refine ⟨?_, ?_⟩ <;> rintro rfl <;> exact absurd (of_set.symm.trans (by decide : _ = none)) (Option.some_ne_none n)
    split
    · unfold setActive
      split
      · exact capacityFollowsPlant_capacityEvent _ _
      · exact h apart.1 apart.2
    · exact capacityFollowsPlant_setInactive (h apart.1 apart.2)
  case h_2 =>
    split
    case isTrue => exact capacityFollowsPlant_capacityEvent _ _
    case isFalse other =>
      rw [not_or] at other
      exact h other.1 other.2

theorem effective_alterLine (s : State) (l m : LineId) (f : LineState → LineState) :
    effective (alterLine s l f) m = if m = l then effectiveOf (f (s.lines.at l)) else effective s m := by
  unfold effective alterLine
  rw [State.setLines_lines, Table.alter_at]
  split <;> rfl

theorem capacityFollowsPlant_alterLine_other {s : State} (h : CapacityFollowsPlant s) {l : LineId}
    (f : LineState → LineState) (bank : l ≠ bankLine) (alarm : l ≠ alarmLine) : CapacityFollowsPlant (alterLine s l f) :=
  capacityFollowsPlant_of_same h rfl rfl rfl (by rw [effective_alterLine, if_neg (Ne.symm alarm)])
    (by rw [effective_alterLine, if_neg (Ne.symm bank)])

/-- A change of a line that leaves its effective level. -/
theorem capacityFollowsPlant_alterLine {s : State} (h : CapacityFollowsPlant s) {l : LineId} {f : LineState → LineState}
    (level : effectiveOf (f (s.lines.at l)) = effective s l) : CapacityFollowsPlant (alterLine s l f) := by
  have same : ∀ m, effective (alterLine s l f) m = effective s m := fun m => by
    rw [effective_alterLine]
    split
    case isTrue here => rw [level, here]
    case isFalse => rfl
  exact capacityFollowsPlant_of_same h rfl rfl rfl (same _) (same _)

theorem capacityFollowsPlant_qualifiedChange {w : Work} {l : LineId} {level : Level} (h : CapacityFollowsPlant w.st) :
    CapacityFollowsPlant (qualifiedChange w l level).st := by
  unfold qualifiedChange
  dsimp only
  split
  case isTrue same => exact capacityFollowsPlant_alterLine h same.symm
  case isFalse => exact capacityFollowsPlant_handLine (fun bank alarm => capacityFollowsPlant_alterLine_other h _ bank alarm)

theorem capacityFollowsPlant_samplePin {w : Work} {l : LineId} {pin : PinLevel} (h : CapacityFollowsPlant w.st) :
    CapacityFollowsPlant (samplePin w l pin).st := by
  have raw : CapacityFollowsPlant (recordRaw w.st l pin) := capacityFollowsPlant_alterLine h rfl
  have offered : ∀ level, CapacityFollowsPlant (offerSample (w.up (fun s => recordRaw s l pin)) l level).st := fun level => by
    unfold offerSample
    dsimp only
    repeat' split
    · exact capacityFollowsPlant_alterLine raw rfl
    · exact capacityFollowsPlant_qualifiedChange raw
    · exact capacityFollowsPlant_alterLine raw rfl
    · exact capacityFollowsPlant_qualifiedChange raw
    · exact capacityFollowsPlant_alterLine raw rfl
  unfold samplePin
  dsimp only
  split
  · exact offered _
  · exact raw

theorem capacityFollowsPlant_applyItem {w : Work} {l : LineId} {level : Level} (h : CapacityFollowsPlant w.st) :
    CapacityFollowsPlant (applyItem w l level).st := by
  have stamped : CapacityFollowsPlant (alterLine w.st l (fun x => { x with lastReport := some w.st.time })) :=
    capacityFollowsPlant_alterLine h rfl
  unfold applyItem
  dsimp only
  split
  · exact stamped
  · exact moves_planRun inner_capacityFollowsPlant.moves (capacityFollowsPlant_qualifiedChange stamped)

theorem capacityFollowsPlant_applyItems {w : Work} (items : List (LineId × Level)) (h : CapacityFollowsPlant w.st) :
    CapacityFollowsPlant (applyItems w items).st :=
  closed_foldl (Q := fun v : Work => CapacityFollowsPlant v.st) (fun _ _ kept => by
    split
    · exact capacityFollowsPlant_applyItem kept
    · exact kept) h

theorem capacityFollowsPlant_changeLine {w : Work} {l : LineId} {x : LineSettings} (h : CapacityFollowsPlant w.st) :
    CapacityFollowsPlant (changeLine w l x).st := by
  have stored : CapacityFollowsPlant (storeLine w.st l x) := h
  unfold changeLine
  dsimp only
  split
  case isTrue =>
    split
    · exact stored
    · exact capacityFollowsPlant_alterLine stored rfl
  case isFalse =>
    split
    · exact capacityFollowsPlant_handLine (fun bank alarm => capacityFollowsPlant_alterLine_other stored _ bank alarm)
    · rename_i inactive
      refine capacityFollowsPlant_alterLine stored ?_
      change Level.inactive = effectiveOf (w.st.lines.at l)
      cases level : effectiveOf (w.st.lines.at l) with
      | active => exact absurd level inactive
      | inactive => rfl

/-- The Capacity Unit is left by a reset as its plant gives it: no set ONLINE and no line qualified. -/
theorem capacityFollowsPlant_afterReset (s : State) (kind : ResetKind) (image : StoredImage) (hist : History) (dip : Bool) :
    CapacityFollowsPlant (afterReset s kind image hist dip) := by
  have idle : ∀ n, contributes (afterReset s kind image hist dip) n = 0 := fun n => by
    simp [contributes, afterReset, Capacity.fresh]
  have unqualified : ∀ l, effective (afterReset s kind image hist dip) l = .inactive := fun l => by
    simp [effective, effectiveOf, afterReset, LineState.fresh]
  refine ⟨?_, ?_⟩
  · unfold capacityGiven
    rw [idle, idle, idle, idle]
    simp [afterReset, Capacity.fresh]
  · unfold sinkGiven
    rw [unqualified]
    simp [afterReset, Capacity.fresh]

theorem framed_capacityFollowsPlant : Framed CapacityFollowsPlant :=
  framed_of_any (fun h => h) (fun _ => capacityFollowsPlant_recompute _)

/-! ## The requests -/

theorem capacityFollowsPlant_takeFrame {s : State} {kind tag : Byte} {rule : State → Taken}
    (keeps : ∀ {x : State}, CapacityFollowsPlant x → CapacityFollowsPlant (rule x).st) (h : CapacityFollowsPlant s) :
    CapacityFollowsPlant (takeFrame s kind tag rule) := by
  rcases takeFrame_cases s kind tag rule with ⟨_, stands⟩ | ⟨_, _, overrun⟩ | ⟨_, _, answered⟩
  · rw [stands]; exact h
  · rw [overrun]; exact h
  · rw [answered]; exact keeps h

theorem capacityFollowsPlant_withBody {α : Type} {s : State} {kind : ReqKind} {tag : Byte} {body : Body α}
    {rule : α → State → Taken} (keeps : ∀ a {x : State}, CapacityFollowsPlant x → CapacityFollowsPlant (rule a x).st)
    (h : CapacityFollowsPlant s) : CapacityFollowsPlant (takeRequest s kind tag (withBody body rule)) := by
  refine capacityFollowsPlant_takeFrame (fun {x} hx => ?_) h
  cases body with
  | fields a => exact keeps a hx
  | badLength => exact hx

theorem capacityFollowsPlant_complete {w : Work} (h : CapacityFollowsPlant w.st) : CapacityFollowsPlant (complete w) :=
  inner_complete inner_capacityFollowsPlant h

theorem capacityFollowsPlant_movesPlant {c : Instr} {s t : State} (runs : exec c s = .next t) (h : CapacityFollowsPlant s)
    (plant : MovesPlant c) : CapacityFollowsPlant t := by
  cases c with
  | lineSample =>
    simp only [exec, execLineSample] at runs
    split at runs
    · cases runs; exact capacityFollowsPlant_complete (capacityFollowsPlant_samplePin h)
    · cases runs; exact h
  | settleExpiry =>
    simp only [exec, execSettleExpiry] at runs
    split at runs
    · cases runs
      exact capacityFollowsPlant_complete (w := settleEvent (begin s)) (capacityFollowsPlant_capacityEvent _ _)
    · cases runs; exact h
  | trimSet =>
    cases runs
    refine capacityFollowsPlant_withBody (fun f x kept => ?_) h
    unfold ruleTrimSet
    split
    · exact capacityFollowsPlant_complete (capacityFollowsPlant_capacityEvent _ _)
    · exact kept
  | lineReport =>
    cases runs
    refine capacityFollowsPlant_withBody (fun f x kept => ?_) h
    unfold ruleLineReport
    repeat' split
    · exact kept
    · exact kept
    · exact capacityFollowsPlant_complete (capacityFollowsPlant_applyItems _ kept)
    · exact kept
  | _ => exact plant.elim

theorem capacityFollowsPlant_writesSetup {c : Instr} {s t : State} (runs : exec c s = .next t) (h : CapacityFollowsPlant s)
    (writes : WritesSetup c) : CapacityFollowsPlant t := by
  cases c with
  | setLimits =>
    cases runs
    refine capacityFollowsPlant_withBody (fun f x kept => kept_inHalted (fun _ => ?_) kept) h
    split
    · exact capacityFollowsPlant_complete (capacityFollowsPlant_capacityEvent _ _)
    · exact kept
  | setCar =>
    cases runs
    refine capacityFollowsPlant_withBody (fun f x kept => ?_) h
    unfold ruleSetCar
    split
    · refine kept_inHalted (fun _ => ?_) kept
      split <;> exact kept
    · exact kept
  | dropCar =>
    cases runs
    refine capacityFollowsPlant_withBody (fun f x kept => kept_inHalted (fun _ => ?_) kept) h
    repeat' split
    all_goals exact kept
  | setGenset =>
    cases runs
    refine capacityFollowsPlant_withBody (fun f x kept => kept_inHalted (fun _ => ?_) kept) h
    split
    · exact capacityFollowsPlant_complete (capacityFollowsPlant_capacityEvent _ _)
    · exact kept
  | setLine =>
    cases runs
    refine capacityFollowsPlant_withBody (fun f x kept => kept_inHalted (fun _ => ?_) kept) h
    split
    · exact capacityFollowsPlant_complete (capacityFollowsPlant_changeLine (w := begin (markModified x)) kept)
    · exact kept
  | setIndicatorFull =>
    cases runs
    refine capacityFollowsPlant_withBody (fun part x kept => ?_) h
    cases part with
    | full =>
      refine kept_inHalted (fun _ => ?_) kept
      split <;> exact kept
    | unlisted => exact kept
  | setIndicatorValue =>
    cases runs
    refine capacityFollowsPlant_withBody (fun f x kept => ?_) h
    unfold ruleIndicatorValue
    split <;> exact kept
  | savePlan =>
    cases runs
    refine capacityFollowsPlant_takeFrame (fun {x} kept => ?_) h
    unfold ruleSavePlan
    split
    · refine kept_inHalted (fun _ => ?_) kept
      split <;> exact kept
    · exact kept
  | _ => exact writes.elim

/-- Settles O56: every change of the plant ends in a recomputation of C and S, and every change of a source in a drive of the
indication lines. -/
theorem capacityFollowsPlantKept : Obligations.CapacityFollowsPlantKept := by
  intro s t runs
  unfold step at runs
  split at runs
  case h_1 => cases runs; exact ⟨fun h => h, fun h => h⟩
  case h_2 c rest _ =>
    refine ⟨fun follows => ?_, fun driven => ?_⟩
    · exact inner_exec inner_capacityFollowsPlant framed_capacityFollowsPlant (s := s.setPending rest) runs follows
        (inner_reset inner_capacityFollowsPlant (capacityFollowsPlant_afterReset _) runs)
        (capacityFollowsPlant_movesPlant (s := s.setPending rest) runs follows)
        (capacityFollowsPlant_writesSetup (s := s.setPending rest) runs follows)
    · exact outer_exec outer_linesDriven (s := s.setPending rest) runs driven

end Sys2Proof.Proofs.Upkeep
end
section
/-! PROOFS. A step, the state after reset, admission, and the requests and events that reach no other block: SET-INDICATOR, CAPTURE,
CAPTURE-RELEASE and the history sample. -/

namespace Sys2Proof.Proofs.Upkeep

open Sys2Proof.Machine Sys2Proof.Safety Sys2Proof.Proofs.IndicationLines

/-! ## A step -/

theorem tick_time_toNat (s : State) : s.tick.time.toNat = (s.time.toNat + 1) % 4294967296 := by
  simp [State.tick, State.setTime, Time.plus, BitVec.toNat_add]

/-- Settles O1: by the two cases of the queue. -/
theorem stepRunsFrontCommand : Obligations.StepRunsFrontCommand := by
  constructor
  · intro c rest s waiting
    simp only [step, waiting]
  · intro s empty
    exact ⟨s.tick, by simp only [step, empty], tick_time_toNat s, rfl⟩

/-! ## The state after reset -/

theorem record_reset (c : CarId) : record State.reset c = none := by
  simp [record, State.reset, freshCars, Setup.empty, CarProfile.defaults]

theorem profile_reset (c : CarId) : (profile State.reset c).enrolled = false := by
  simp [profile, State.reset, Setup.empty, CarProfile.defaults]

theorem stateOf_reset (c : CarId) : stateOf State.reset c = none := by simp [stateOf, record_reset]

theorem capacityFollowsPlant_reset : CapacityFollowsPlant State.reset := by
  unfold CapacityFollowsPlant; decide +kernel

theorem linesDriven_reset : LinesDriven State.reset := by
  refine fun i => lineDriven_of_indLevel ?_
  revert i
  decide +kernel

/-- Settles O60: the table, the queue, the group and the reports are empty, the plan is HALTED and no car has a record. -/
theorem invariantsHoldAtReset : Obligations.InvariantsHoldAtReset :=
  ⟨⟨rfl, rfl⟩, List.nodup_nil, ⟨List.nodup_nil, nofun, by decide, by decide⟩,
    ⟨by simp [State.reset, Account.fresh, Capacity.fresh], by simp [State.reset, Account.fresh, Capacity.fresh]⟩,
    fun _ => ⟨rfl, rfl, rfl⟩, capacityFollowsPlant_reset, linesDriven_reset, ⟨Nat.zero_le _, List.nodup_nil⟩, Nat.zero_le _,
    fun out => absurd rfl out, fun _ => ⟨rfl, rfl, fun c => ⟨by simp [State.reset, LinkCtl.fresh, CarLink.fresh],
      by simp [State.reset, LinkCtl.fresh, CarLink.fresh]⟩⟩, fun _ => rfl,
    fun c => by rw [record_reset, profile_reset]; rfl,
    ⟨List.nodup_nil, fun c => by rw [stateOf_reset]; exact ⟨⟨nofun, nofun⟩, nofun, nofun⟩⟩,
    fun c => by rw [stateOf_reset]; rfl⟩

/-! ## Admission (R93) -/

theorem entryOf_isSome_iff (s : State) (c : CarId) : (entryOf s c).isSome = true ↔ ∃ e ∈ s.acct.entries, e.car = c := by
  simp [entryOf]

theorem settled_iff (s : State) : settled s = true ↔ s.cap.settle = none := by simp [settled]

theorem overcommitted_eq_false_iff (s : State) :
    overcommitted s = false ↔ s.acct.drawOver = false ∧ s.acct.regenOver = false := by simp [overcommitted]

/-- The tests of admission, as conditions on the account and the plant. -/
theorem admitRefusal_eq (s : State) (c : CarId) (draw regen : Nat) :
    admitRefusal s c draw regen =
      if ∃ e ∈ s.acct.entries, e.car = c then some .duplicate
      else if s.cap.settle ≠ none then some .unsettled
      else if s.acct.drawOver = true ∨ s.acct.regenOver = true then some .overcommit
      else if s.cap.c < s.acct.kd + draw then some .draw
      else if s.cap.sink < s.acct.kr + regen then some .regen
      else none := by
  simp only [admitRefusal, entryOf_isSome_iff, Bool.not_eq_true', ← Bool.not_eq_true, settled_iff, overcommitted,
    Bool.or_eq_true, ne_eq]

/-- Settles O32: by the five tests, taken in their order. -/
theorem admissionTests : Obligations.AdmissionTests := by
  intro s c draw regen
  have free_iff : (∀ e ∈ s.acct.entries, e.car ≠ c) ↔ ¬ ∃ e ∈ s.acct.entries, e.car = c := by simp
  have clear_iff (p : Prop) : s.acct.drawOver = false ∧ s.acct.regenOver = false ∧ p
      ↔ ¬ (s.acct.drawOver = true ∨ s.acct.regenOver = true) ∧ p := by simp [and_assoc]
  simp only [admitRefusal_eq, free_iff, clear_iff, ← Nat.not_lt]
  by_cases held : ∃ e ∈ s.acct.entries, e.car = c
  case pos => simp [held]
  by_cases unsettled : s.cap.settle = none
  case neg => simp [held, unsettled]
  by_cases exceeded : s.acct.drawOver = true ∨ s.acct.regenOver = true
  case pos => simp [held, unsettled, exceeded]
  by_cases draw_exceeds : s.cap.c < s.acct.kd + draw
  case pos => simp [held, unsettled, exceeded, draw_exceeds]
  by_cases regen_exceeds : s.cap.sink < s.acct.kr + regen
  case pos => simp [held, unsettled, exceeded, draw_exceeds, regen_exceeds]
  simp [held, unsettled, exceeded, draw_exceeds, regen_exceeds]

/-! ## An accepted frame and a timer that is due -/

/-- With room in the reply path and no RESTART accepted, a request is answered by its rule. -/
theorem exec_of_taking {s : State} {c : Instr} {kind : ReqKind} {tag : Byte} {rule : State → Taken} (h : Taking s)
    (runs : exec c s = .next (takeRequest s kind tag rule)) :
    exec c s = .next (answer (requestCode kind) tag (rule (setFramer s .hunting))) :=
  runs.trans (congrArg _ (PlantLines.takeRequest_of_taking h kind tag rule))

/-- A refusal answers with the result code alone and changes nothing else. -/
theorem answer_refuse (s : State) (kind : ReqKind) (tag : Byte) (code : ResultCode) :
    answer (requestCode kind) tag (refuse (setFramer s .hunting) code) = replied s kind tag code .nothing := rfl

theorem inHalted_of_writable {s : State} (h : Writable s) (rule : State → Taken) : inHalted s rule = rule s := by
  obtain ⟨halted, idle⟩ := h
  simp [inHalted, saving, halted, idle]

@[simp] theorem reached_iff (now expiry : Time) : reached now expiry = true ↔ Due now expiry := by
  unfold reached Due Time.since
  exact decide_eq_true_iff

theorem timerDue_of_due {now expiry : Time} (h : Due now expiry) : timerDue now (some expiry) = true := by
  simpa [timerDue] using h

theorem numbered_val {k : Nat} (i : Fin k) : numbered k (i.val + 1) = some i := by
  have bound : 1 ≤ i.val + 1 ∧ i.val + 1 ≤ k := ⟨by omega, i.isLt⟩
  simp [numbered, bound]

/-! ## SET-INDICATOR (R177) -/

/-- Settles O50: both parts store the settings, set the marker and drive the lines, and form the reply after. -/
theorem indicatorsWritten : Obligations.IndicatorsWritten := by
  intro s tag i taking
  constructor
  · intro src inv direct writable
    have rule : ruleIndicatorPart (.full ⟨i.val + 1, some src, some inv, some direct⟩) (setFramer s .hunting)
        = accept (driveLines (storeIndicator (setFramer s .hunting) i ⟨src, inv, direct⟩))
            (fun y => .indicator (indView y i)) := by
      simp only [ruleIndicatorPart, ruleIndicatorFull, inHalted_of_writable (s := setFramer s .hunting) writable,
        numbered_val, checkIndicator]
    refine ⟨_, exec_of_taking taking rfl, (linesDriven_answer_iff _ _ _).2 ?_, ?_⟩
    all_goals rw [withBody, rule]
    · exact linesDriven_driveLines _
    · simp only [accept, indView, driveLines, State.setInds_setup, storeIndicator, markModified, State.setStore_setup,
        State.setSetup_setup, Table.put_at_same]
      rfl
  · intro direct
    have rule : ruleIndicatorValue ⟨i.val + 1, some direct⟩ (setFramer s .hunting)
        = accept (driveLines (storeIndicator (setFramer s .hunting) i { s.setup.inds.at i with direct }))
            (fun y => .indicator (indView y i)) := by
      simp only [ruleIndicatorValue, numbered_val]; rfl
    refine ⟨_, _, exec_of_taking taking rfl, (linesDriven_answer_iff _ _ _).2 ?_, rfl, ?_⟩
    all_goals rw [withBody, rule]
    · exact linesDriven_driveLines _
    · simp only [accept, indView, driveLines, State.setInds_setup, storeIndicator, markModified, State.setStore_setup,
        State.setSetup_setup, Table.put_at_same]
      rfl

/-! ## CAPTURE and CAPTURE-RELEASE (R107, R109) -/

/-- The record that a trigger starts. -/
def startedCapture (s : State) (t : Trigger) : CaptureRecord :=
  ⟨.collecting, t, s.time, s.hist.writeIndex, s.setup.limits.pre, s.setup.limits.post, s.setup.limits.freeze,
    s.setup.limits.captureMode, 0, 0⟩

theorem offerTrigger_of_taken {s : State} {t : Trigger} (h : triggerTaken s t = true) :
    offerTrigger s t = s.setHist { s.hist with capture := some (startedCapture s t) } := by
  simp [offerTrigger, h, startedCapture]

theorem offerTrigger_of_not_taken {s : State} {t : Trigger} (h : triggerTaken s t = false) : offerTrigger s t = s := by
  simp [offerTrigger, h]

/-- The table of R107 by the capture state and mode. -/
theorem captureOpen_iff (x : Option CaptureRecord) :
    captureOpen x = true ↔ x = none ∨ ∃ r, x = some r ∧ r.mode = .repeated
      ∧ (r.state = .stale ∨ r.state = .complete ∧ r.freeze = false) := by
  cases x with
  | none => simp [captureOpen]
  | some r => cases state : r.state <;> simp [captureOpen, state]

theorem captureOpen_eq_false {r : CaptureRecord}
    (h : r.state = .collecting ∨ r.mode = .once ∨ r.state = .complete ∧ r.freeze = true) : captureOpen (some r) = false := by
  rw [← Bool.not_eq_true, captureOpen_iff]
  rintro (absent | ⟨x, same, mode, open_state⟩)
  · cases absent
  · cases same
    rcases h with state | once | ⟨state, freezes⟩
    · simp [state] at open_state
    · simp [mode] at once
    · simp [state, freezes] at open_state

theorem ruleCapture_of_enabled {s : State} (out : s.plan.state ≠ .halted) (enabled : s.setup.limits.onHost = true) :
    ruleCapture s = accept (offerTrigger s .host) (fun x => .capture ⟨triggerTaken s .host, x.hist.capture⟩) := by
  simp [ruleCapture, out, enabled]

theorem write_of_index {h : History} {i : Fin 512} (index : h.writeIndex = i.val) (x : Sample) :
    h.write x = { h with
      slots := h.slots.put i (some x), writeIndex := (i.val + 1) % 512, held := min 512 (h.held + 1) } := by
  simp [History.write, index, Config.ringSize]

/-- A sample taken with no capture record. -/
theorem takeSample_of_none {s : State} {i : Fin 512} (h : s.hist.capture = none) (index : s.hist.writeIndex = i.val) :
    takeSample s = s.setHist { s.hist with
      slots := s.hist.slots.put i (some (sampleOf s)), writeIndex := (i.val + 1) % 512, held := min 512 (s.hist.held + 1) } := by
  simp [takeSample, h, write_of_index index]

theorem releaseCapture_of_still {s : State}
    (h : s.plan.state = .halted ∨ ¬ ∃ r, s.hist.capture = some r ∧ r.state = .complete ∧ r.freeze = true) :
    releaseCapture s = s.setHist { s.hist with capture := none } := by
  unfold releaseCapture
  split
  case isFalse => rfl
  case isTrue still =>
    have halted : s.plan.state = .halted := h.resolve_right (not_not_intro ((frozen_iff _).1 still))
    simp [startSampling, halted]

theorem releaseCapture_of_frozen {s : State} {r : CaptureRecord} {i : Fin 512} (out : s.plan.state ≠ .halted)
    (record : s.hist.capture = some r) (complete : r.state = .complete) (freezes : r.freeze = true)
    (index : s.hist.writeIndex = i.val) :
    releaseCapture s = s.setHist ⟨s.hist.slots.put i (some (sampleOf s)), (i.val + 1) % 512, min 512 (s.hist.held + 1),
      some (after s s.setup.limits.samplePeriod), none⟩ := by
  have still : frozen s.hist = true := (frozen_iff _).2 ⟨r, record, complete, freezes⟩
  have written : takeSample (s.setHist { s.hist with capture := none })
      = s.setHist { s.hist with
          slots := s.hist.slots.put i (some (sampleOf s)), writeIndex := (i.val + 1) % 512, held := min 512 (s.hist.held + 1),
          capture := none } := takeSample_of_none (s := s.setHist { s.hist with capture := none }) rfl index
  have starts : startSampling (s.setHist { s.hist with capture := none })
      = rearmSampling (takeSample (s.setHist { s.hist with capture := none })) := by
    have melted : frozen { s.hist with capture := none } = false := rfl
    simp [startSampling, out, melted]
  rw [releaseCapture, if_pos still, starts, written]
  rfl

/-- Settles O41: CAPTURE by the table of R107, CAPTURE-RELEASE by whether the ring is frozen. -/
theorem captureCommands : Obligations.CaptureCommands := by
  intro s tag taking
  refine ⟨fun out enabled => ⟨fun opens => ?_, fun r record closed => ?_⟩, fun still => ?_, ?_⟩
  · have taken : triggerTaken (setFramer s .hunting) .host = true := by
      simpa [triggerTaken, triggerEnabled, setFramer, enabled] using (captureOpen_iff _).2 opens
    refine ⟨_, _, exec_of_taking taking rfl, rfl, ?_⟩
    rw [PlantLines.bare_nil, ruleCapture_of_enabled (s := setFramer s .hunting) out enabled, taken, offerTrigger_of_taken taken]
    rfl
  · have ignored : triggerTaken (setFramer s .hunting) .host = false := by
      simp [triggerTaken, setFramer, record, captureOpen_eq_false closed]
    rw [exec_of_taking taking rfl, PlantLines.bare_nil, ruleCapture_of_enabled (s := setFramer s .hunting) out enabled, ignored,
      offerTrigger_of_not_taken ignored]
    simp only [accept, setFramer, State.setPort_hist, record]
    rfl
  · refine ⟨_, exec_of_taking taking rfl, ?_⟩
    rw [PlantLines.bare_nil, ruleCaptureRelease, releaseCapture_of_still (s := setFramer s .hunting) still]
    rfl
  · intro r i out record complete freezes index
    refine ⟨_, sampleOf (setFramer s .hunting), exec_of_taking taking rfl, ?_, ?_, rfl, rfl, rfl⟩
    all_goals
      rw [PlantLines.bare_nil, ruleCaptureRelease,
        releaseCapture_of_frozen (s := setFramer s .hunting) out record complete freezes index]
    · simp only [accept, setFramer, State.setPort_hist, record]; rfl
    · rfl

/-! ## The history sample (R105, R108) -/

/-- The capture record and the report that a sample written at a slot leaves. -/
def captureAfter (x : Option CaptureRecord) (slot : Nat) : Option CaptureRecord × Option Report :=
  match x with
  | some r => (some (r.afterSample slot).1, (r.afterSample slot).2)
  | none => (none, none)

/-- The port with a report placed, when there is one. -/
def placed (p : Port) (x : Option Report) : Port :=
  match x with
  | some r => p.place r
  | none => p

/-- The ring with a sample of the state at a slot, the sample timer started again unless the ring is frozen. -/
def sampledHistory (s : State) (i : Fin 512) (capture : Option CaptureRecord) : History where
  slots := s.hist.slots.put i (some (sampleOf s))
  writeIndex := (i.val + 1) % 512
  held := min 512 (s.hist.held + 1)
  timer := if frozen { s.hist with capture } then none else some (after s s.setup.limits.samplePeriod)
  capture := capture

theorem rearmSampling_takeSample {s : State} {i : Fin 512} (index : s.hist.writeIndex = i.val) :
    rearmSampling (takeSample s) = { s with
      hist := sampledHistory s i (captureAfter s.hist.capture i.val).1
      port := placed s.port (captureAfter s.hist.capture i.val).2 } := by
  unfold takeSample
  rw [write_of_index index]
  cases s.hist.capture with
  | none => rfl
  | some r =>
    rw [index]
    simp only [captureAfter]
    cases (r.afterSample i.val).2 <;> rfl

theorem inside_iff (r : CaptureRecord) (slot : Nat) : r.inside slot = true ↔ InWindow r slot :=
  decide_eq_true_iff

section
variable {r : CaptureRecord} {slot : Nat}

theorem afterSample_of_more (state : r.state = .collecting) (more : r.collected + 1 ≠ r.post) :
    r.afterSample slot = ({ r with collected := r.collected + 1 }, none) := by
  simp [CaptureRecord.afterSample, state, more]

theorem afterSample_of_last (state : r.state = .collecting) (last : r.collected + 1 = r.post) :
    r.afterSample slot = ({ r with collected := r.collected + 1, state := .complete },
      some (.captureDone ⟨r.trigger, r.time, (r.index + 512 - r.pre) % 512, r.pre + r.post⟩)) := by
  simp [CaptureRecord.afterSample, state, last, CaptureRecord.report, CaptureRecord.start, CaptureRecord.length,
    Config.ringSize]

theorem afterSample_of_outside (state : r.state ≠ .collecting) (outside : ¬ InWindow r slot) : r.afterSample slot = (r, none) := by
  have not_inside : r.inside slot = false := by rwa [← Bool.not_eq_true, inside_iff]
  cases kind : r.state with
  | collecting => exact absurd kind state
  | complete => simp [CaptureRecord.afterSample, kind, not_inside]
  | stale => simp [CaptureRecord.afterSample, kind, not_inside]

theorem afterSample_of_overwritten (state : r.state = .complete) (inside : InWindow r slot) :
    r.afterSample slot = ({ r with state := .stale, overwritten := min (r.pre + r.post) (r.overwritten + 1) },
      some (.captureStale ⟨r.trigger, r.time, (r.index + 512 - r.pre) % 512, r.pre + r.post⟩)) := by
  simp [CaptureRecord.afterSample, state, (inside_iff _ _).2 inside, CaptureRecord.report, CaptureRecord.start,
    CaptureRecord.length, Config.ringSize]

theorem afterSample_of_stale (state : r.state = .stale) (inside : InWindow r slot) :
    r.afterSample slot = ({ r with state := .stale, overwritten := min (r.pre + r.post) (r.overwritten + 1) }, none) := by
  simp [CaptureRecord.afterSample, state, (inside_iff _ _).2 inside, CaptureRecord.length]

end

/-- The sample timer runs on when the record does not freeze the ring. -/
theorem sampledHistory_timer_of_running (s : State) (i : Fin 512) {capture : Option CaptureRecord}
    (running : ∀ r, capture = some r → r.state = .complete → r.freeze = false) :
    (sampledHistory s i capture).timer = some (s.time + BitVec.ofNat 32 s.setup.limits.samplePeriod) := by
  have melted : frozen { s.hist with capture } = false := by
    rw [← Bool.not_eq_true, frozen_iff]
    rintro ⟨r, record, complete, freezes⟩
    simp [running r record complete] at freezes
  simp [sampledHistory, melted, after, Time.plus]

theorem sampledHistory_timer_of_frozen (s : State) (i : Fin 512) {r : CaptureRecord} (complete : r.state = .complete)
    (freezes : r.freeze = true) : (sampledHistory s i (some r)).timer = none := by
  have still : frozen { s.hist with capture := some r } = true := (frozen_iff _).2 ⟨r, rfl, complete, freezes⟩
  simp [sampledHistory, still]

/-- Settles O42: the ring by its one equation, the capture record by its state and whether the slot lies in its window. -/
theorem historySampleWritten : Obligations.HistorySampleWritten := by
  intro s expiry i timer due index
  have runs : exec .historySample s = .next (rearmSampling (takeSample s)) := by
    simp only [exec, execHistorySample, timer, timerDue_of_due due, if_true]
  rw [rearmSampling_takeSample index] at runs
  refine ⟨_, runs, rfl, ?recorded, rfl, rfl, ?none, ?more, ?last, ?closed⟩
  case recorded => simp [sampledHistory, sampleOf, settled, derated, isActive, Option.not_isNone]; rfl
  case none =>
    intro absent
    exact ⟨by simp [absent, captureAfter, placed], by simp [absent, captureAfter, sampledHistory],
      sampledHistory_timer_of_running s i (by simp [absent, captureAfter])⟩
  case more =>
    intro r record state more
    have step := afterSample_of_more (slot := i.val) state more
    exact ⟨by simp [record, captureAfter, placed, step], by simp [record, captureAfter, sampledHistory, step],
      sampledHistory_timer_of_running s i (by simp [record, captureAfter, step, state])⟩
  case last =>
    intro r record state last
    have step := afterSample_of_last (slot := i.val) state last
    refine ⟨by simp [record, captureAfter, sampledHistory, step], by simp [record, captureAfter, placed, step],
      fun freezes => ?_, fun runs_on => ?_⟩
    · simp only [record, captureAfter, step]
      exact sampledHistory_timer_of_frozen s i rfl freezes
    · exact sampledHistory_timer_of_running s i (by simp [record, captureAfter, step, runs_on])
  case closed =>
    intro r record state
    have not_collecting : r.state ≠ .collecting := by rcases state with ⟨state, _⟩ | state <;> simp [state]
    have after_inside (inside : InWindow r i.val) : (r.afterSample i.val).1
        = { r with state := .stale, overwritten := min (r.pre + r.post) (r.overwritten + 1) } := by
      rcases state with ⟨state, _⟩ | state
      · rw [afterSample_of_overwritten state inside]
      · rw [afterSample_of_stale state inside]
    refine ⟨sampledHistory_timer_of_running s i ?_, fun outside => ?_, fun inside => ?_, fun inside stale => ?_,
      fun inside complete => ?_⟩
    · intro x found complete
      by_cases inside : InWindow r i.val
      · simp [record, captureAfter, after_inside inside] at found
        simp [← found] at complete
      · simp [record, captureAfter, afterSample_of_outside not_collecting inside] at found
        subst found
        exact (state.resolve_right (by simp [complete])).2
    · simp [record, captureAfter, placed, sampledHistory, afterSample_of_outside not_collecting outside]
    · simp [record, captureAfter, sampledHistory, after_inside inside]
    · simp [record, captureAfter, placed, afterSample_of_stale stale inside]
    · simp [record, captureAfter, placed, afterSample_of_overwritten complete inside]

end Sys2Proof.Proofs.Upkeep
end
section
/-! PROOFS. The Message Port's own events (R167, R169, R172) and the requests that read (R51, R104, R110, R130, R151, R171). -/

namespace Sys2Proof.Proofs.MessagePort

open Sys2Proof.Machine Sys2Proof.Safety Sys2Proof.Proofs.Upkeep

/-! ## What the transmitter puts out (Table 10-1) -/

/-- The two halves of a CRC-16 together are the CRC. -/
theorem append_extract (crc : BitVec 16) : crc.extractLsb' 8 8 ++ crc.extractLsb' 0 8 = crc := by
  refine BitVec.eq_of_getLsbD_eq fun i bound => ?_
  rw [BitVec.getLsbD_append, BitVec.getLsbD_extractLsb', BitVec.getLsbD_extractLsb']
  by_cases low : i < 8
  · simp [low]
  · have high : i - 8 < 8 := by omega
    have shifted : 8 + (i - 8) = i := by omega
    simp [low, high, shifted]

theorem frameOf_envelope (kind tag : Byte) (body : List Byte) : FrameOf (envelope kind tag body) kind tag body :=
  ⟨_, _, rfl, (append_extract _).symm⟩

theorem resultValue_eq (code : ResultCode) : resultValue code = BitVec.ofNat 8 (resultNumber code) := by
  cases code <;> rfl

theorem reportCode_eq (r : Report) : reportCode r = BitVec.ofNat 8 (reportRow r).1 := by
  cases r <;> rfl

theorem reportSubject_eq (r : Report) : reportSubject r = (reportRow r).2 := by
  cases r <;> rfl

theorem frameOf_reply (r : Reply) :
    FrameOf r.frame r.kind r.tag (BitVec.ofNat 8 (resultNumber r.code) :: Machine.contentBytes r.content) := by
  rw [← resultValue_eq]
  exact frameOf_envelope _ _ _

theorem frameOf_report (flags : Byte) (r : Report) :
    FrameOf (r.frame flags) (BitVec.ofNat 8 (reportRow r).1) 0
      (flags :: BitVec.ofNat 8 (reportRow r).2 :: Config.reportBytes r) := by
  rw [← reportCode_eq, ← reportSubject_eq]
  exact frameOf_envelope _ _ _

/-- The flags byte holds the gap flag in bit 0 and the dip flag in bit 1, and nothing else. -/
theorem flagsByte_bits (p : Port) :
    (flagsByte p).getLsbD 0 = p.gapFlag ∧ (flagsByte p).getLsbD 1 = p.dipFlag ∧ (flagsByte p).toNat < 4 := by
  unfold flagsByte
  cases p.gapFlag <;> cases p.dipFlag <;> decide

/-! ## The transmitter (R169) -/

theorem sendingRestart_eq_false {p : Machine.Port}
    (h : p.restart = none ∨ ∀ tag content, p.tx ≠ some (.reply ⟨0x23, tag, .ok, content⟩)) : sendingRestart p = false := by
  rcases h with idle | other
  · simp [sendingRestart, idle]
  · rw [sendingRestart, Bool.and_eq_false_iff]
    refine .inr ?_
    split
    case h_1 r sent =>
      rw [← Bool.not_eq_true, Bool.and_eq_true, beq_iff_eq, beq_iff_eq]
      rintro ⟨kind, code⟩
      refine other r.tag r.content ?_
      rw [sent, ← code, show (0x23 : Byte) = r.kind from kind.symm]
    case h_2 => rfl

/-- A free transmitter takes its next frame. -/
theorem exec_transmit {c : Instr} {s : State}
    (h : c = .transmitStart ∧ s.port.tx = none
      ∨ c = .transmitEnd ∧ s.port.tx ≠ none
        ∧ (s.port.restart = none ∨ ∀ tag content, s.port.tx ≠ some (.reply ⟨0x23, tag, .ok, content⟩))) :
    exec c s = .next (s.setPort s.port.transmit) := by
  rcases h with ⟨rfl, idle⟩ | ⟨rfl, busy, other⟩
  · simp [exec, execTransmitStart, idle]
  · simp [exec, execTransmitEnd, sendingRestart_eq_false other, Option.isSome_iff_ne_none.2 busy]

/-- Settles O52: by what waits, with the frame of Table 10-1 around the body. -/
theorem transmitterTakesNext : Obligations.TransmitterTakesNext := by
  intro c s free
  have runs := exec_transmit free
  refine ⟨fun r rest replies => ?_, fun r rest replies reports => ?_, fun replies reports => ?_⟩
  · have takes : s.port.transmit = { s.port with tx := some (.reply r), replies := rest } := by
      simp [Port.transmit, replies]
    rw [takes] at runs
    refine ⟨_, _, _, runs, rfl, rfl, frameOf_reply r, fun bare => ?_, fun v history => ?_⟩
    · rw [bare]; rfl
    · rw [history]
      exact ⟨_, rfl, Vector.length_toList⟩
  · have takes : s.port.transmit = { s.port with tx := some (.report (flagsByte s.port) r), reports := rest } := by
      simp [Port.transmit, replies, reports]
    rw [takes] at runs
    obtain ⟨gap, dip, small⟩ := flagsByte_bits s.port
    exact ⟨_, flagsByte s.port, _, _, runs, rfl, gap, dip, small, rfl, frameOf_report _ r⟩
  · have takes : s.port.transmit = { s.port with tx := none } := by simp [Port.transmit, replies, reports]
    rw [takes] at runs
    exact ⟨_, runs, rfl, rfl⟩

/-! ## The receive framer (R167) -/

theorem setFramer_self {s : State} {f : Framer} (h : s.port.framer = f) : setFramer s f = s := by
  subst h; rfl

theorem feedAll_hunting {now : Time} : ∀ {bytes : List Byte}, (∀ b ∈ bytes, b ≠ 0xA5) →
    feedAll .hunting now (bytes.map .byte) = some .hunting
  | [], _ => rfl
  | b :: rest, h => by
    have other : hunt b now = ⟨.hunting, false⟩ := if_neg (h b List.mem_cons_self)
    simp only [List.map_cons, feedAll, feed, other, Bool.false_eq_true, if_false]
    exact feedAll_hunting fun x mem => h x (List.mem_cons_of_mem _ mem)

theorem gapPassed_self (now : Time) : gapPassed now now = false := by
  simp [gapPassed, Time.since]

/-- The sync byte begins a frame. -/
theorem feed_sync (now : Time) : feed .hunting now (.byte 0xA5) = ⟨.assembling [0xA5] now, false⟩ := rfl

/-- Bytes that do not complete the frame are collected. -/
theorem feedAll_collect {now : Time} {n : Nat} (fits : n ≤ 250) : ∀ {bytes got : List Byte} {rest : List RxItem},
    frameLength got = some n → got.length + bytes.length < n + 6 →
    feedAll (.assembling got now) now (bytes.map .byte ++ rest) = feedAll (.assembling (got ++ bytes) now) now rest
  | [], got, rest, _, _ => by simp
  | b :: bytes, got, rest, length, short => by
    have still : frameLength (got ++ [b]) = some n := by
      cases got with
      | nil => cases length
      | cons x tail => cases tail with
        | nil => cases length
        | cons y more => exact length
    simp only [List.length_cons] at short
    have step : collect (got ++ [b]) now = ⟨.assembling (got ++ [b]) now, false⟩ := by
      have room : (got ++ [b]).length < n + 6 := by simp only [List.length_append, List.length_singleton]; omega
      simp only [collect, still, Nat.not_lt.2 fits, if_false, room, if_true]
    simp only [List.map_cons, List.cons_append, feedAll, feed, gapPassed_self, Bool.false_eq_true, if_false, step]
    rw [feedAll_collect fits still (by simp only [List.length_append, List.length_singleton]; omega),
      List.append_assoc, List.singleton_append]

/-- A whole frame with a wrong CRC is not taken. -/
theorem crcMatches_eq_false {len lo hi : Byte} {body : List Byte} (size : body.length = len.toNat + 2)
    (wrong : crc16 (len :: body) ≠ hi ++ lo) : crcMatches (0xA5 :: len :: body ++ [lo, hi]) len.toNat = false := by
  have tail : (0xA5 :: len :: body ++ [lo, hi]).drop (len.toNat + 4) = [lo, hi] := by
    simp [← size]
  have covered : ((0xA5 :: len :: body ++ [lo, hi]).drop 1).take (len.toNat + 3) = len :: body := by
    simp [← size]
  simp only [crcMatches, tail, covered]
  simpa using wrong

theorem feedAll_wrong_crc {now : Time} {len lo hi : Byte} {body : List Byte} (fits : len.toNat ≤ 250)
    (size : body.length = len.toNat + 2) (wrong : crc16 (len :: body) ≠ hi ++ lo) :
    feedAll .hunting now ((0xA5 :: len :: body ++ [lo, hi]).map .byte) = some .hunting := by
  have begun : feed (.assembling [0xA5] now) now (.byte len) = ⟨.assembling [0xA5, len] now, false⟩ := by
    simp only [feed, gapPassed_self, Bool.false_eq_true, if_false, collect]
    have length : frameLength ([0xA5] ++ [len]) = some len.toNat := rfl
    simp only [length, Nat.not_lt.2 fits, if_false]
    rw [if_pos (by simp)]
    rfl
  have whole : feed (.assembling ([0xA5, len] ++ (body ++ [lo])) now) now (.byte hi) = ⟨.hunting, false⟩ := by
    have bytes : [0xA5, len] ++ (body ++ [lo]) ++ [hi] = 0xA5 :: len :: body ++ [lo, hi] := by simp
    have length : frameLength (0xA5 :: len :: body ++ [lo, hi]) = some len.toNat := rfl
    have full : ¬ (0xA5 :: len :: body ++ [lo, hi]).length < len.toNat + 6 := by
      simp only [List.length_append, List.length_cons, List.length_nil, size]; omega
    simp only [feed, gapPassed_self, Bool.false_eq_true, if_false, collect, bytes, length, Nat.not_lt.2 fits, full,
      crcMatches_eq_false size wrong]
  have split : (0xA5 :: len :: body ++ [lo, hi]).map RxItem.byte
      = .byte 0xA5 :: .byte len :: ((body ++ [lo]).map .byte ++ [.byte hi]) := by simp
  rw [split, feedAll, feed_sync, feedAll, begun]
  simp only [Bool.false_eq_true, if_false]
  rw [feedAll_collect fits rfl (by simp only [List.length_append, List.length_cons, List.length_nil, size]; omega), feedAll, whole]
  rfl

/-- What arrives while no RESTART is accepted and completes no frame moves the framer alone. -/
theorem exec_frameDiscarded {s : State} {rx : List RxItem} {f : Framer} (idle : s.port.restart = none)
    (fed : feedAll s.port.framer s.time rx = some f) : exec (.frameDiscarded rx) s = .next (setFramer s f) := by
  simp [exec, execFrameDiscarded, idle, fed]

/-- Settles O51: the gap timer, then each kind of thing received, then the unknown kind. -/
theorem framerDiscards : Obligations.FramerDiscards := by
  intro s idle
  refine ⟨fun bytes last assembling gap => ?_, fun bytes hunting other => ?_, fun len hunting long => ?_, fun f framer => ?_,
    fun len body lo hi hunting fits size wrong => ?_, fun kind tag body room unknown => ?_⟩
  · have due : gapDue s = true := by
      simp only [gapDue, assembling]
      exact decide_eq_true gap
    simp only [exec, execFrameGapTimeout, due, if_true]
    rfl
  · rw [exec_frameDiscarded idle (f := .hunting) (by rw [hunting]; exact feedAll_hunting other), setFramer_self hunting]
  · have discards : feedAll .hunting s.time [.byte 0xA5, .byte len] = some .hunting := by
      have length : frameLength ([0xA5] ++ [len]) = some len.toNat := rfl
      have dropped : collect ([0xA5] ++ [len]) s.time = ⟨.hunting, false⟩ := by simp only [collect, length, long, if_true]
      rw [feedAll, feed_sync]
      simp only [Bool.false_eq_true, if_false, feedAll, feed, gapPassed_self, dropped]
    rw [exec_frameDiscarded idle (f := .hunting) (by rw [hunting]; exact discards), setFramer_self hunting]
  · exact exec_frameDiscarded idle (f := .hunting) rfl
  · rw [exec_frameDiscarded idle (f := .hunting) (by rw [hunting]; exact feedAll_wrong_crc fits size wrong), setFramer_self hunting]
  · have not_named : requestCodes.contains kind = false := by simpa using unknown
    have taken : takeFrame s kind tag (fun x => refuse x .unknownKind)
        = answer kind tag (refuse (setFramer s .hunting) .unknownKind) := by
      have not_full : ¬ Config.replyRoom ≤ (setFramer s .hunting).port.replies.length := Nat.not_le.2 room
      simp only [takeFrame, idle, Option.isSome_none, Bool.false_eq_true, if_false, not_full]
    simp only [exec, execUnknownKind, not_named, Bool.false_eq_true, if_false, taken]
    rfl

/-! ## Queries (R51, R130, R151, R171) -/

/-- A request accepted without a change answers with contents and leaves the state as it is. -/
theorem exec_of_accept {s : State} {c : Instr} {kind : ReqKind} {tag : Byte} {rule : State → Taken} {content : State → Content}
    (h : Taking s) (runs : exec c s = .next (takeRequest s kind tag rule))
    (accepts : rule (setFramer s .hunting) = accept (setFramer s .hunting) content) :
    exec c s = .next (replied s kind tag .ok (content (setFramer s .hunting))) := by
  rw [exec_of_taking h runs, accepts]
  rfl

/-- The cars in each state of a list make up, state by state, the cars in any of them. -/
theorem sum_carsIn (s : State) (cars : List CarId) : ∀ {states : List CarState}, states.Nodup →
    (states.map (fun st => (cars.filter (fun c => stateOf s c == some st)).length)).sum
      = (cars.filter (fun c => states.any (fun st => stateOf s c == some st))).length
  | [], _ => by simp
  | st :: rest, distinct => by
    obtain ⟨new, distinct⟩ := List.nodup_cons.1 distinct
    rw [List.map_cons, List.sum_cons, sum_carsIn s cars distinct]
    induction cars with
    | nil => rfl
    | cons c cars ih =>
      simp only [List.any_cons] at ih ⊢
      by_cases here : stateOf s c = some st
      · have elsewhere : rest.any (fun x => stateOf s c == some x) = false := by
          simp only [List.any_eq_false, beq_iff_eq, here, Option.some.injEq]
          rintro x mem rfl
          exact new mem
        simp only [List.filter_cons, here, beq_self_eq_true, Bool.true_or, if_true, List.length_cons]
        simp only [here] at elsewhere
        simp only [elsewhere, Bool.false_eq_true, if_false]
        omega
      · have not_here : (stateOf s c == some st) = false := by simpa using here
        simp only [List.filter_cons, not_here, Bool.false_or, Bool.false_eq_true, if_false]
        split
        · simp only [List.length_cons]; omega
        · exact ih

theorem mem_allCarStates (st : CarState) : st ∈ allCarStates := by cases st <;> decide

/-- The states of QUERY-PLAN count each car with a record once. -/
theorem sum_states (s : State) :
    (allCarStates.map (carsIn s)).sum = ((indices 48).filter (fun c => (record s c).isSome)).length := by
  rw [show carsIn s = fun st => ((indices 48).filter (fun c => stateOf s c == some st)).length from rfl,
    sum_carsIn s (indices 48) (by decide)]
  congr 2
  funext c
  unfold stateOf
  cases record s c with
  | none => simp
  | some r =>
    simp only [Option.map_some, Option.isSome_some, List.any_eq_true, beq_iff_eq, Option.some.injEq]
    exact ⟨r.state, mem_allCarStates r.state, rfl⟩

theorem positioned_items : ∀ (n : Nat) (items : List QueueItem), (positioned n items).map (·.item) = items
  | _, [] => rfl
  | n, x :: rest => by rw [positioned, List.map_cons, positioned_items]

/-- Settles O47: each query answers from the state that it leaves as it is. -/
theorem readingChangesNothing : Obligations.ReadingChangesNothing := by
  intro s tag taking
  refine ⟨⟨identifyView (setFramer s .hunting), exec_of_accept taking rfl (content := fun x => .identify (identifyView x)) rfl, rfl, ?_, ?_, rfl, rfl, rfl, rfl, rfl⟩,
    ⟨planView (setFramer s .hunting), exec_of_accept taking rfl (content := fun x => .plan (planView x)) rfl, rfl, rfl, rfl, rfl, rfl, rfl, rfl, rfl, rfl, rfl, rfl, ?_,
      sum_states s⟩,
    fun c => ⟨carView (setFramer s .hunting) c, exec_of_accept taking rfl (content := fun x => .car (carView x c)) ?_, rfl, rfl, ?_, ?_⟩,
    fun p low high => ⟨queueView (setFramer s .hunting) p,
      exec_of_accept taking rfl (content := fun x => .queue (queueView x p)) ?_, rfl, rfl, rfl, positioned_items _ _⟩⟩
  · exact Nat.le_add_left _ _
  · exact Config.revisionLessOne.isLt
  · simp [planView, allCarStates]
  · simp only [withBody, ruleQueryCar, numbered_val]
  · show (Option.map (enrolledView _ c) (record s c)).map (·.record) = record s c
    cases record s c <;> rfl
  · intro x view
    obtain ⟨r, _, rfl⟩ := Option.map_eq_some_iff.1 view
    rfl
  · simp [withBody, ruleQueryQueue, within, low, high]

/-! ## QUERY-ACCOUNT (R104) -/

theorem filter_stop (es : List Entry) : es.filter (fun e => e.phase == .stop) = es.filter (fun e => e.phase = .stop) :=
  List.filter_congr fun e _ => by rw [Bool.eq_iff_iff, beq_iff_eq, decide_eq_true_iff]

theorem projectedDraw_eq (a : Account) : projectedDraw a = a.kd - stopped (·.draw) a.entries := by
  rw [projectedDraw, stoppingDraw, filter_stop, stopped]

theorem projectedRegen_eq (a : Account) : projectedRegen a = a.kr - stopped (·.regen) a.entries := by
  rw [projectedRegen, stoppingRegen, filter_stop, stopped]

theorem starting_iff (e : Entry) : e.starting = true ↔ e.kind = .returning ∧ e.phase = .start := by simp [Entry.starting]

theorem startingCount_eq (a : Account) :
    startingCount a = (a.entries.filter (fun e => e.kind = .returning ∧ e.phase = .start)).length :=
  congrArg List.length (List.filter_congr fun e _ => by rw [Bool.eq_iff_iff, starting_iff, decide_eq_true_iff])

theorem shedCount_eq (a : Account) :
    shedCount a = (a.entries.filter (fun e => e.phase = .stop ∧ e.stopCause = some .shed)).length :=
  congrArg List.length
    (List.filter_congr fun e _ => by rw [Bool.eq_iff_iff, IndicationLines.isShed_iff, decide_eq_true_iff])

theorem setViews_getElem? (s : State) (n : SetId) : ((indices 4).map (setView s))[n.val]?
    = some ⟨(s.setup.sets.at n).enabled, (s.setup.sets.at n).allocation, (s.cap.sets.at n).trim, (s.cap.sets.at n).status,
        contributes s n⟩ := by
  simp [PlantLines.indices_getElem?, setView, contribution, contributionOf, contributes]

/-- An entry that a search for its car finds stands at the place the search for its car gives. -/
theorem getElem?_findIdx_of_find? {c : CarId} {e : Entry} : ∀ {es : List Entry}, es.find? (fun x => x.car == c) = some e →
    es[es.findIdx (fun x => x.car == e.car)]? = some e
  | [], found => nomatch found
  | x :: rest, found => by
    have of_car : e.car = c := by simpa using List.find?_some found
    by_cases here : x.car = c
    · simp only [List.find?_cons, here, beq_self_eq_true, Option.some.injEq] at found
      subst found
      simp [List.findIdx_cons]
    · simp only [List.find?_cons, beq_eq_false_iff_ne.2 here] at found
      have elsewhere : (x.car == e.car) = false := by simpa [of_car] using here
      simp only [List.findIdx_cons, elsewhere, cond_false, List.getElem?_cons_succ]
      exact getElem?_findIdx_of_find? found

theorem remaining_eq (now : Time) (timer : Option Time) : remaining now timer = timer.map (fun d => (d - now).toNat) := rfl

/-- The views of entries that the search for their cars finds carry their remaining times and their places. -/
theorem entryView_fields {s : State} {c : CarId} {e : Entry} (holds : entryOf s c = some e) :
    (entryView s e).windowRemaining = e.window.map (fun win => (win.expiry - s.time).toNat)
      ∧ (entryView s e).deadlineRemaining = e.deadline.map (fun d => (d - s.time).toNat)
      ∧ 1 ≤ (entryView s e).position ∧ s.acct.entries[(entryView s e).position - 1]? = some e := by
  refine ⟨?_, rfl, Nat.le_add_left _ _, getElem?_findIdx_of_find? holds⟩
  simp only [entryView, remaining_eq, Option.map_map]
  rfl

theorem entriesFrom_eq (s : State) (c : CarId) :
    entriesFrom s c = ((indices 48).filter (fun d => c.val ≤ d.val)).filterMap (entryOf s) := rfl

/-! ## READ-HISTORY (R110) -/

theorem bytesOf_eq (n x : Nat) : bytesOf n x = leBytes n x := by
  induction n generalizing x with
  | zero => rfl
  | succ n ih =>
    simp only [bytesOf, ih, leBytes, List.range_succ_eq_map, List.map_cons, List.map_map, Nat.pow_zero, Nat.div_one,
      Function.comp_def, Nat.pow_succ, Nat.mul_comm _ 256, ← Nat.div_div_eq_div_mul]

theorem planCode_eq (p : PlanState) : planCode p = planNumber p := by cases p <;> rfl

theorem bitAt_eq (b : Bool) (place : Nat) : bitAt b place = if b = true then 2 ^ place else 0 := by cases b <;> rfl

theorem encode_eq (x : Sample) : x.encode = sampleBytes x := by
  simp only [Sample.encode, sampleBytes, bytesOf_eq, planCode_eq, bitAt_eq]

theorem windowSample_eq (h : History) (r : CaptureRecord) (offset : Nat) : windowSample h r offset = presentAt h r offset := by
  simp only [windowSample, presentAt, Bool.and_eq_true, decide_eq_true_iff]
  rfl

/-- The samples present at a run of offsets, with their offsets. -/
theorem presentFrom_eq (h : History) (r : CaptureRecord) (n offset : Nat) :
    presentFrom h r offset n
      = ((List.range n).map (offset + ·)).filterMap (fun o => (presentAt h r o).map (o, ·)) := by
  induction n generalizing offset with
  | zero => rfl
  | succ n ih =>
    have shifted : (fun x => offset + x) ∘ Nat.succ = fun x => offset + 1 + x := by
      funext x; simp only [Function.comp_apply]; omega
    rw [presentFrom, windowSample_eq, List.range_succ_eq_map, List.map_cons, List.map_map, shifted, List.filterMap_cons,
      Nat.add_zero, ih]
    cases presentAt h r offset <;> rfl

theorem map_fst_filterMap {α : Type} (f : Nat → Option α) (l : List Nat) :
    (l.filterMap (fun o => (f o).map (o, ·))).map (·.1) = l.filter (fun o => (f o).isSome) := by
  induction l with
  | nil => rfl
  | cons o rest ih => cases found : f o <;> simp [found, ih]

theorem map_snd_filterMap {α : Type} (f : Nat → Option α) (l : List Nat) :
    (l.filterMap (fun o => (f o).map (o, ·))).map (·.2) = l.filterMap f := by
  induction l with
  | nil => rfl
  | cons o rest ih => cases found : f o <;> simp [found, ih]

theorem filterMap_filter_isSome {α : Type} (f : Nat → Option α) (l : List Nat) :
    (l.filter (fun o => (f o).isSome)).filterMap f = l.filterMap f := by
  induction l with
  | nil => rfl
  | cons o rest ih => cases found : f o <;> simp [found, ih]

/-- A READ-HISTORY reply in terms of the offsets of the span at which a sample is present. -/
theorem historyView_eq {h : History} {r : CaptureRecord} {offset count : Nat} {span : List Nat}
    (spans : span = ((List.range (min count (r.pre + r.post - offset))).map (offset + ·)).filter
      (fun o => (presentAt h r o).isSome)) :
    historyView h r offset count = ⟨r.state, r.pre + r.post, offset, span.head?, span.length,
      (span.filterMap (presentAt h r)).map sampleBytes⟩ := by
  simp only [historyView, presentFrom_eq, CaptureRecord.length]
  congr 1
  · rw [spans, ← map_fst_filterMap, List.head?_map]
  · rw [spans, ← map_fst_filterMap, List.length_map]
  · have encodes : (fun x : Nat × Sample => x.2.encode) = sampleBytes ∘ (·.2) := funext fun x => encode_eq x.2
    rw [spans, filterMap_filter_isSome, encodes, ← List.map_map, map_snd_filterMap]

/-- Settles O48: the summary field by field, the entries by the search for each car, the samples by the offsets of the span. -/
theorem accountRead : Obligations.AccountRead := by
  intro s tag taking
  refine ⟨⟨summaryView (setFramer s .hunting), exec_of_accept taking rfl (content := fun x => .summary (summaryView x)) rfl,
      rfl, rfl, rfl, rfl, projectedDraw_eq _, projectedRegen_eq _, rfl, rfl, rfl, rfl, rfl, startingCount_eq _, shedCount_eq _,
      rfl, rfl, rfl, rfl, rfl, setViews_getElem? _⟩,
    fun c all all_eq => ⟨entriesView (setFramer s .hunting) c,
      exec_of_accept taking rfl (content := fun x => .entries (entriesView x c)) ?_, ?_, ?_, ?_⟩,
    fun r offset count span record bound low high spans => ⟨historyView s.hist r offset count,
      exec_of_accept taking rfl (content := fun x => .history (historyView x.hist r offset count)) ?_, ?_⟩,
    fun absent f => ?_⟩
  · simp only [withBody, ruleEntries, numbered_val]
  · rw [all_eq]
    exact List.map_map.trans (List.map_id _)
  · rw [all_eq]
    show (((entriesFrom s c).drop 8).head?).map (·.car) = _
    rw [List.head?_drop, entriesFrom_eq]
  · intro x listed
    obtain ⟨e, mem, rfl⟩ := List.mem_map.1 listed
    obtain ⟨d, _, holds⟩ := List.mem_filterMap.1 (List.mem_of_mem_take mem)
    exact entryView_fields (s := s) holds
  · have fits : (decide (offset < r.length) && within 1 Config.samplesPerReply count) = true := by
      simp [CaptureRecord.length, within, Config.samplesPerReply, bound, low, high]
    have record' : (setFramer s .hunting).hist.capture = some r := record
    simp only [withBody, ruleReadHistory, record', fits, if_true]
  · rw [historyView_eq spans]
    exact ⟨rfl, rfl, rfl, rfl, rfl, rfl⟩
  · have absent' : (setFramer s .hunting).hist.capture = none := absent
    have refuses : withBody (.fields f) ruleReadHistory (setFramer s .hunting) = refuse (setFramer s .hunting) .notReady := by
      simp only [withBody, ruleReadHistory, absent']
    rw [exec_of_taking taking rfl, refuses, answer_refuse]

end Sys2Proof.Proofs.MessagePort
end
section
/-! PROOFS. Refusals (R168, Table 10-3): the rule of a refused request leaves the state as it is. -/

namespace Sys2Proof.Proofs.MessagePort

open Sys2Proof.Machine Sys2Proof.Safety Sys2Proof.Proofs.Upkeep

/-! ## A refused request -/

/-- A request that its rule refuses is answered with the result code, and changes nothing else. -/
theorem exec_of_refusal {s : State} {c : Instr} {kind : ReqKind} {tag : Byte} {rule : State → Taken} {code : ResultCode}
    {content : Content} (h : Taking s) (runs : exec c s = .next (takeRequest s kind tag rule))
    (refuses : rule (setFramer s .hunting) = ⟨setFramer s .hunting, code, content⟩) :
    exec c s = .next (replied s kind tag code content) := by
  rw [exec_of_taking h runs, refuses]
  rfl

theorem bare_of_body {body : List Byte} (h : body ≠ []) (rule : State → Taken) (s : State) :
    bare body rule s = refuse s .badLength := by
  simp [bare, h]

theorem numbered_eq_none {k n : Nat} (h : n = 0 ∨ k < n) : numbered k n = none := by
  rw [numbered, dif_neg (by omega)]

/-! ## The requests that only HALTED accepts (Table 10-3) -/

/-- A request that only HALTED accepts runs under the tests of the plan state and the save. -/
theorem exec_of_haltedForm {c : Instr} {k : ReqKind} {tag : Byte} (s : State) (form : HaltedForm c k tag) :
    ∃ rule inner : State → Taken, exec c s = .next (takeRequest s k tag rule) ∧ ∀ x, rule x = inHalted x inner := by
  rcases form with ⟨f, rfl, rfl⟩ | ⟨f, rfl, rfl, low, high⟩ | ⟨n, rfl, rfl⟩ | ⟨f, rfl, rfl⟩ | ⟨f, rfl, rfl⟩ | ⟨f, rfl, rfl⟩
    | ⟨rfl, rfl⟩ | ⟨body, rfl, rfl, length⟩
  · exact ⟨_, _, rfl, fun _ => rfl⟩
  · have fits : within 1 4 f.ranges.length = true := by simp [within, low, high]
    exact ⟨_, _, rfl, fun x => by rw [withBody, ruleSetCar, if_pos fits, storeCarForm]⟩
  · exact ⟨_, _, rfl, fun _ => rfl⟩
  · exact ⟨_, _, rfl, fun _ => rfl⟩
  · exact ⟨_, _, rfl, fun _ => rfl⟩
  · exact ⟨_, _, rfl, fun _ => rfl⟩
  · exact ⟨_, _, rfl, fun _ => rfl⟩
  · exact ⟨_, _, rfl, fun x => by rw [ruleSavePlan, if_pos length]⟩

theorem inHalted_of_saving {s : State} (halted : s.plan.state = .halted) (busy : s.store.save ≠ none) (rule : State → Taken) :
    inHalted s rule = refuse s .busy := by
  simp [inHalted, halted, saving, Option.isSome_iff_ne_none.2 busy]

/-! ## Bodies of a wrong length -/

theorem exec_of_badBody {s : State} {c : Instr} {k : ReqKind} {tag : Byte} (h : Taking s) (bad : BadBody c k tag) :
    exec c s = .next (replied s k tag .badLength .nothing) := by
  rcases bad with ⟨b, some_body, bad⟩ | ⟨f, rfl, rfl, length⟩ | ⟨items, rfl, rfl, length⟩ | ⟨b, length, rfl, rfl⟩ | bad
  · rcases bad with ⟨rfl, rfl⟩ | ⟨rfl, rfl⟩ | ⟨rfl, rfl⟩ | ⟨rfl, rfl⟩ | ⟨rfl, rfl⟩ | ⟨rfl, rfl⟩ | ⟨rfl, rfl⟩ | ⟨rfl, rfl⟩ | ⟨rfl, rfl⟩
    all_goals exact exec_of_refusal h rfl (bare_of_body some_body _ _)
  · refine exec_of_refusal h rfl ?_
    have long : within 1 4 f.ranges.length = false := by
      rw [← Bool.not_eq_true]
      simp only [within, Bool.and_eq_true, decide_eq_true_iff, not_and, Nat.not_le]
      rcases length with none | many
      · simp [none]
      · exact fun _ => many
    simp only [withBody, ruleSetCar, long, Bool.false_eq_true, if_false, refuse]
  · refine exec_of_refusal h rfl ?_
    have long : within 1 8 items.length = false := by
      rw [← Bool.not_eq_true]
      simp only [within, Bool.and_eq_true, decide_eq_true_iff, not_and, Nat.not_le]
      rcases length with none | many
      · simp [none]
      · exact fun _ => many
    simp only [withBody, ruleLineReport, long, Bool.false_eq_true, if_false, refuse]
  · exact exec_of_refusal h rfl (if_neg length)
  · rcases bad with ⟨rfl, rfl⟩ | ⟨rfl, rfl⟩ | ⟨rfl, rfl⟩ | ⟨rfl, rfl⟩ | ⟨rfl, rfl⟩ | ⟨rfl, rfl⟩ | ⟨rfl, rfl⟩ | ⟨rfl, rfl⟩ | ⟨rfl, rfl⟩
      | ⟨rfl, rfl⟩ | ⟨rfl, rfl⟩ | ⟨rfl, rfl⟩ | ⟨rfl, rfl⟩ | ⟨rfl, rfl⟩ | ⟨rfl, rfl⟩ | ⟨rfl, rfl⟩ | ⟨rfl, rfl⟩
    all_goals exact exec_of_refusal h rfl rfl

/-! ## Ranges (R32, R170) -/

theorem within_iff (lo hi x : Nat) : within lo hi x = true ↔ lo ≤ x ∧ x ≤ hi := by simp [within]

theorem duration_iff (lo hi x : Nat) : duration lo hi x = true ↔ lo ≤ x ∧ x ≤ hi ∧ x % 100 = 0 := by
  simp [duration, within_iff, and_assoc]

theorem isRate_iff (r : Nat) : isRate r = true ↔ r ∈ [19200, 38400, 57600, 115200] := by simp [isRate]

theorem counts_within_iff (t : Table Nat 8) : t.toList.all (within 0 12) = true ↔ ∀ b : BankId, t.at b ≤ 12 := by
  simp only [List.all_eq_true, within_iff, Table.mem_toList_iff]
  exact ⟨fun small b => (small _ ⟨b, rfl⟩).2, by rintro small _ ⟨b, rfl⟩; exact ⟨Nat.zero_le _, small b⟩⟩

/-- Every field of SET-LIMITS that is no number names a known value. -/
def LimitsNamed (f : LimitsForm) : Prop :=
  f.onTrip ≠ none ∧ f.onDraw ≠ none ∧ f.onHost ≠ none ∧ f.freeze ≠ none ∧ f.captureMode ≠ none ∧ f.returnMode ≠ none
    ∧ f.releaseSource ≠ none

theorem checkLimits_isSome_iff (f : LimitsForm) :
    (checkLimits f).isSome = true ↔ limitsInRange f = true ∧ LimitsNamed f := by
  unfold checkLimits LimitsNamed
  split
  case isFalse out => simp [out]
  case isTrue fits =>
    split
    · simp [*]
    case h_2 some_missing =>
      simp only [Option.isSome_none, Bool.false_eq_true, fits, true_and, false_iff]
      rintro ⟨trip, draw, host, freeze, capture, mode, source⟩
      obtain ⟨trip, h1⟩ := Option.ne_none_iff_exists'.1 trip
      obtain ⟨draw, h2⟩ := Option.ne_none_iff_exists'.1 draw
      obtain ⟨host, h3⟩ := Option.ne_none_iff_exists'.1 host
      obtain ⟨freeze, h4⟩ := Option.ne_none_iff_exists'.1 freeze
      obtain ⟨capture, h5⟩ := Option.ne_none_iff_exists'.1 capture
      obtain ⟨mode, h6⟩ := Option.ne_none_iff_exists'.1 mode
      obtain ⟨source, h7⟩ := Option.ne_none_iff_exists'.1 source
      exact some_missing _ _ _ _ _ _ _ h1 h2 h3 h4 h5 h6 h7

theorem limitsFit_iff (f : LimitsForm) : LimitsFit f ↔ limitsInRange f = true ∧ LimitsNamed f := by
  simp only [limitsInRange, capacityInRange, linkInRange, historyInRange, returnInRange, Bool.and_eq_true, within_iff, duration_iff,
    isRate_iff, counts_within_iff, decide_eq_true_iff, LimitsNamed, LimitsFit, Nat.zero_le, true_and, and_assoc]

theorem checkLimits_isSome_iff_fit (f : LimitsForm) : (checkLimits f).isSome = true ↔ LimitsFit f :=
  (checkLimits_isSome_iff f).trans (limitsFit_iff f).symm

theorem checkProfile_isSome_iff (f : CarForm) :
    (checkProfile f).isSome = true ↔ profileInRange f = true ∧ f.enrolled ≠ none ∧ f.link ≠ none ∧ f.regenCapable ≠ none := by
  unfold checkProfile
  split
  case isFalse out => simp [out]
  case isTrue fits =>
    split
    · simp [*]
    case h_2 some_missing =>
      simp only [Option.isSome_none, Bool.false_eq_true, fits, true_and, false_iff]
      rintro ⟨enrolled, link, regen⟩
      obtain ⟨enrolled, h1⟩ := Option.ne_none_iff_exists'.1 enrolled
      obtain ⟨link, h2⟩ := Option.ne_none_iff_exists'.1 link
      obtain ⟨regen, h3⟩ := Option.ne_none_iff_exists'.1 regen
      exact some_missing _ _ _ h1 h2 h3

theorem carFits_iff (f : CarForm) :
    CarFits f ↔ profileInRange f = true ∧ f.enrolled ≠ none ∧ f.link ≠ none ∧ f.regenCapable ≠ none := by
  simp only [profileInRange, Bool.and_eq_true, within_iff, duration_iff, List.all_eq_true, Nat.zero_le, true_and, CarFits, and_assoc]
  tauto

theorem checkProfile_isSome_iff_fits (f : CarForm) : (checkProfile f).isSome = true ↔ CarFits f :=
  (checkProfile_isSome_iff f).trans (carFits_iff f).symm

/-! ## The items of LINE-REPORT (R10) -/

/-- A line and level as an item of LINE-REPORT names them. -/
def itemOf (y : LineId × Level) : ReportItem := ⟨y.1.val + 1, some y.2⟩

theorem numbered_eq_some_iff {k n : Nat} {i : Fin k} : numbered k n = some i ↔ n = i.val + 1 := by
  constructor
  · intro found
    unfold numbered at found
    split at found
    · cases found; simp only; omega
    · cases found
  · rintro rfl
    exact numbered_val i

/-- The items read out are lines in range, named once, with known levels. -/
theorem readItems_eq_some_iff : ∀ {items : List ReportItem} {read : List (LineId × Level)},
    readItems items = some read ↔ items = read.map itemOf ∧ (read.map (·.1)).Nodup
  | [], read => by
    simp only [readItems, Option.some.injEq]
    constructor
    · rintro rfl; exact ⟨rfl, List.nodup_nil⟩
    · rintro ⟨empty, _⟩; exact (List.map_eq_nil_iff.1 empty.symm).symm
  | x :: rest, read => by
    constructor
    · intro found
      rw [readItems] at found
      split at found
      case h_2 => cases found
      case h_1 l lev more line level tail =>
        obtain ⟨rest_eq, distinct⟩ := readItems_eq_some_iff.1 tail
        split at found
        case isTrue => cases found
        case isFalse new =>
          cases found
          rw [rest_eq]
          refine ⟨?_, ?_⟩
          · rw [List.map_cons, itemOf, ← numbered_eq_some_iff.1 line, ← level]
          · simpa [distinct] using new
    · rintro ⟨items, distinct⟩
      cases read with
      | nil => cases items
      | cons y more =>
        rw [List.map_cons, List.cons.injEq] at items
        obtain ⟨rfl, rfl⟩ := items
        rw [List.map_cons, List.nodup_cons] at distinct
        obtain ⟨new, distinct⟩ := distinct
        have tail : readItems (more.map itemOf) = some more := readItems_eq_some_iff.2 ⟨rfl, distinct⟩
        have named_once : more.any (fun z => z.1 == y.1) = false := by
          simp only [List.any_eq_false, beq_iff_eq]
          exact fun z mem same => new (List.mem_map.2 ⟨z, mem, same⟩)
        simp only [readItems, itemOf, numbered_val, tail, named_once, Bool.false_eq_true, if_false]

theorem map_line_itemOf (read : List (LineId × Level)) :
    (read.map itemOf).map (·.line) = (read.map (·.1)).map (fun l => l.val + 1) := by
  simp [itemOf, Function.comp_def]

theorem injective_line : Function.Injective (fun l : LineId => l.val + 1) := fun _ _ h => Fin.ext (Nat.succ.inj h)

/-- Items with lines in range and known levels, each line named once, are read. -/
theorem exists_readItems {items : List ReportItem}
    (valid : ∀ x ∈ items, ∃ (l : LineId) (lev : Level), x = ⟨l.val + 1, some lev⟩) (distinct : (items.map (·.line)).Nodup) :
    ∃ read, readItems items = some read := by
  have listed : ∀ (xs : List ReportItem), (∀ x ∈ xs, ∃ (l : LineId) (lev : Level), x = ⟨l.val + 1, some lev⟩) →
      ∃ read : List (LineId × Level), xs = read.map itemOf := by
    intro xs
    induction xs with
    | nil => exact fun _ => ⟨[], rfl⟩
    | cons x xs ih =>
      intro valid
      obtain ⟨l, lev, rfl⟩ := valid x List.mem_cons_self
      obtain ⟨more, rfl⟩ := ih fun y mem => valid y (List.mem_cons_of_mem _ mem)
      exact ⟨(l, lev) :: more, rfl⟩
  obtain ⟨read, rfl⟩ := listed items valid
  refine ⟨read, readItems_eq_some_iff.2 ⟨rfl, ?_⟩⟩
  rw [map_line_itemOf] at distinct
  exact distinct.of_map _

theorem readItems_eq_none {items : List ReportItem}
    (bad : (∃ x ∈ items, x.line = 0 ∨ 8 < x.line ∨ x.level = none) ∨ ¬ (items.map (·.line)).Nodup) : readItems items = none := by
  rw [Option.eq_none_iff_forall_ne_some]
  intro read found
  obtain ⟨rfl, distinct⟩ := readItems_eq_some_iff.1 found
  rcases bad with ⟨x, mem, bad⟩ | twice
  · obtain ⟨y, _, rfl⟩ := List.mem_map.1 mem
    have bound := y.1.isLt
    rcases bad with zero | beyond | unknown
    · exact Nat.succ_ne_zero _ zero
    · simp only [itemOf] at beyond; omega
    · cases unknown
  · rw [map_line_itemOf] at twice
    exact twice (distinct.map injective_line)

/-! ## Fields out of range -/

theorem checkLine_eq_none {f : LineForm} (h : f.polarity = none ∨ f.period ∉ [2, 20, 80, 320] ∨ f.source = none) :
    checkLine f = none := by
  unfold checkLine
  split
  case h_1 polarity source named_polarity named_source =>
    have unlisted : f.period ∉ [2, 20, 80, 320] := by simpa [named_polarity, named_source] using h
    have no_period : isPeriod f.period = false := by simpa [isPeriod] using unlisted
    simp [no_period]
  case h_2 => rfl

theorem checkGenset_eq_none {f : GensetForm} (h : f.enabled = none ∨ 200000 < f.allocation) : checkGenset f = none := by
  unfold checkGenset
  split
  case h_1 enabled named => exact if_neg (Nat.not_le.2 (h.resolve_left (by simp [named])))
  case h_2 => rfl

theorem checkIndicator_eq_none {f : IndFullForm} (h : f.source = none ∨ f.invert = none ∨ f.direct = none) :
    checkIndicator f = none := by
  unfold checkIndicator
  split
  case h_1 source invert direct named_source named_invert named_direct =>
    simp [named_source, named_invert, named_direct] at h
  case h_2 => rfl

theorem savePlanFields_eq_none {b0 b1 b2 b3 flag : Byte} (h : 1 < flag.toNat) : savePlanFields [b0, b1, b2, b3, flag] = none := by
  have not_zero : flag ≠ 0 := by rintro rfl; simp at h
  have not_one : flag ≠ 1 := by rintro rfl; simp at h
  simp only [savePlanFields, not_zero, not_one, if_false]

/-- A configuration request with a field out of range. -/
theorem exec_of_outOfRange_halted {s : State} (h : Taking s) (writable : Writable s) {c : Instr} {k : ReqKind} {tag : Byte}
    {rule inner : State → Taken} (runs : exec c s = .next (takeRequest s k tag rule)) (tested : ∀ x, rule x = inHalted x inner)
    (refuses : ∀ x, inner x = refuse x .outOfRange) : exec c s = .next (replied s k tag .outOfRange .nothing) :=
  exec_of_refusal h runs
    ((tested _).trans ((inHalted_of_writable (s := setFramer s .hunting) writable _).trans (refuses _)))

theorem exec_of_outOfRange {s : State} {c : Instr} {k : ReqKind} {tag : Byte} (h : Taking s) (out : OutOfRange s c k tag) :
    exec c s = .next (replied s k tag .outOfRange .nothing) := by
  rcases out with ⟨writable, out⟩ | ⟨rfl, rfl⟩ | ⟨f, rfl, rfl, out⟩ | ⟨f, rfl, rfl, out⟩ | ⟨f, rfl, rfl, out⟩
    | ⟨armed, n, out, request⟩ | ⟨n, out, request⟩ | ⟨rfl, rfl⟩ | ⟨f, r, rfl, rfl, record, out⟩ | ⟨items, rfl, rfl, low, high, out⟩
  · rcases out with ⟨f, rfl, rfl, out⟩ | ⟨f, rfl, rfl, low, high, out⟩ | ⟨n, rfl, rfl, out⟩ | ⟨f, rfl, rfl, out⟩ | ⟨f, rfl, rfl, out⟩
      | ⟨f, rfl, rfl, out⟩ | ⟨b0, b1, b2, b3, flag, rfl, rfl, out⟩
    · have bad : checkLimits f = none := by simpa [← checkLimits_isSome_iff_fit] using out
      exact exec_of_outOfRange_halted h writable rfl (fun _ => rfl) fun x => by simp only [bad]
    · have fits : within 1 4 f.ranges.length = true := (within_iff _ _ _).2 ⟨low, high⟩
      refine exec_of_outOfRange_halted h writable rfl (fun x => by rw [withBody, ruleSetCar, if_pos fits, storeCarForm]) fun x => ?_
      rcases out with out | out | out
      · simp only [numbered_eq_none (.inl out)]
      · simp only [numbered_eq_none (.inr out)]
      · have bad : checkProfile f = none := by simpa [← checkProfile_isSome_iff_fits] using out
        simp only [bad]
        cases numbered 48 f.car <;> rfl
    · exact exec_of_outOfRange_halted h writable rfl (fun _ => rfl) fun x => by simp only [numbered_eq_none out]
    · refine exec_of_outOfRange_halted h writable rfl (fun _ => rfl) fun x => ?_
      rcases out with out | out | out
      · simp only [numbered_eq_none (.inl out)]
      · simp only [numbered_eq_none (.inr out)]
      · simp only [checkGenset_eq_none out]
        cases numbered 4 f.set <;> rfl
    · refine exec_of_outOfRange_halted h writable rfl (fun _ => rfl) fun x => ?_
      rcases out with out | out | out
      · simp only [numbered_eq_none (.inl out)]
      · simp only [numbered_eq_none (.inr out)]
      · simp only [checkLine_eq_none out]
        cases numbered 8 f.line <;> rfl
    · refine exec_of_outOfRange_halted h writable rfl (fun _ => rfl) fun x => ?_
      rcases out with out | out | out
      · simp only [numbered_eq_none (.inl out)]
      · simp only [numbered_eq_none (.inr out)]
      · simp only [checkIndicator_eq_none out]
        cases numbered 2 f.line <;> rfl
    · exact exec_of_outOfRange_halted h writable rfl (fun x => by rw [ruleSavePlan, if_pos (by rfl)])
        fun x => by simp only [savePlanFields_eq_none out]
  · exact exec_of_refusal h rfl rfl
  · refine exec_of_refusal h rfl ?_
    rcases out with out | out | out
    · simp only [withBody, ruleIndicatorValue, numbered_eq_none (.inl out), refuse]
    · simp only [withBody, ruleIndicatorValue, numbered_eq_none (.inr out), refuse]
    · simp only [withBody, ruleIndicatorValue, out, refuse]
      cases numbered 2 f.line <;> rfl
  · exact exec_of_refusal h rfl (by simp only [withBody, ruleTrimSet, numbered_eq_none out, refuse])
  · refine exec_of_refusal h rfl ?_
    rcases out with out | out | out
    · simp only [withBody, ruleServiceCount, numbered_eq_none (.inl out), refuse]
    · simp only [withBody, ruleServiceCount, numbered_eq_none (.inr out), refuse]
    · simp only [withBody, ruleServiceCount, Nat.not_le.2 out, if_false, refuse]
      split <;> rfl
  · have armed' : (setFramer s .hunting).plan.state ≠ .halted := armed
    rcases request with ⟨rfl, rfl⟩ | ⟨rfl, rfl⟩
    · exact exec_of_refusal h rfl (by simp only [withBody, ruleHoldOut, ofCar, armed', if_false, numbered_eq_none out, refuse])
    · exact exec_of_refusal h rfl (by simp only [withBody, ruleReadmit, ofCar, armed', if_false, numbered_eq_none out, refuse])
  · rcases request with ⟨rfl, rfl⟩ | ⟨rfl, rfl⟩ | ⟨rfl, rfl⟩
    · exact exec_of_refusal h rfl (by simp only [withBody, ruleQueryCar, numbered_eq_none out, refuse])
    · exact exec_of_refusal h rfl (by simp only [withBody, ruleEntries, numbered_eq_none out, refuse])
    · have beyond : within 1 48 n = false := by rw [← Bool.not_eq_true, within_iff]; omega
      exact exec_of_refusal h rfl (by simp only [withBody, ruleQueryQueue, beyond, Bool.false_eq_true, if_false, refuse])
  · exact exec_of_refusal h rfl rfl
  · have record' : (setFramer s .hunting).hist.capture = some r := record
    have beyond : (decide (f.offset < r.length) && within 1 Config.samplesPerReply f.count) = false := by
      rw [← Bool.not_eq_true, Bool.and_eq_true, decide_eq_true_iff, within_iff, CaptureRecord.length, Config.samplesPerReply]
      omega
    exact exec_of_refusal h rfl
      (by simp only [withBody, ruleReadHistory, record', beyond, Bool.false_eq_true, if_false, refuse])
  · have fits : within 1 8 items.length = true := (within_iff _ _ _).2 ⟨low, high⟩
    exact exec_of_refusal h rfl (by simp only [withBody, ruleLineReport, fits, if_true, readItems_eq_none out, refuse])

/-! ## States that do not let a request in -/

theorem exec_of_wrongState {s : State} {c : Instr} {k : ReqKind} {tag : Byte} (h : Taking s) (wrong : WrongState s c k tag) :
    exec c s = .next (replied s k tag .wrongState .nothing) := by
  rcases wrong with ⟨rfl, rfl, not_watching, not_outage⟩ | ⟨halted, n, request⟩ | ⟨rfl, rfl, closed⟩
    | ⟨items, rfl, rfl, low, high, valid, distinct, x, mem, l, line, wired⟩
  · have no_halt : mayHalt (setFramer s .hunting).plan.state = false := by
      simpa [mayHalt, setFramer] using And.intro not_watching not_outage
    exact exec_of_refusal h rfl (by simp only [bare, List.isEmpty_nil, if_true, ruleHalt, no_halt, Bool.false_eq_true, if_false, refuse])
  · have halted' : (setFramer s .hunting).plan.state = .halted := halted
    rcases request with ⟨rfl, rfl⟩ | ⟨rfl, rfl⟩
    · exact exec_of_refusal h rfl (by simp only [withBody, ruleHoldOut, ofCar, halted', if_true, refuse])
    · exact exec_of_refusal h rfl (by simp only [withBody, ruleReadmit, ofCar, halted', if_true, refuse])
  · have shut : (setFramer s .hunting).plan.state = .halted ∨ (!(setFramer s .hunting).setup.limits.onHost) = true := by
      simpa [setFramer] using closed
    exact exec_of_refusal h rfl (by simp only [bare, List.isEmpty_nil, if_true, ruleCapture, shut, refuse])
  · have fits : within 1 8 items.length = true := (within_iff _ _ _).2 ⟨low, high⟩
    obtain ⟨read, found⟩ := exists_readItems valid distinct
    have some_wired : read.any (fun y => (lineSettings (setFramer s .hunting) y.1).source == .wired) = true := by
      obtain ⟨rfl, _⟩ := readItems_eq_some_iff.1 found
      obtain ⟨y, in_read, rfl⟩ := List.mem_map.1 mem
      have of_line : y.1 = l := injective_line line
      rw [List.any_eq_true]
      exact ⟨y, in_read, by rw [of_line]; exact beq_iff_eq.2 wired⟩
    exact exec_of_refusal h rfl (by simp only [withBody, ruleLineReport, fits, if_true, found, some_wired, refuse])

/-! ## RELEASE-GROUP (R143) -/

theorem granting_iff (s : State) : granting s = true ↔ Granting s := by simp [granting, Granting]

theorem readiness_eq (s : State) : readiness s = readinessNow s := by
  unfold readiness readinessNow
  congr 1
  · rw [Bool.eq_iff_iff]; simp [granting]
  · rw [Bool.eq_iff_iff, settled_iff, decide_eq_true_iff]
  · rw [Bool.eq_iff_iff]; simp [overcommitted]
  · rw [Bool.eq_iff_iff]
    simp [startingCount, List.filter_eq_nil_iff, starting_iff]
  · rw [Bool.eq_iff_iff]; simp

theorem groupView_eq (s : State) : groupView (setFramer s .hunting) = .group ⟨s.ret.group, readinessNow s⟩ := by
  rw [← readiness_eq]; rfl

theorem readiness_all_iff (r : Readiness) : r.all = true ↔ r = ⟨true, true, true, true, true, true, true⟩ := by
  cases r
  simp [Readiness.all, and_assoc]

/-- Settles O53: each kind of refusal by the test that its rule fails. -/
theorem refusalsChangeNothing : Obligations.RefusalsChangeNothing := by
  refine ⟨fun s c k tag taking => ⟨fun form out => ?_, fun form halted busy => ?_, fun f writable fault => ?_,
    exec_of_badBody taking, exec_of_outOfRange taking, exec_of_wrongState taking, fun d armed dropped request => ?_,
    fun b some_body => ?_, fun shut => ?_, fun grants grouped host unready => ?_⟩, checkLimits_isSome_iff_fit,
    checkProfile_isSome_iff_fits⟩
  · obtain ⟨rule, inner, runs, tested⟩ := exec_of_haltedForm s form
    exact exec_of_refusal taking runs ((tested _).trans (inHalted_outside (s := setFramer s .hunting) out _))
  · obtain ⟨rule, inner, runs, tested⟩ := exec_of_haltedForm s form
    exact exec_of_refusal taking runs ((tested _).trans (inHalted_of_saving (s := setFramer s .hunting) halted busy _))
  · have fault' : commission (setFramer s .hunting).setup = some f := fault
    refine exec_of_refusal taking rfl ?_
    rw [PlantLines.bare_nil, ruleArm, inHalted_of_writable (s := setFramer s .hunting) writable]
    simp only [fault']
  · have armed' : (setFramer s .hunting).plan.state ≠ .halted := armed
    have dropped' : enrolled (setFramer s .hunting) d = false := dropped
    rcases request with ⟨rfl, rfl⟩ | ⟨rfl, rfl⟩
    · exact exec_of_refusal taking rfl
        (by simp only [withBody, ruleHoldOut, ofCar, armed', if_false, numbered_val, dropped', Bool.false_eq_true, refuse])
    · exact exec_of_refusal taking rfl
        (by simp only [withBody, ruleReadmit, ofCar, armed', if_false, numbered_val, dropped', Bool.false_eq_true, refuse])
  · have not_bare : b.isEmpty = false := by simpa using some_body
    exact exec_of_refusal taking rfl (by simp only [not_bare, Bool.false_eq_true, if_false, groupView_eq])
  · refine exec_of_refusal taking rfl ?_
    simp only [List.isEmpty_nil, if_true, ruleReleaseGroup, groupView_eq]
    by_cases grants : granting (setFramer s .hunting) = true
    · have closed : (setFramer s .hunting).setup.limits.returnMode = .paced
          ∨ (setFramer s .hunting).setup.limits.releaseSource = .timer :=
        shut.resolve_left (not_not_intro ((granting_iff (setFramer s .hunting)).1 grants))
      simp only [grants, Bool.not_true, Bool.false_eq_true, if_false, closed, if_true]
    · simp only [Bool.not_eq_true] at grants
      simp only [grants, Bool.not_false, if_true]
  · refine exec_of_refusal taking rfl ?_
    have grants' : granting (setFramer s .hunting) = true := (granting_iff _).2 grants
    have opens : ¬ ((setFramer s .hunting).setup.limits.returnMode = .paced
        ∨ (setFramer s .hunting).setup.limits.releaseSource = .timer) := by simp [setFramer, grouped, host]
    have not_all : (readiness (setFramer s .hunting)).all = false := by
      rw [← Bool.not_eq_true, readiness_all_iff, readiness_eq]
      exact unready
    simp only [List.isEmpty_nil, if_true, ruleReleaseGroup, grants', Bool.not_true, Bool.false_eq_true, if_false, opens, not_all,
      Bool.not_false, Bool.or_true, groupView_eq]

end Sys2Proof.Proofs.MessagePort
end
section
/-! PROOFS. How an event ends when no block grants: the plan's exits (R113), the arbiters and the indication lines; and the report
queue as a record of what was queued (R173, R174). -/

namespace Sys2Proof.Proofs.Ends

open Sys2Proof.Machine Sys2Proof.Safety Sys2Proof.Proofs.Upkeep Sys2Proof.Proofs.IndicationLines

/-! ## The exits of the plan (R113) -/

theorem utilPresent_iff (s : State) : utilPresent s = true ↔ effective s utilLine = .active := isActive_iff s utilLine

theorem retxActive_iff (s : State) : retxActive s = true ↔ effective s retxLine = .active := isActive_iff s retxLine

theorem not_active_iff {x : Level} : ¬ x = .active ↔ x = .inactive := by cases x <;> decide

theorem setAvailable_iff (s : State) : setAvailable s = true ↔ ∃ n, (s.cap.sets.at n).status ≠ .offline := by
  simp only [setAvailable, List.any_eq_true, bne_iff_ne, Table.mem_toList_iff]
  exact ⟨fun ⟨_, ⟨n, here⟩, on⟩ => ⟨n, here ▸ on⟩, fun ⟨n, on⟩ => ⟨_, ⟨n, rfl⟩, on⟩⟩

theorem anyReturnEntry_eq_false_iff (s : State) : anyReturnEntry s = false ↔ ∀ e ∈ s.acct.entries, e.kind ≠ .returning := by
  simp [anyReturnEntry]

theorem anyEntryToStop_iff (s : State) : anyEntryToStop s = true ↔ ∃ e ∈ s.acct.entries, e.kind ≠ .standing := by
  simp [anyEntryToStop]

theorem generatorStays_iff (s : State) : GeneratorStays s ↔ mustRestore s = false ∧ setAvailable s = true := by
  rw [setAvailable_iff, mustRestore, Bool.or_eq_false_iff, ← Bool.not_eq_true, ← Bool.not_eq_true, retxActive_iff, utilPresent_iff,
    not_active_iff, not_active_iff, and_assoc]
  rfl

/-- No exit is taken exactly while none has its condition met (the table of R113). -/
theorem planExit_eq_none_iff (s : State) : planExit s = none ↔ NoExit s := by
  have available := setAvailable_iff s
  have stays := generatorStays_iff s
  have util := utilPresent_iff s
  have retx := retxActive_iff s
  have returns := anyReturnEntry_eq_false_iff s
  have to_stop := anyEntryToStop_iff s
  have util_off : effective s utilLine = .inactive ↔ utilPresent s = false := by
    rw [← not_active_iff, ← Bool.not_eq_true, util]
  have none_available : (∀ n, (s.cap.sets.at n).status = .offline) ↔ setAvailable s = false := by
    rw [← Bool.not_eq_true, available]; simp
  unfold NoExit
  rw [util_off, ← util, ← retx, none_available, stays, ← available, ← returns, ← to_stop, ← settled_iff]
  unfold planExit
  cases state : s.plan.state with
  | halted => simp
  | watching => cases utilPresent s <;> cases setAvailable s <;> simp
  | outage => cases utilPresent s <;> cases setAvailable s <;> simp
  | settling =>
    cases mustRestore s <;> cases setAvailable s <;> simp [and_assoc]
  | returning =>
    cases mustRestore s <;> cases setAvailable s <;> simp [and_assoc]
  | service => cases mustRestore s <;> cases setAvailable s <;> simp
  | restoring =>
    cases utilPresent s <;> cases setAvailable s <;> cases retxActive s <;> cases anyEntryToStop s <;>
      by_cases lapsed : s.plan.restore = .lapsed <;> simp [lapsed]

theorem planSteps_of_noExit {w : Work} (h : planExit w.st = none) (fuel : Nat) : planSteps fuel w = w := by
  cases fuel with
  | zero => rfl
  | succ fuel => simp [planSteps, h]

theorem planRun_of_noExit {w : Work} (h : planExit w.st = none) : planRun w = w := planSteps_of_noExit h 8

/-- One exit is taken, after which none has its condition met. -/
theorem planRun_of_exit {w : Work} {dest : PlanState} {cause : PlanCause} (exits : planExit w.st = some (dest, cause))
    (rests : planExit (transition w dest cause).st = none) : planRun w = transition w dest cause := by
  simp only [planRun, planSteps, exits, rests]

/-- Two exits are taken, after which none has its condition met. -/
theorem planRun_of_exits {w : Work} {d1 d2 : PlanState} {c1 c2 : PlanCause} (exits : planExit w.st = some (d1, c1))
    (again : planExit (transition w d1 c1).st = some (d2, c2))
    (rests : planExit (transition (transition w d1 c1) d2 c2).st = none) :
    planRun w = transition (transition w d1 c1) d2 c2 := by
  simp only [planRun, planSteps, exits, again, rests]

/-! ## The end of an event when nothing is granted -/

theorem sequencerWork_of_not_granting {w : Work} (h : granting w.st = false) : sequencerWork w = w := by
  simp [sequencerWork, h]

theorem selectorWork_of_not_service {w : Work} (h : w.st.plan.state ≠ .service) : selectorWork w = w := by
  have cannot : maySelect w.st = false := by
    rw [← Bool.not_eq_true]
    exact fun may => h (service_of_maySelect may)
  simp [selectorWork, cannot]

theorem not_service_of_not_granting {s : State} (h : granting s = false) : s.plan.state ≠ .service := by
  rintro service
  simp [granting, service] at h

theorem grantWork_of_not_granting {w : Work} (h : granting (planRun w).st = false) : grantWork w = planRun w := by
  unfold grantWork
  simp only [sequencerWork_of_not_granting h, selectorWork_of_not_service (not_service_of_not_granting h), ite_self]

/-- With no exit to take and nothing to grant, an event ends with a renewal, the arbiters and the indication lines. -/
theorem completeWith_of_resting {w : Work} (exits : planExit w.st = none) (idle : granting w.st = false) (renew : Option CarId) :
    completeWith w renew = driveLines (arbiters (renewFor w.st renew)) := by
  have runs := planRun_of_noExit exits
  rw [completeWith, grantWork_of_not_granting (by rw [runs]; exact idle), runs]

/-! ## The arbiters and the links alone -/

/-- Two states that differ in the Car Link Controller alone. -/
def LinkOnly (s t : State) : Prop := t = s.setLink t.link

theorem LinkOnly.refl (s : State) : LinkOnly s s := rfl

theorem LinkOnly.trans {s t u : State} (h : LinkOnly s t) (g : LinkOnly t u) : LinkOnly s u := by
  unfold LinkOnly at *; rw [g, h]; rfl

theorem linkOnly_alterLink (s : State) (c : CarId) (f : CarLink → CarLink) : LinkOnly s (alterLink s c f) := rfl

theorem linkOnly_setLinkLine (s : State) (k : Link) (l : LinkLine) : LinkOnly s (setLinkLine s k l) := by cases k <;> rfl

theorem linkOnly_placeCommand (s : State) (c : CarId) (k : CmdKind) (target permit : Option Nat) :
    LinkOnly s (placeCommand s c k target permit) := by
  unfold placeCommand
  split
  · exact linkOnly_alterLink _ _ _
  · exact LinkOnly.refl s

/-- URGENT exchanges in a row, once a choice's exchange has begun. -/
def runAfter (s : State) (k : Link) (x : Choice) : Nat := if x.urgent then (linkLine s k).urgentRun + 1 else 0

theorem beginExchange_of_command {s : State} {k : Link} {x : Choice} {cmd : Command} (h : sendable s x.car = some cmd) :
    beginExchange s k x = setLinkLine (alterLink s x.car (fun l => { l with slot := none })) k
      ⟨some ⟨x.car, .command { cmd with tries := cmd.tries + 1 }⟩, runAfter s k x⟩ := by
  simp [beginExchange, h, runAfter]

theorem beginExchange_of_poll {s : State} {k : Link} {x : Choice} (h : sendable s x.car = none) :
    beginExchange s k x = setLinkLine s k ⟨some ⟨x.car, .poll⟩, runAfter s k x⟩ := by
  simp [beginExchange, h, runAfter]

theorem linkOnly_beginExchange (s : State) (k : Link) (x : Choice) : LinkOnly s (beginExchange s k x) := by
  cases command : sendable s x.car with
  | some cmd =>
    rw [beginExchange_of_command command]
    exact (linkOnly_alterLink _ _ _).trans (linkOnly_setLinkLine _ _ _)
  | none =>
    rw [beginExchange_of_poll command]
    exact linkOnly_setLinkLine _ _ _

theorem linkOnly_arbitrate (s : State) (k : Link) : LinkOnly s (arbitrate s k) := by
  unfold arbitrate
  split
  · split
    · exact linkOnly_beginExchange _ _ _
    · exact LinkOnly.refl s
  · exact LinkOnly.refl s

theorem linkOnly_arbiters (s : State) : LinkOnly s (arbiters s) :=
  (linkOnly_arbitrate s .a).trans (linkOnly_arbitrate _ .b)

theorem linkOnly_renewFor (s : State) (renew : Option CarId) : LinkOnly s (renewFor s renew) := by
  unfold renewFor renewStop
  split
  · split
    · exact linkOnly_placeCommand _ _ _ _ _
    · exact LinkOnly.refl s
  · exact LinkOnly.refl s

theorem driveLines_of_linkOnly {s t : State} (h : LinkOnly s t) :
    driveLines t = { s with link := t.link, inds := (driveLines t).inds } := by
  show { t with inds := (driveLines t).inds } = _
  generalize (driveLines t).inds = levels
  unfold LinkOnly at h
  rw [h]
  rfl

/-- The last part of an event changes the links and the indication levels alone. -/
theorem arbiters_driven (s : State) (renew : Option CarId) :
    driveLines (arbiters (renewFor s renew)) = { s with
      link := (arbiters (renewFor s renew)).link, inds := (driveLines (arbiters (renewFor s renew))).inds } :=
  driveLines_of_linkOnly ((linkOnly_renewFor s renew).trans (linkOnly_arbiters _))

theorem linkOnly_reports {s t : State} (h : LinkOnly s t) : t.port = s.port := by rw [h]; rfl

/-- A link that carries an exchange is left as it is. -/
theorem arbitrate_of_busy {s : State} {k : Link} (busy : (linkLine s k).exchange.isSome = true) : arbitrate s k = s := by
  have not_free : (linkLine s k).exchange.isNone = false := by
    rwa [← Option.not_isSome, Bool.not_eq_false'] at *
  simp [arbitrate, not_free]

/-- A link without cars is left as it is. -/
theorem arbitrate_of_no_cars {s : State} {k : Link} (none : linkCars s k = []) : arbitrate s k = s := by
  have no_choice : choose s k = Option.none := by
    simp [choose, otherChoice, urgentCars, dueCars, normalCars, none, eldest]
  simp [arbitrate, no_choice]

theorem arbitrate_of_linksBusy {s : State} (busy : LinksBusy s) (driven : s.plan.state ≠ .halted) (k : Link) : arbitrate s k = s := by
  cases cars : linkCars s k with
  | nil => exact arbitrate_of_no_cars cars
  | cons c rest =>
    obtain ⟨listed, on_link⟩ := mem_linkCars.1 (cars ▸ List.mem_cons_self : c ∈ linkCars s k)
    exact arbitrate_of_busy (on_link ▸ busy driven c listed)

theorem arbiters_of_linksBusy {s : State} (busy : LinksBusy s) (driven : s.plan.state ≠ .halted) : arbiters s = s := by
  rw [arbiters, arbitrate_of_linksBusy busy driven, arbitrate_of_linksBusy busy driven]

/-! ## What has been queued (R173, R174) -/

theorem reportsQueued_refl (s : State) : ReportsQueued s s [] := ⟨rfl, rfl⟩

theorem append_reports_congr {p q : Port} (reports : p.reports = q.reports) (gap : p.gapFlag = q.gapFlag) (r : Report) :
    (p.append r).reports = (q.append r).reports ∧ (p.append r).gapFlag = (q.append r).gapFlag := by
  unfold Port.append
  rw [reports]
  split
  · exact ⟨rfl, gap⟩
  · split
    · exact ⟨rfl, gap⟩
    · exact ⟨rfl, rfl⟩

/-- Where a report goes depends on the report queue and the gap flag alone. -/
theorem place_reports_congr {p q : Port} (reports : p.reports = q.reports) (gap : p.gapFlag = q.gapFlag) (r : Report) :
    (p.place r).reports = (q.place r).reports ∧ (p.place r).gapFlag = (q.place r).gapFlag := by
  unfold Port.place
  rw [reports]
  split
  · split
    · exact ⟨rfl, gap⟩
    · exact append_reports_congr reports gap r
  · exact append_reports_congr reports gap r

theorem reportsQueued_report {s t : State} {rs : List Report} (h : ReportsQueued s t rs) (r : Report) :
    ReportsQueued s (queueReport t r) (rs ++ [r]) := by
  unfold ReportsQueued
  rw [List.foldl_append]
  exact place_reports_congr h.1 h.2 r

theorem reportsQueued_of_port {s t u : State} {rs : List Report} (h : ReportsQueued s t rs) (reports : u.port.reports = t.port.reports)
    (gap : u.port.gapFlag = t.port.gapFlag) : ReportsQueued s u rs := by
  unfold ReportsQueued at *
  rw [reports, gap]
  exact h

theorem reportsQueued_from {s t u : State} {rs : List Report} (h : ReportsQueued s t rs) (reports : u.port.reports = s.port.reports)
    (gap : u.port.gapFlag = s.port.gapFlag) : ReportsQueued u t rs := by
  have same : ∀ (l : List Report) (p q : Port), p.reports = q.reports → p.gapFlag = q.gapFlag →
      (l.foldl Port.place p).reports = (l.foldl Port.place q).reports
        ∧ (l.foldl Port.place p).gapFlag = (l.foldl Port.place q).gapFlag := by
    intro l
    induction l with
    | nil => exact fun _ _ reports gap => ⟨reports, gap⟩
    | cons r l ih =>
      intro p q reports gap
      obtain ⟨reports, gap⟩ := place_reports_congr reports gap r
      exact ih _ _ reports gap
  obtain ⟨same_reports, same_gap⟩ := same rs u.port s.port reports gap
  exact ⟨h.1.trans same_reports.symm, h.2.trans same_gap.symm⟩

/-- These reports, and perhaps more after them, were queued. -/
def QueuedFirst (s : State) (rs : List Report) (t : State) : Prop := ∃ rest, ReportsQueued s t (rs ++ rest)

/-- A property that a queued report leaves, and every change that leaves the report queue and gap flag. -/
theorem closed_of_port {P : State → Prop} (report : ∀ {t : State} {r : Report}, P t → P (queueReport t r))
    (port : ∀ {t u : State}, u.port = t.port → P t → P u) : Closed P where
  car _ := port rfl
  carsAll _ := port rfl
  link := port rfl
  hist := port rfl
  plan := port rfl
  ret := port rfl
  svc _ := port rfl
  inds := port rfl
  report := report
  add _ := port rfl
  change _ _ := port rfl
  remove := port rfl
  cleared := port rfl
  flags _ _ _ _ := port rfl

theorem closed_queuedFirst (s : State) (rs : List Report) : Closed (QueuedFirst s rs) :=
  closed_of_port (fun {_ r} ⟨rest, queued⟩ => ⟨rest ++ [r], by rw [← List.append_assoc]; exact reportsQueued_report queued r⟩)
    (fun same ⟨rest, queued⟩ => ⟨rest, reportsQueued_of_port queued (by rw [same]) (by rw [same])⟩)

/-- Once a report with the properties `p` has been queued, it stays so. -/
theorem closed_reported (s : State) (p : Report → Prop) :
    Closed (fun t => ∃ earlier rep later, ReportsQueued s t (earlier ++ rep :: later) ∧ p rep) :=
  closed_of_port
    (fun {_ r} ⟨earlier, rep, later, queued, holds⟩ =>
      ⟨earlier, rep, later ++ [r], by have := reportsQueued_report queued r; simpa using this, holds⟩)
    (fun same ⟨earlier, rep, later, queued, holds⟩ =>
      ⟨earlier, rep, later, reportsQueued_of_port queued (by rw [same]) (by rw [same]), holds⟩)

/-! ## Reports alone -/

/-- Two states that differ in the Message Port alone. -/
def PortOnly (s t : State) : Prop := t = s.setPort t.port

theorem PortOnly.refl (s : State) : PortOnly s s := rfl

theorem PortOnly.trans {s t u : State} (h : PortOnly s t) (g : PortOnly t u) : PortOnly s u := by
  unfold PortOnly at *; rw [g, h]; rfl

theorem portOnly_queueReport (s : State) (r : Report) : PortOnly s (queueReport s r) := rfl

theorem portOnly_reportCar (s : State) (c : CarId) (old : Option CarRecord) (cause : CarCause) (decline : Option Decline) :
    PortOnly s (reportCar s c old cause decline) := by
  unfold reportCar
  split
  · split
    · exact portOnly_queueReport _ _
    · exact PortOnly.refl s
  · exact PortOnly.refl s

theorem portOnly_reportAlways (s : State) (c : CarId) (old : Option CarRecord) (cause : CarCause) :
    PortOnly s (reportAlways s c old cause) := by
  unfold reportAlways
  split
  · exact portOnly_queueReport _ _
  · exact PortOnly.refl s

theorem portOnly_reportChanged (s : State) (old : Table (Option CarRecord) 48) (cause : CarCause) :
    PortOnly s (reportChanged s old cause) :=
  Account.foldl_rel PortOnly.refl PortOnly.trans (fun x c => portOnly_reportCar x c _ _ _) _ _

theorem portOnly_reportPosition (s : State) (c : CarId) (old new : CarRecord) : PortOnly s (reportPosition s c old new) := by
  unfold reportPosition
  split
  · exact portOnly_queueReport _ _
  · exact PortOnly.refl s

theorem closed_movedState {P : State → Prop} (H : Closed P) {s : State} {dest : PlanState} {cause : PlanCause}
    (begun : P (queueReport s (planReport s dest cause))) : P (movedState s dest cause) := by
  unfold movedState
  extract_lets s1 ctl s2 s3
  have driven : P s3 := by
    unfold s3
    split
    · exact closed_startSampling H (closed_driveLinks H (H.plan begun))
    · exact H.plan begun
  split
  · exact driven
  · exact closed_clearParks H driven

theorem movedState_fixed (s : State) (dest : PlanState) (cause : PlanCause) : (movedState s dest cause).fixed = s.fixed :=
  closed_movedState (closed_fixed s.fixed) (queueReport_fixed _ _)

/-- A transition's PLAN-STATE report is the first that it queues. -/
theorem transition_queuedFirst (w : Work) (dest : PlanState) (cause : PlanCause) :
    QueuedFirst w.st [planReport w.st dest cause] (transition w dest cause).st := by
  have H := closed_queuedFirst w.st [planReport w.st dest cause]
  have moved : QueuedFirst w.st [planReport w.st dest cause] (movedState w.st dest cause) :=
    closed_movedState H ⟨[], reportsQueued_report (reportsQueued_refl w.st) _⟩
  have entered : QueuedFirst w.st [planReport w.st dest cause]
      (enter (w.up (fun s => movedState s dest cause)) w.st.plan.state dest (parksOut w.st)).st := closed_enter H moved
  rw [transition_eq]
  show QueuedFirst w.st _ (if dest = .returning then _ else _)
  split
  · exact entered
  · exact closed_reportChanged H entered

/-- A report that is no CAR-POSITION stays at the head of the queue. -/
theorem place_head {p : Port} {r x : Report} {rest : List Report} (head : p.reports = r :: rest) (stays : r.positionOf = none) :
    ∃ more, (p.place x).reports = r :: more := by
  have appended : ∃ more, (p.append x).reports = r :: more := by
    unfold Port.append
    rw [head]
    split
    · exact ⟨rest ++ [x], rfl⟩
    · simp only [dropOldestPosition, stays, Option.isSome_none, Bool.false_eq_true, if_false]
      cases dropOldestPosition rest with
      | none => exact ⟨rest, rfl⟩
      | some l => exact ⟨l ++ [x], rfl⟩
  unfold Port.place
  rw [head]
  split
  · rename_i c _
    simp only [replacePosition, stays, reduceCtorEq, if_false]
    cases replacePosition c x rest with
    | none => exact appended
    | some l => exact ⟨l, rfl⟩
  · exact appended

theorem foldl_place_head {r : Report} (stays : r.positionOf = none) : ∀ (rs : List Report) {p : Port},
    (∃ rest, p.reports = r :: rest) → ∃ rest, (rs.foldl Port.place p).reports = r :: rest
  | [], _, head => head
  | _ :: rs, _, ⟨_, head⟩ => foldl_place_head stays rs (place_head head stays)

theorem reports_of_queuedFirst {s t : State} {r : Report} (queued : QueuedFirst s [r] t) (empty : s.port.reports = [])
    (stays : r.positionOf = none) : ∃ rest, t.port.reports = r :: rest := by
  obtain ⟨rest, reports, _⟩ := queued
  rw [reports]
  exact foldl_place_head stays rest (p := s.port.place r) (by simp [Port.place, stays, Port.append, empty, Config.reportRoom])

/-! ## What the fixed part says -/

/-- What stands when nothing but the Capacity Unit, of the fixed part, has changed. -/
theorem kept_of_fixed {s t : State} (h : t.fixed = { s.fixed with cap := t.cap }) : SettingsKept s t ∧ HostSideKept s t := by
  have part {α : Type} (f : Fixed → α) : f t.fixed = f { s.fixed with cap := t.cap } := congrArg f h
  exact ⟨⟨part Fixed.setup, part Fixed.lines, part Fixed.store, part Fixed.time, part Fixed.pending, part Fixed.counts⟩,
    part Fixed.rateInUse, part Fixed.framer, part Fixed.restart, part Fixed.replies, part Fixed.tx, part Fixed.dipFlag⟩

theorem kept_of_fixed_eq {s t : State} (h : t.fixed = s.fixed) : SettingsKept s t ∧ HostSideKept s t ∧ t.cap = s.cap := by
  have cap : t.cap = s.cap := congrArg Fixed.cap h
  obtain ⟨settings, host⟩ := kept_of_fixed (s := s) (t := t) (by rw [h, cap]; rfl)
  exact ⟨settings, host, cap⟩

theorem transition_fixed (w : Work) (dest : PlanState) (cause : PlanCause) : (transition w dest cause).st.fixed = w.st.fixed :=
  closed_transition (closed_fixed w.st.fixed) rfl

theorem planRun_fixed (w : Work) : (planRun w).st.fixed = w.st.fixed := closed_planRun (closed_fixed w.st.fixed) rfl

theorem handCapacity_fixed (w : Work) (c sink : Nat) : (handCapacity w c sink).st.fixed = w.st.fixed := by
  unfold handCapacity
  split
  · rfl
  · exact closed_handSheds (closed_fixed w.st.fixed) (closed_settleAccount (closed_fixed w.st.fixed) rfl)

theorem capacityEvent_fixed (w : Work) (f : State → State) : (capacityEvent w f).st.fixed = (recompute (f w.st)).fixed :=
  handCapacity_fixed (w.up (fun s => recompute (f s))) _ _

theorem effective_of_fixed {s t : State} (h : t.fixed = s.fixed) (l : LineId) : effective t l = effective s l := by
  have lines : t.lines = s.lines := congrArg Fixed.lines h
  unfold effective
  rw [lines]

/-! ## Arming (R117) -/

/-- The state in which an arm leaves the plan: by UTIL, the sets and RETX. -/
def armedIn (s : State) : PlanState :=
  if utilPresent s then .watching
  else if setAvailable s then (if retxActive s then .restoring else .settling)
  else .outage

/-- The readings of the lines and the sets that the exits test. -/
theorem exits_of_fixed {s t : State} (h : t.fixed = s.fixed) :
    utilPresent t = utilPresent s ∧ retxActive t = retxActive s ∧ setAvailable t = setAvailable s ∧ settled t = settled s := by
  have lines : t.lines = s.lines := congrArg Fixed.lines h
  have cap : t.cap = s.cap := congrArg Fixed.cap h
  simp only [utilPresent, retxActive, isActive, effective, setAvailable, settled, lines, cap, and_self]

/-- Armed, the plan rests in the state that the lines and sets call for, while the census keeps it from RETURN. -/
theorem armPlan_rests {w : Work}
    (counting : ¬ (w.st.cap.settle = none ∧ (transition w .settling .arm).st.plan.census = .complete ∧ 0 < w.st.cap.c)) :
    planExit (armPlan w).st = none ∧ (armPlan w).st.plan.state = armedIn w.st := by
  have state (dest : PlanState) := transition_plan_state w dest .arm
  have same (dest : PlanState) := exits_of_fixed (transition_fixed w dest .arm)
  have cap : (transition w .settling .arm).st.cap = w.st.cap := congrArg Fixed.cap (transition_fixed w .settling .arm)
  have result : ∀ {x : Work} {p : PlanState}, planRun (transition w (armState w.st) .arm) = x → planExit x.st = none →
      x.st.plan.state = p → p = armedIn w.st → planExit (armPlan w).st = none ∧ (armPlan w).st.plan.state = armedIn w.st := by
    rintro x p runs rests here rfl
    rw [armPlan, runs]
    exact ⟨rests, here⟩
  by_cases util : utilPresent w.st = true
  · have rests : planExit (transition w .watching .arm).st = none := by
      simp [planExit, state, (same .watching).1, util]
    have armed : armState w.st = .watching := if_pos util
    exact result (by rw [armed]; exact planRun_of_noExit rests) rests (state _) (by simp [armedIn, util])
  by_cases available : setAvailable w.st = true
  case neg =>
    have rests : planExit (transition w .outage .arm).st = none := by
      simp [planExit, state, (same .outage).1, (same .outage).2.2.1, util, available]
    have armed : armState w.st = .outage := by simp [armState, util, available]
    exact result (by rw [armed]; exact planRun_of_noExit rests) rests (state _) (by simp [armedIn, util, available])
  have armed : armState w.st = .settling := by simp [armState, util, available]
  obtain ⟨same_util, same_retx, same_sets, same_settled⟩ := same .settling
  by_cases retx : retxActive w.st = true
  · have exits : planExit (transition w .settling .arm).st = some (.restoring, .retransfer) := by
      simp [planExit, state, mustRestore, restoreCause, same_retx, retx]
    have again := exits_of_fixed (transition_fixed (transition w .settling .arm) .restoring .retransfer)
    have rests : planExit (transition (transition w .settling .arm) .restoring .retransfer).st = none := by
      simp [planExit, transition_plan_state, again, same_util, same_retx, same_sets, util, available, retx]
    exact result (by rw [armed]; exact planRun_of_exit exits rests) rests (transition_plan_state _ _ _)
      (by simp [armedIn, util, available, retx])
  · have rests : planExit (transition w .settling .arm).st = none := by
      have settled_eq : settled w.st = true ↔ w.st.cap.settle = none := settled_iff _
      simp only [planExit, state, mustRestore, same_util, same_retx, same_sets, same_settled, util, available, retx, cap]
      simpa [settled_eq, and_assoc] using counting
    exact result (by rw [armed]; exact planRun_of_noExit rests) rests (state _) (by simp [armedIn, util, available, retx])

theorem armedIn_not_granting {s : State} {t : State} (h : t.plan.state = armedIn s) : granting t = false := by
  unfold armedIn at h
  unfold granting
  rw [h]
  repeat' split
  all_goals rfl

/-- An arm's event ends with the links and the lines. -/
theorem complete_armPlan {w : Work}
    (counting : ¬ (w.st.cap.settle = none ∧ (transition w .settling .arm).st.plan.census = .complete ∧ 0 < w.st.cap.c)) :
    complete (armPlan w) = driveLines (arbiters (armPlan w).st) := by
  obtain ⟨rests, state⟩ := armPlan_rests counting
  exact completeWith_of_resting rests (armedIn_not_granting state) none

end Sys2Proof.Proofs.Ends
end
section
/-! PROOFS. The Plan Store and the resets (R179 to R186), RESTART (R176, R185), and the car profiles (R32 to R34). -/

namespace Sys2Proof.Proofs.PlanStore

open Sys2Proof.Machine Sys2Proof.Safety Sys2Proof.Proofs.Upkeep Sys2Proof.Proofs.IndicationLines Sys2Proof.Proofs.Ends

/-! ## The plan image (R179, R182) -/

theorem validImage_copyOf (su : Setup) : ValidImage (copyOf su) := ⟨rfl, .inl rfl, rfl, rfl⟩

theorem not_validImage_bare (su : Setup) : ¬ ValidImage { copyOf su with check := none } := fun ⟨_, _, _, check⟩ => nomatch check

theorem imageOf_checked (su : Setup) : imageOf su true = copyOf su := rfl

theorem imageOf_unchecked (su : Setup) : imageOf su false = { copyOf su with check := none } := rfl

theorem imageValid_iff (im : PlanImage) : imageValid im = true ↔ ValidImage im := by
  simp only [imageValid, readsVersion, Bool.and_eq_true, Bool.or_eq_true, beq_iff_eq, List.contains_iff_mem, ValidImage]
  tauto

theorem imageAtReset_of_stands {s : State} {cut : SaveCut} {x : StoredImage} (h : Stands s cut x) :
    imageAtReset s.store cut = x := by
  rcases h with ⟨idle, rfl⟩ | ⟨su, busy, ⟨rfl, rfl⟩ | ⟨rfl, rfl⟩ | ⟨bytes, rfl, rfl⟩⟩
  · simp [imageAtReset, idle]
  · simp [imageAtReset, busy, imageOf_unchecked]
  · simp only [imageAtReset, busy, imageOf_checked]; rfl
  · simp only [imageAtReset, busy, imageOf_checked]; rfl

theorem load_of_valid {im : PlanImage} (h : ValidImage im) : load (.written im) = ⟨im.contents, .valid, false, false, .loaded⟩ :=
  if_pos ((imageValid_iff im).2 h)

theorem load_of_invalid {im : PlanImage} (h : ¬ ValidImage im) : load (.written im) = ⟨Setup.empty, .invalid, true, true, .invalid⟩ :=
  if_neg (fun valid => h ((imageValid_iff im).1 valid))

/-! ## The power-on and external resets (R183) -/

/-- The state that a reset rebuilds from what the store holds, before any arm. -/
def resetState (k : ResetCase) (s : State) (x : StoredImage) : State :=
  rebuilt s.pending (load x).setup (k.hist s) (k.dip s)
    ⟨x, (load x).status, (load x).fault, (load x).modified, none, ⟨k.kind, (load x).result, .notCalled⟩⟩ (Table.const 2 .low)

theorem afterReset_eq (s : State) (kind : ResetKind) (x : StoredImage) (hist : History) (dip : Bool) :
    afterReset s kind x hist dip = rebuilt s.pending (load x).setup { hist with timer := none } dip
      ⟨x, (load x).status, (load x).fault, (load x).modified, none, ⟨kind, (load x).result, .notCalled⟩⟩ (Table.const 2 .low) := by
  have settle : Capacity.fresh (load x).setup 0
      = ⟨Table.const 4 ⟨100, .offline⟩, some (BitVec.ofNat 32 (load x).setup.limits.settle), 0, 0⟩ := by
    simp [Capacity.fresh, Time.plus]
  unfold afterReset rebuilt
  dsimp only
  rw [settle]
  rfl

/-- Both resets end with the rebuilt state, and the arm when it is called for. -/
theorem exec_of_resetCase {k : ResetCase} (case : k = powerOnCase ∨ k = externalCase) {cut : SaveCut} {s : State} {x : StoredImage}
    (stands : Stands s cut x) : exec (k.command cut) s = .next (endReset (resetState k s x)) := by
  rcases case with rfl | rfl
  · show Host.Outcome.next (endReset (afterReset s .powerOn (imageAtReset s.store cut) History.fresh true)) = _
    rw [imageAtReset_of_stands stands, afterReset_eq]
    rfl
  · show Host.Outcome.next (endReset (afterReset s .external (imageAtReset s.store cut) s.hist s.port.dipFlag)) = _
    rw [imageAtReset_of_stands stands, afterReset_eq]
    rfl

theorem endReset_of_no_arm {s : State} (halted : s.plan.state = .halted) (no_arm : autostarts s = false) :
    endReset s = driveLines s := by
  simp only [endReset, no_arm, Bool.false_eq_true, if_false]
  exact complete_halted (begin s) halted

theorem exec_reset_of_no_arm {k : ResetCase} (case : k = powerOnCase ∨ k = externalCase) {cut : SaveCut} {s : State}
    {x : StoredImage} (stands : Stands s cut x) (no_arm : autostarts (resetState k s x) = false) :
    ∃ t, exec (k.command cut) s = .next t ∧ LinesDriven t
      ∧ t = rebuilt s.pending (load x).setup (k.hist s) (k.dip s)
        ⟨x, (load x).status, (load x).fault, (load x).modified, none, ⟨k.kind, (load x).result, .notCalled⟩⟩ t.inds := by
  refine ⟨driveLines (resetState k s x), ?_, linesDriven_driveLines _, rfl⟩
  rw [exec_of_resetCase case stands, endReset_of_no_arm rfl no_arm]

/-- Settles O5: by what the load makes of the store, when no arm is called for. -/
theorem resetLoadsStore : Obligations.ResetLoadsStore := by
  refine ⟨fun su => ⟨validImage_copyOf su, not_validImage_bare su⟩, fun k case cut s x stands => ⟨?_, ?_, ?_⟩⟩
  · rintro rfl
    exact exec_reset_of_no_arm case stands rfl
  · rintro im rfl valid no_auto
    have no_arm : autostarts (resetState k s (.written im)) = false := by
      simp [autostarts, resetState, rebuilt, load_of_valid valid, no_auto]
    obtain ⟨t, runs, driven, ends⟩ := exec_reset_of_no_arm case stands no_arm
    rw [load_of_valid valid] at ends
    exact ⟨t, runs, driven, ends⟩
  · rintro im rfl invalid
    have no_arm : autostarts (resetState k s (.written im)) = false := by
      simp [autostarts, resetState, rebuilt, load_of_invalid invalid]
    obtain ⟨t, runs, driven, ends⟩ := exec_reset_of_no_arm case stands no_arm
    rw [load_of_invalid invalid] at ends
    exact ⟨t, runs, driven, ends⟩

/-! ## SAVE-PLAN and the ends of a save (R181, R182, R186) -/

theorem toNat_append_byte {n : Nat} (x : BitVec n) (b : Byte) : (x ++ b).toNat = 256 * x.toNat + b.toNat := by
  rw [BitVec.toNat_append, ← Nat.shiftLeft_add_eq_or_of_lt b.isLt, Nat.shiftLeft_eq]
  omega

theorem append_bytes (b0 b1 b2 b3 : Byte) :
    b3 ++ b2 ++ b1 ++ b0 = BitVec.ofNat 32 (b0.toNat + 256 * b1.toNat + 65536 * b2.toNat + 16777216 * b3.toNat) := by
  have bounds := And.intro b0.isLt (And.intro b1.isLt (And.intro b2.isLt b3.isLt))
  apply BitVec.eq_of_toNat_eq
  rw [toNat_append_byte, toNat_append_byte, toNat_append_byte, BitVec.toNat_ofNat]
  omega

theorem savePlanFields_eq {b0 b1 b2 b3 flag : Byte} {auto : Bool} (h : flag = 0 ∧ auto = false ∨ flag = 1 ∧ auto = true) :
    savePlanFields [b0, b1, b2, b3, flag] = some (b3 ++ b2 ++ b1 ++ b0, auto) := by
  rcases h with ⟨rfl, rfl⟩ | ⟨rfl, rfl⟩
  · rfl
  · rfl

/-- Settles O7: each event is a change of the store and the port, and then the lines are driven. -/
theorem savePlanStartsSave : Obligations.SavePlanStartsSave := by
  refine ⟨fun s tag b0 b1 b2 b3 flag auto writable taking flag_auto => ?_, fun s => ⟨fun idle => ?_, fun su busy => ⟨?_, ?_, ?_⟩⟩⟩
  · have rule : ruleSavePlan [b0, b1, b2, b3, flag] (setFramer s .hunting)
        = accept (driveLines (startSave (setFramer s .hunting) (b3 ++ b2 ++ b1 ++ b0) auto)) (fun x => .saved (saveView x)) := by
      rw [ruleSavePlan, if_pos (by rfl), inHalted_of_writable (s := setFramer s .hunting) writable]
      simp only [savePlanFields_eq flag_auto]
    refine ⟨_, _, exec_of_taking taking rfl, (linesDriven_answer_iff _ _ _).2 ?_, rfl, ?_⟩
    all_goals rw [rule]
    · exact linesDriven_driveLines _
    · rw [append_bytes]
      rfl
  · have runs : exec .supplyDip s = .next (driveLines (s.setPort { s.port with dipFlag := true })) := by
      simp only [exec, execSupplyDip, idle]
    exact ⟨_, runs, linesDriven_driveLines _, rfl⟩
  · have runs : exec .supplyDip s
        = .next (driveLines (saveBad (s.setPort { s.port with dipFlag := true }) su (imageOf su false) .supplyDip)) := by
      simp only [exec, execSupplyDip, busy]
    exact ⟨_, runs, linesDriven_driveLines _, rfl⟩
  · have runs : exec (.saveEnd (copyOf su)) s = .next (driveLines (saveGood s su)) := by
      simp only [exec, execSaveEnd, busy, imageOf_checked, if_true]
    exact ⟨_, runs, linesDriven_driveLines _, rfl⟩
  · intro readBack differs
    have runs : exec (.saveEnd readBack) s = .next (driveLines (saveBad s su readBack .verify)) := by
      simp only [exec, execSaveEnd, busy, imageOf_checked, differs, if_false]
    exact ⟨_, runs, linesDriven_driveLines _, rfl⟩

/-! ## SET-CAR and DROP-CAR (R32 to R34) -/

/-- The form that a stored profile came from: each field by its name. -/
theorem checkProfile_fields {f : CarForm} {p : CarProfile} (h : checkProfile f = some p) :
    f = ⟨f.car, some p.enrolled, some p.link, p.drop, p.bank, p.ranges, p.recallFloor, p.power, p.balance, p.loss, p.inrush,
      some p.regenCapable, p.efficiency, p.startWindow, p.floorTime, p.doorTime, p.returnClass, p.occupiedAt, p.rank⟩ := by
  unfold checkProfile at h
  split at h
  · split at h
    · cases h
      cases f
      simp_all
    · cases h
  · cases h

theorem dropIf_all (l : CarLink) : l.dropIf (fun _ => true) = { l with slot := none } := by
  cases slot : l.slot with
  | some cmd => simp [CarLink.dropIf, slot]
  | none => cases l; simp_all [CarLink.dropIf]

/-- Settles O18: the profile and the record are stored, the slot of a dropped car is emptied, and the lines are driven. -/
theorem carProfileWritten : Obligations.CarProfileWritten := by
  intro s tag c writable taking
  refine ⟨fun f p car low high fits => ⟨?_, ?_⟩, fun listed => ?_, fun dropped => ?_⟩
  · have rule : ruleSetCar f (setFramer s .hunting)
        = accept (driveLines (storeCar (setFramer s .hunting) c p)) (fun x => .profile (profile x c)) := by
      have ranges : within 1 4 f.ranges.length = true := (MessagePort.within_iff _ _ _).2 ⟨low, high⟩
      rw [ruleSetCar, if_pos ranges, storeCarForm, inHalted_of_writable (s := setFramer s .hunting) writable]
      simp only [car, numbered_val, fits]
    have stored : profile (driveLines (storeCar (setFramer s .hunting) c p)) c = p := by
      simp [profile, driveLines, storeCar, markModified]
    refine ⟨_, exec_of_taking taking rfl, (linesDriven_answer_iff _ _ _).2 ?_, ?_⟩
    all_goals rw [withBody, rule]
    · exact linesDriven_driveLines _
    · simp only [accept, stored]
      rfl
  · rw [← car]
    exact checkProfile_fields fits
  · have rule : ruleDropCar (c.val + 1) (setFramer s .hunting)
        = accept (driveLines (emptySlot (storeCar (setFramer s .hunting) c { profile s c with enrolled := false }) c))
            (fun _ => .nothing) := by
      have listed' : enrolled (setFramer s .hunting) c = true := listed
      rw [ruleDropCar, inHalted_of_writable (s := setFramer s .hunting) writable]
      simp only [numbered_val, listed', if_true]
      rfl
    obtain ⟨t, ends⟩ : ∃ t, t = answer (requestCode .dropCar) tag (ruleDropCar (c.val + 1) (setFramer s .hunting)) := ⟨_, rfl⟩
    have slot_empty : t.link.cars.at c = { s.link.cars.at c with slot := none } := by
      rw [ends, rule]
      exact (Table.alter_at_same _ _ _).trans (dropIf_all _)
    refine ⟨t, (exec_of_taking taking rfl).trans (by rw [ends]; rfl), ?_, slot_empty, ?_⟩
    · rw [ends, linesDriven_answer_iff, rule]
      exact linesDriven_driveLines _
    · rw [slot_empty, ← dropIf_all, ends, rule]
      rfl
  · have dropped' : enrolled (setFramer s .hunting) c = false := dropped
    refine MessagePort.exec_of_refusal taking rfl ?_
    rw [withBody, ruleDropCar, inHalted_of_writable (s := setFramer s .hunting) writable]
    simp only [numbered_val, dropped', Bool.false_eq_true, if_false, refuse]

/-! ## The arm at a reset (R184) -/

theorem endReset_of_arm {s : State} (arms : autostarts s = true) : endReset s = complete (autoArm (begin s)) := by
  simp only [endReset, arms, if_true]

theorem complete_autoArm_of_fault {s : State} {f : CommissionFault} (halted : s.plan.state = .halted)
    (fault : commission s.setup = some f) : complete (autoArm (begin s)) = driveLines (setOutcome s (.refused f)) := by
  have refused : autoArm (begin s) = begin (setOutcome s (.refused f)) := by
    simp only [autoArm, begin, fault]
    rfl
  rw [refused]
  exact complete_halted (begin (setOutcome s (.refused f))) halted

theorem autoArm_of_pass {s : State} (passes : commission s.setup = none) :
    autoArm (begin s) = armPlan (begin (setOutcome s .armed)) := by
  simp only [autoArm, begin, passes]
  rfl

/-- After an arm out of HALTED with no set available the outage record is new. -/
theorem transition_outage_record {w : Work} (halted : w.st.plan.state = .halted) (cause : PlanCause) :
    (transition w .outage cause).st.plan.outage = some ⟨.arm, w.st.time, none, none, none, none⟩ := by
  have time : (clearStage (w.up (fun s => movedState s .outage cause))).st.time = w.st.time := by
    have moved : (movedState w.st .outage cause).time = w.st.time := congrArg Fixed.time (movedState_fixed _ _ _)
    exact (congrArg Fixed.time (closed_clearStage (closed_fixed _) rfl)).trans moved
  rw [transition_eq, halted]
  show (reportChanged _ _ _).plan.outage = _
  rw [portOnly_reportChanged]
  show some (OutageRecord.mk .arm _ none none none none) = _
  rw [← time]
  rfl

/-- Settles O6: the arm fails on the commission check, or takes the plan to OUTAGE, where no line and no set calls it away. -/
theorem resetArmsItself : Obligations.ResetArmsItself := by
  intro k case cut s im stands valid auto
  have setup : (resetState k s (.written im)).setup = im.contents := by simp [resetState, rebuilt, load_of_valid valid]
  have arms : autostarts (resetState k s (.written im)) = true := by
    simp [autostarts, resetState, rebuilt, load_of_valid valid, auto]
  have startup (o : ArmOutcome) : (setOutcome (resetState k s (.written im)) o).store.startup = ⟨k.kind, .loaded, o⟩ := by
    simp [setOutcome, resetState, rebuilt, load_of_valid valid]
  have runs := exec_of_resetCase case stands
  rw [endReset_of_arm arms] at runs
  constructor
  · intro f fault
    rw [complete_autoArm_of_fault rfl (setup ▸ fault)] at runs
    exact ⟨_, runs, setup, rfl, rfl, startup _⟩
  · intro passes
    have quiet (l : LineId) : effective (setOutcome (resetState k s (.written im)) .armed) l = .inactive := by
      simp [effective, effectiveOf, setOutcome, resetState, rebuilt]
    have no_util : utilPresent (setOutcome (resetState k s (.written im)) .armed) = false := by
      simp [utilPresent, isActive, quiet]
    have no_sets : setAvailable (setOutcome (resetState k s (.written im)) .armed) = false := by
      rw [← Bool.not_eq_true, setAvailable_iff]
      simp [setOutcome, resetState, rebuilt]
    have exit_none : planExit (transition (begin (setOutcome (resetState k s (.written im)) .armed)) .outage .arm).st = none := by
      obtain ⟨util, _, sets, _⟩ :=
        exits_of_fixed (transition_fixed (begin (setOutcome (resetState k s (.written im)) .armed)) .outage .arm)
      have util_absent := util.trans no_util
      have none_available := sets.trans no_sets
      simp [planExit, transition_plan_state, util_absent, none_available]
    have armed : armPlan (begin (setOutcome (resetState k s (.written im)) .armed))
        = transition (begin (setOutcome (resetState k s (.written im)) .armed)) .outage .arm := by
      have to_outage : armState (begin (setOutcome (resetState k s (.written im)) .armed)).st = .outage := by
        simp [armState, begin, no_util, no_sets]
      rw [armPlan, to_outage]
      exact planRun_of_noExit exit_none
    have idle : granting (transition (begin (setOutcome (resetState k s (.written im)) .armed)) .outage .arm).st = false := by
      simp [granting, transition_plan_state]
    rw [autoArm_of_pass (setup ▸ passes), armed, complete, completeWith_of_resting exit_none idle] at runs
    generalize begin_eq : begin (setOutcome (resetState k s (.written im)) .armed) = w at runs
    have state : w.st = setOutcome (resetState k s (.written im)) .armed := by rw [← begin_eq]; rfl
    have same := transition_fixed w .outage .arm
    have halted : w.st.plan.state = .halted := by rw [state]; rfl
    obtain ⟨rest, reports⟩ := reports_of_queuedFirst (transition_queuedFirst w .outage .arm) (by rw [state]; rfl) rfl
    rw [arbiters_driven] at runs
    refine ⟨_, _, rest, runs, ?_, transition_plan_state _ _ _, ?_, ?_, reports, halted, rfl, rfl⟩
    · exact (congrArg Fixed.setup same).trans (by rw [state]; exact setup)
    · exact (transition_outage_record halted .arm).trans (by rw [state]; rfl)
    · have kept : (transition w .outage .arm).st.store = w.st.store := congrArg Fixed.store same
      show (transition w .outage .arm).st.store.startup = _
      rw [kept, state]
      exact startup _

/-! ## RESTART (R185, R176) -/

theorem exec_of_restart_sent {c : Instr} {s : State} {tag : Byte} {content : Content} {arms : Bool}
    (command : c = .restartTaken ∨ c = .transmitEnd) (sent : s.port.tx = some (.reply ⟨0x23, tag, .ok, content⟩))
    (awaited : s.port.restart = some arms) : exec c s = .next (takeRestart s) := by
  have sending : sendingRestart s.port = true := by simp [sendingRestart, sent, awaited, requestCode]
  rcases command with rfl | rfl <;> simp [exec, execRestartTaken, execTransmitEnd, sending]

/-- The state after a RESTART, with an arm outcome in its start-up record. -/
def restarted (s : State) (o : ArmOutcome) : State := setOutcome (afterRestart s) o

theorem restarted_notCalled (s : State) : restarted s .notCalled = afterRestart s := rfl

/-- What stands at the end of a RESTART, whatever arm it brings: all but the arm's own work is as `restarted` has it. -/
theorem restart_leaves {s t : State} {o : ArmOutcome} (h : t.fixed = (restarted s o).fixed) :
    t.setup = s.setup ∧ t.lines = s.lines ∧ t.time = s.time
      ∧ t.store = { s.store with startup := ⟨.restart, .kept, o⟩ } ∧ t.svc.counts = s.setup.limits.counts
      ∧ t.port.rateInUse = s.setup.limits.rate ∧ t.port.framer = .hunting ∧ t.port.restart = none
      ∧ t.port.replies = [] ∧ t.port.tx = none ∧ t.port.dipFlag = s.port.dipFlag ∧ t.cap = (afterRestart s).cap :=
  ⟨congrArg Fixed.setup h, congrArg Fixed.lines h, congrArg Fixed.time h, congrArg Fixed.store h, congrArg Fixed.counts h,
    congrArg Fixed.rateInUse h, congrArg Fixed.framer h, congrArg Fixed.restart h, congrArg Fixed.replies h,
    congrArg Fixed.tx h, congrArg Fixed.dipFlag h, congrArg Fixed.cap h⟩

theorem afterRestart_set (s : State) (n : SetId) : (afterRestart s).cap.sets.at n
    = ⟨100, if (s.setup.sets.at n).enabled = true ∧ effective s (setLineOf n) = .active then .accepting else .offline⟩ := by
  have active : isActive s (setLineOf n) = true ↔ effective s (setLineOf n) = .active := isActive_iff s _
  have rebuilt : (afterRestart s).cap.sets.at n
      = ⟨100, if (s.setup.sets.at n).enabled && isActive s (setLineOf n) then .accepting else .offline⟩ :=
    Table.tabulate_at _ _
  rw [rebuilt]
  simp only [Bool.and_eq_true, active]

theorem capacityFollowsPlant_of_restart {s t : State} {o : ArmOutcome} (h : t.fixed = (restarted s o).fixed) :
    CapacityFollowsPlant t := by
  obtain ⟨setup, lines, _, _, _, _, _, _, _, _, _, cap⟩ := restart_leaves h
  have level (l : LineId) : effective t l = effective (afterRestart s) l := by
    unfold effective
    rw [lines]
    rfl
  exact capacityFollowsPlant_of_same (s := afterRestart s) (capacityFollowsPlant_recompute _) cap
    (by rw [setup]; rfl) (by rw [setup]; rfl) (level _) (level _)

/-- After a RESTART every set is ACCEPTING or OFFLINE, so that one is available exactly when one is ACCEPTING. -/
theorem setAvailable_restarted (s : State) (o : ArmOutcome) :
    setAvailable (restarted s o) = true ↔ ∃ n, ((afterRestart s).cap.sets.at n).status = .accepting := by
  have same (n : SetId) : (restarted s o).cap.sets.at n = (afterRestart s).cap.sets.at n := rfl
  rw [setAvailable_iff]
  refine exists_congr fun n => ?_
  rw [same, afterRestart_set]
  by_cases on : (s.setup.sets.at n).enabled = true ∧ effective s (setLineOf n) = .active <;> simp [on]

theorem armedIn_restarted (s : State) (o : ArmOutcome) : armedIn (restarted s o)
    = if effective s utilLine = .active then .watching
      else if ∃ n, ((afterRestart s).cap.sets.at n).status = .accepting then
        (if effective s retxLine = .active then .restoring else .settling)
      else .outage := by
  have util : utilPresent (restarted s o) = true ↔ effective s utilLine = .active := utilPresent_iff (restarted s o)
  have retx : retxActive (restarted s o) = true ↔ effective s retxLine = .active := retxActive_iff (restarted s o)
  unfold armedIn
  simp only [util, retx, setAvailable_restarted]

/-- The end of a RESTART: the arm's work, and what its outcome is. -/
theorem takeRestart_ends (s : State) (arms : Bool) (awaited : s.port.restart = some arms) :
    ∃ o, (takeRestart s).fixed = (restarted s o).fixed ∧ LinesDriven (takeRestart s)
      ∧ (arms = false → takeRestart s = driveLines (afterRestart s) ∧ o = .notCalled)
      ∧ (∀ f, arms = true → commission s.setup = some f → (takeRestart s).plan.state = .halted ∧ o = .refused f)
      ∧ (arms = true → commission s.setup = none → o = .armed ∧ (takeRestart s).plan.state = armedIn (restarted s o)) := by
  have setup : (afterRestart s).setup = s.setup := rfl
  cases arms with
  | false =>
    have ends : takeRestart s = driveLines (afterRestart s) := by
      rw [takeRestart, awaited, if_neg (by decide)]
      exact complete_halted (begin (afterRestart s)) rfl
    exact ⟨.notCalled, by rw [ends]; rfl, by rw [ends]; exact linesDriven_driveLines _, fun _ => ⟨ends, rfl⟩, by simp, by simp⟩
  | true =>
    have ends : takeRestart s = complete (autoArm (begin (afterRestart s))) := by
      rw [takeRestart, awaited, if_pos rfl]
    cases fault : commission s.setup with
    | some f =>
      have refused := ends.trans (complete_autoArm_of_fault rfl (setup ▸ fault))
      refine ⟨.refused f, by rw [refused]; rfl, by rw [refused]; exact linesDriven_driveLines _, by simp, ?_, by simp⟩
      rintro g _ ⟨⟩
      exact ⟨by rw [refused]; rfl, rfl⟩
    | none =>
      have counting : ¬ ((begin (restarted s .armed)).st.cap.settle = none
          ∧ (transition (begin (restarted s .armed)) .settling .arm).st.plan.census = .complete
          ∧ 0 < (begin (restarted s .armed)).st.cap.c) := by
        rintro ⟨stopped, _⟩
        cases stopped
      have armed : takeRestart s = driveLines (arbiters (armPlan (begin (restarted s .armed))).st) := by
        rw [ends, autoArm_of_pass (setup ▸ fault)]
        exact complete_armPlan counting
      obtain ⟨_, state⟩ := armPlan_rests counting
      refine ⟨.armed, ?_, by rw [armed]; exact linesDriven_driveLines _, by simp, by simp, fun _ _ => ⟨rfl, ?_⟩⟩
      · rw [ends, autoArm_of_pass (setup ▸ fault), complete_fixed]
        exact closed_armPlan (closed_fixed _) rfl
      · rw [armed, driveLines_of_linkOnly (linkOnly_arbiters _)]
        exact state

/-- Settles O8: the request remembers whether to arm, and the end of its reply takes the restart, with an arm or without. -/
theorem restartRebuilds : Obligations.RestartRebuilds := by
  constructor
  · intro s tag taking
    refine ⟨fun idle => ?_, fun busy => ?_⟩
    · have saves : saving (setFramer s .hunting) = false := by simp [saving, setFramer, idle]
      have rule : ruleRestart (setFramer s .hunting) = accept ((setFramer s .hunting).setPort
          { (setFramer s .hunting).port with restart := some (decide (s.plan.state ≠ .halted)) }) (fun _ => .nothing) := by
        have remembered : decide (s.plan.state ≠ .halted) = (s.plan.state != .halted) := by
          cases s.plan.state <;> rfl
        rw [ruleRestart, saves, remembered]
        rfl
      refine ⟨_, exec_of_taking taking rfl, ?_, ?_⟩
      all_goals rw [bare, rule]; rfl
    · have saves : saving (setFramer s .hunting) = true := by
        simp [saving, setFramer, Option.isSome_iff_ne_none.2 busy]
      refine MessagePort.exec_of_refusal taking rfl ?_
      simp only [bare, ruleRestart, saves]
      rfl
  · intro c command s tag content arms sent awaited
    obtain ⟨o, fixed, driven, plain, refused, armed⟩ := takeRestart_ends s arms awaited
    obtain ⟨setup, lines, time, store, counts, rate, framer, restart, replies, tx, dip, cap⟩ := restart_leaves fixed
    have outcome : (takeRestart s).store.startup = ⟨.restart, .kept, o⟩ := by rw [store]
    refine ⟨_, exec_of_restart_sent command sent awaited, driven, setup, lines, time, by rw [store], counts, rate, framer,
      restart, replies, tx, dip, by rw [cap]; rfl, capacityFollowsPlant_of_restart fixed,
      fun n => by rw [cap]; exact afterRestart_set s n, ?_, ?_, ?_⟩
    · intro no_arm
      obtain ⟨ends, _⟩ := plain no_arm
      rw [ends]
      rfl
    · intro f arm fault
      obtain ⟨halted, rfl⟩ := refused f arm fault
      exact ⟨halted, outcome⟩
    · intro arm passes
      obtain ⟨rfl, state⟩ := armed arm passes
      refine ⟨outcome, ?_⟩
      rw [state, armedIn_restarted, cap]

end Sys2Proof.Proofs.PlanStore
end
section
/-! PROOFS. The Capacity Unit and its requests: the settle expiry (R20), SET-GENSET (R16, R17), SET-LIMITS (R170). -/

namespace Sys2Proof.Proofs.Capacity

open Sys2Proof.Machine Sys2Proof.Safety Sys2Proof.Proofs.Upkeep Sys2Proof.Proofs.IndicationLines Sys2Proof.Proofs.Ends

/-! ## Requests that are accepted -/

/-- An accepted request leaves what its rule made, with the reply at the tail of the reply path. -/
theorem exec_of_accepted {s u : State} {c : Instr} {kind : ReqKind} {tag : Byte} {rule : State → Taken} {content : State → Content}
    (taking : Taking s) (runs : exec c s = .next (takeRequest s kind tag rule))
    (accepts : rule (setFramer s .hunting) = accept u content) (host : HostSideKept (setFramer s .hunting) u) :
    ∃ t, exec c s = .next t ∧ Answered s t kind tag (content u)
      ∧ t = u.setPort { u.port with replies := t.port.replies } := by
  obtain ⟨rate, framer, restart, replies, tx, dip⟩ := host
  refine ⟨_, exec_of_taking taking runs, ?_, by rw [accepts]; rfl⟩
  rw [accepts]
  exact ⟨congrArg (· ++ _) replies, framer, rate, restart, tx, dip⟩

/-- What the reply of a request leaves as its rule made it. -/
theorem fixed_of_answered {t u : State} (h : t = u.setPort { u.port with replies := t.port.replies }) :
    t.setup = u.setup ∧ t.lines = u.lines ∧ t.cap = u.cap ∧ t.store = u.store ∧ t.plan = u.plan ∧ t.svc = u.svc
      ∧ t.acct = u.acct ∧ t.cars = u.cars ∧ t.ret = u.ret ∧ t.hist = u.hist ∧ t.link = u.link ∧ t.time = u.time
      ∧ t.pending = u.pending := by
  rw [h]
  exact ⟨rfl, rfl, rfl, rfl, rfl, rfl, rfl, rfl, rfl, rfl, rfl, rfl, rfl⟩

/-! ## The cars' side -/

/-- Two states that differ in the car records, the links and the report queue alone. -/
def CarSide (s t : State) : Prop := t = { s with cars := t.cars, link := t.link, port := t.port }

theorem CarSide.refl (s : State) : CarSide s s := rfl

theorem CarSide.trans {s t u : State} (h : CarSide s t) (g : CarSide t u) : CarSide s u := by
  unfold CarSide at *; rw [g, h]

theorem CarSide.of_linkOnly {s t : State} (h : LinkOnly s t) : CarSide s t := by
  unfold LinkOnly at h; unfold CarSide; rw [h]; rfl

theorem CarSide.of_portOnly {s t : State} (h : PortOnly s t) : CarSide s t := by
  unfold PortOnly at h; unfold CarSide; rw [h]; rfl

theorem carSide_alterCar (s : State) (c : CarId) (f : CarRecord → CarRecord) : CarSide s (alterCar s c f) := rfl

theorem carSide_place (s : State) (c : CarId) (k : CmdKind) : CarSide s (place s c k) :=
  .of_linkOnly (linkOnly_placeCommand s c k none none)

theorem carSide_moveCar (s : State) (c : CarId) (st : CarState) : CarSide s (moveCar s c st) := rfl

theorem carSide_stopShed (s : State) (c : CarId) : CarSide s (stopShed s c) := by
  unfold stopShed
  dsimp only
  split
  · split
    · exact carSide_place s c .stopNext
    · exact ((carSide_place s c .stopNext).trans (carSide_moveCar _ c .stopping)).trans (.of_portOnly (portOnly_reportCar _ _ _ _ _))
  · exact carSide_place s c .stopNext

theorem carSide_handShed (s : State) (c : CarId) : CarSide s (handShed s c) := by
  unfold handShed
  split
  · split
    · exact carSide_stopShed s c
    · exact CarSide.refl s
  · exact CarSide.refl s

theorem carSide_handSheds (w : Work) : CarSide w.st (handSheds w).st :=
  Account.foldl_rel CarSide.refl CarSide.trans carSide_handShed _ _

theorem CarSide.plan {s t : State} (h : CarSide s t) : t.plan = s.plan := by rw [h]

/-! ## Changes of the Capacity Unit -/

theorem handCapacity_plan (w : Work) (c sink : Nat) : (handCapacity w c sink).st.plan = w.st.plan := by
  unfold handCapacity
  split
  · rfl
  · exact (carSide_handSheds _).plan.trans (Account.settleAccount_plan w _)

theorem capacityEvent_plan (w : Work) (f : State → State) : (capacityEvent w f).st.plan = (f w.st).plan :=
  handCapacity_plan (w.up (fun s => recompute (f s))) _ _

/-- A change of the Capacity Unit in HALTED moves, of the fixed part and the plan, what the change says. -/
theorem complete_capacityEvent_plan {s : State} {f : State → State} (halted : (f s).plan.state = .halted) :
    (complete (capacityEvent (begin s) f)).plan = (f s).plan := by
  have plan : (capacityEvent (begin s) f).st.plan = (f s).plan := capacityEvent_plan (begin s) f
  rw [complete_halted _ (by rw [plan]; exact halted)]
  exact plan

theorem complete_capacityEvent_fixed (s : State) (f : State → State) :
    (complete (capacityEvent (begin s) f)).fixed = (recompute (f s)).fixed :=
  (complete_fixed _).trans (capacityEvent_fixed (begin s) f)

theorem capacityFollowsPlant_of_fixed {s t : State} (same : t.fixed = s.fixed) (h : CapacityFollowsPlant s) :
    CapacityFollowsPlant t := by
  have setup : t.setup = s.setup := congrArg Fixed.setup same
  exact capacityFollowsPlant_of_same h (congrArg Fixed.cap same) (by rw [setup]) (by rw [setup])
    (effective_of_fixed same _) (effective_of_fixed same _)

theorem capacityFollowsPlant_complete (s : State) (f : State → State) :
    CapacityFollowsPlant (complete (capacityEvent (begin s) f)) :=
  capacityFollowsPlant_of_fixed (complete_capacityEvent_fixed s f) (capacityFollowsPlant_recompute _)

/-! ## The settle expiry (R20) -/

/-- Settles O13: the expiry's own change, recomputed, is all that it leaves in the Capacity Unit. -/
theorem settleExpiryOnline : Obligations.SettleExpiryOnline := by
  intro s e running due
  have runs : exec .settleExpiry s = .next (complete (settleEvent (begin s))) := by
    simp only [exec, execSettleExpiry, running, timerDue_of_due due, if_true]
  have fixed : (complete (settleEvent (begin s))).fixed = (recompute (settleNow s)).fixed :=
    (complete_fixed _).trans (capacityEvent_fixed (begin s) settleNow)
  have cap : (complete (settleEvent (begin s))).cap = (recompute (settleNow s)).cap := congrArg Fixed.cap fixed
  obtain ⟨settings, host⟩ := kept_of_fixed (s := s) (t := complete (settleEvent (begin s))) (by rw [fixed, cap]; rfl)
  refine ⟨_, runs, settings, host, by rw [cap]; rfl,
    capacityFollowsPlant_of_fixed fixed (capacityFollowsPlant_recompute _), fun n => ?_⟩
  have set : (complete (settleEvent (begin s))).cap.sets.at n
      = if (s.cap.sets.at n).status = .accepting then { s.cap.sets.at n with status := .online } else s.cap.sets.at n := by
    rw [cap]
    exact Table.mapAll_at _ _ _
  rw [set]
  split <;> exact ⟨rfl, rfl⟩

/-! ## SET-LIMITS (R170) -/

theorem checkLimits_fields {f : LimitsForm} {lim : Limits} (h : checkLimits f = some lim) :
    f = ⟨lim.reserve, lim.derate, lim.settle, lim.bankRating, lim.baseLoad, lim.pollInterval, lim.silenceThreshold,
      lim.silentHold, lim.samplePeriod, some lim.onTrip, some lim.onDraw, some lim.onHost, lim.pre, lim.post,
      some lim.freeze, some lim.captureMode, some lim.returnMode, lim.startSlots, lim.spacing, lim.lookahead,
      lim.passLimit, lim.groupSize, lim.stepLimit, some lim.releaseSource, lim.attempts, lim.margin,
      lim.restoreTimeout, lim.counts, lim.rate⟩ := by
  unfold checkLimits at h
  split at h
  · split at h
    · cases h
      cases f
      simp_all
    · cases h
  · cases h

/-- An accepted request of HALTED that changes the Capacity Unit: what its own change and the recomputation leave. -/
theorem exec_of_capacityRequest {s : State} {c : Instr} {kind : ReqKind} {tag : Byte} {rule : State → Taken}
    {content : State → Content} {f : State → State} (writable : Writable s) (taking : Taking s)
    (runs : exec c s = .next (takeRequest s kind tag rule))
    (accepts : rule (setFramer s .hunting) = accept (complete (capacityEvent (begin (setFramer s .hunting)) f)) content)
    (plan : (f (setFramer s .hunting)).plan = s.plan) (port : (f (setFramer s .hunting)).port = (setFramer s .hunting).port) :
    ∃ t u, exec c s = .next t ∧ Answered s t kind tag (content u) ∧ t = u.setPort { u.port with replies := t.port.replies }
      ∧ u.fixed = (recompute (f (setFramer s .hunting))).fixed ∧ t.plan = s.plan ∧ CapacityFollowsPlant t := by
  obtain ⟨u, made⟩ : ∃ u, u = complete (capacityEvent (begin (setFramer s .hunting)) f) := ⟨_, rfl⟩
  rw [← made] at accepts
  have fixed : u.fixed = (recompute (f (setFramer s .hunting))).fixed := made ▸ complete_capacityEvent_fixed _ _
  have kept : u.plan = s.plan := by
    rw [made, complete_capacityEvent_plan (by rw [plan]; exact writable.1), plan]
  have part {α : Type} (p : Fixed → α) := congrArg p fixed
  have side : (recompute (f (setFramer s .hunting))).port = (setFramer s .hunting).port := port
  obtain ⟨t, runs, answered, same⟩ := exec_of_accepted taking runs accepts
    ⟨(part Fixed.rateInUse).trans (congrArg Port.rateInUse side), (part Fixed.framer).trans (congrArg Port.framer side),
      (part Fixed.restart).trans (congrArg Port.restart side), (part Fixed.replies).trans (congrArg Port.replies side),
      (part Fixed.tx).trans (congrArg Port.tx side), (part Fixed.dipFlag).trans (congrArg Port.dipFlag side)⟩
  obtain ⟨_, _, _, _, plan', _⟩ := fixed_of_answered same
  refine ⟨t, u, runs, answered, same, fixed, plan'.trans kept, ?_⟩
  have follows : CapacityFollowsPlant u := capacityFollowsPlant_of_fixed fixed (capacityFollowsPlant_recompute _)
  rw [same]
  exact follows

/-- Settles O17: the limits and the runtime counts are stored, and C and S follow. -/
theorem setLimitsStores : Obligations.SetLimitsStores := by
  intro s tag f lim writable taking checked
  refine ⟨?_, checkLimits_fields checked⟩
  have rule : withBody (.fields f) ruleSetLimits (setFramer s .hunting)
      = accept (complete (capacityEvent (begin (setFramer s .hunting)) (fun x => storeLimits x lim)))
        (fun x => .limits x.setup.limits) := by
    rw [withBody, ruleSetLimits, inHalted_of_writable (s := setFramer s .hunting) writable]
    simp only [checked]
  obtain ⟨t, u, runs, answered, same, fixed, plan, follows⟩ := exec_of_capacityRequest (c := .setLimits tag (.fields f))
    writable taking rfl rule rfl rfl
  obtain ⟨setup, lines, cap, store, _, svc, _⟩ := fixed_of_answered same
  have part {α : Type} (p : Fixed → α) := congrArg p fixed
  have limits : u.setup.limits = lim := congrArg Setup.limits (part Fixed.setup)
  rw [limits] at answered
  exact ⟨t, runs, setup.trans (part Fixed.setup), (congrArg Selector.counts svc).trans (part Fixed.counts), follows,
    (congrArg Capacity.sets cap).trans (part (fun k => k.cap.sets)),
    (congrArg Capacity.settle cap).trans (part (fun k => k.cap.settle)), lines.trans (part Fixed.lines), plan,
    store.trans (part Fixed.store), answered⟩

/-! ## SET-GENSET (R16, R17) -/

/-- The set as an accepted SET-GENSET leaves it: its status, and whether the change is a stage change (R17, R19). -/
theorem changeSet_cases (s : State) (n : SetId) (x : SetSettings) :
    (x.enabled = false ∧ (s.cap.sets.at n).status ≠ .offline
        ∧ changeSet s n x = stageChange (setStatus (storeSet s n x) n .offline))
      ∨ (x.enabled = true ∧ (s.setup.sets.at n).enabled = false ∧ effective s (setLineOf n) = .active
        ∧ changeSet s n x = stageChange (setStatus (storeSet s n x) n .accepting))
      ∨ ((x.enabled = false → (s.cap.sets.at n).status = .offline)
        ∧ ((s.setup.sets.at n).enabled = true ∨ effective s (setLineOf n) = .inactive ∨ x.enabled = false)
        ∧ changeSet s n x = storeSet s n x) := by
  have active : isActive s (setLineOf n) = true ↔ effective s (setLineOf n) = .active := isActive_iff s _
  unfold changeSet
  dsimp only
  split
  case isTrue lost =>
    simp only [Bool.and_eq_true, Bool.not_eq_true', bne_iff_ne] at lost
    exact .inl ⟨lost.1, lost.2, rfl⟩
  case isFalse stays =>
    simp only [Bool.and_eq_true, Bool.not_eq_true', bne_iff_ne, not_and, Decidable.not_not] at stays
    split
    case isTrue gained =>
      simp only [Bool.and_eq_true, Bool.not_eq_true', active] at gained
      exact .inr (.inl ⟨gained.1.2, gained.1.1, gained.2, rfl⟩)
    case isFalse idle =>
      refine .inr (.inr ⟨stays, ?_, rfl⟩)
      rw [← not_active_iff, ← active]
      cases was : (s.setup.sets.at n).enabled <;> cases now : x.enabled <;> simp_all

/-- The two parts of the Capacity Unit that SET-GENSET may change, with the trims as they were. -/
theorem changeSet_leaves (s : State) (n : SetId) (x : SetSettings) :
    (changeSet s n x).setup = { s.setup with sets := s.setup.sets.put n x } ∧ (changeSet s n x).lines = s.lines
      ∧ (changeSet s n x).plan = s.plan ∧ (changeSet s n x).port = s.port
      ∧ (changeSet s n x).store = { s.store with modified := true }
      ∧ (∀ m, m ≠ n → (changeSet s n x).cap.sets.at m = s.cap.sets.at m)
      ∧ ((changeSet s n x).cap.sets.at n).trim = (s.cap.sets.at n).trim := by
  have status (st : SetStatus) : (∀ m, m ≠ n → (setStatus s n st).cap.sets.at m = s.cap.sets.at m)
      ∧ ((setStatus s n st).cap.sets.at n).trim = (s.cap.sets.at n).trim :=
    ⟨fun m other => Table.alter_at_other _ _ _ _ other, by simp [setStatus, State.setCap]⟩
  rcases changeSet_cases s n x with ⟨_, _, made⟩ | ⟨_, _, _, made⟩ | ⟨_, _, made⟩
  · rw [made]; exact ⟨rfl, rfl, rfl, rfl, rfl, (status .offline).1, (status .offline).2⟩
  · rw [made]; exact ⟨rfl, rfl, rfl, rfl, rfl, (status .accepting).1, (status .accepting).2⟩
  · rw [made]; exact ⟨rfl, rfl, rfl, rfl, rfl, fun _ _ => rfl, rfl⟩

/-- Settles O16: by what the change makes of the set. -/
theorem setGensetApplies : Obligations.SetGensetApplies := by
  intro s tag n en alloc writable taking fits
  have checked : checkGenset ⟨n.val + 1, some en, alloc⟩ = some ⟨en, alloc⟩ := by simp [checkGenset, fits]
  have rule : withBody (.fields ⟨n.val + 1, some en, alloc⟩) ruleSetGenset (setFramer s .hunting)
      = accept (complete (capacityEvent (begin (setFramer s .hunting)) (fun y => changeSet y n ⟨en, alloc⟩)))
        (fun y => .genset (gensetView y n)) := by
    rw [withBody, ruleSetGenset, inHalted_of_writable (s := setFramer s .hunting) writable]
    simp only [numbered_val, checked]
  obtain ⟨setup', lines', plan', port', store', others, trim⟩ := changeSet_leaves (setFramer s .hunting) n ⟨en, alloc⟩
  obtain ⟨t, u, runs, answered, same, fixed, plan, follows⟩ :=
    exec_of_capacityRequest (c := .setGenset tag (.fields ⟨n.val + 1, some en, alloc⟩)) writable taking rfl rule plan' port'
  obtain ⟨setup, lines, cap, store, _⟩ := fixed_of_answered same
  have part {α : Type} (p : Fixed → α) := congrArg p fixed
  have stored : t.setup = { s.setup with sets := s.setup.sets.put n ⟨en, alloc⟩ } :=
    (setup.trans (part Fixed.setup)).trans setup'
  have sets : t.cap.sets = (changeSet (setFramer s .hunting) n ⟨en, alloc⟩).cap.sets :=
    (congrArg Capacity.sets cap).trans (part (fun k => k.cap.sets))
  have settle : t.cap.settle = (changeSet (setFramer s .hunting) n ⟨en, alloc⟩).cap.settle :=
    (congrArg Capacity.settle cap).trans (part (fun k => k.cap.settle))
  have same_trim : (t.cap.sets.at n).trim = (s.cap.sets.at n).trim := by rw [sets]; exact trim
  have view : gensetView u n = ⟨en, alloc, (s.cap.sets.at n).trim, (t.cap.sets.at n).status, t.cap.c⟩ := by
    rw [← same_trim, gensetView, ← cap, ← setup, stored, Table.put_at_same]
  rw [view] at answered
  refine ⟨t, runs, by rw [stored], by rw [stored, Table.put_at_same], fun m other =>
    ⟨by rw [stored, Table.put_at_other _ _ _ _ other], by rw [sets]; exact others m other⟩, same_trim,
    (lines.trans (part Fixed.lines)).trans lines', plan, (store.trans (part Fixed.store)).trans store', follows, answered, ?_⟩
  rw [sets, settle]
  have status (st : SetStatus) : ((stageChange (setStatus (storeSet (setFramer s .hunting) n ⟨en, alloc⟩) n st)).cap.sets.at n).status
      = st := by simp [stageChange, setStatus, State.setCap]
  rcases changeSet_cases (setFramer s .hunting) n ⟨en, alloc⟩ with ⟨off, lost, made⟩ | ⟨on, was, line, made⟩ | ⟨left, reason, made⟩
  · rw [made]
    refine ⟨fun _ => ⟨status _, fun _ => rfl, fun idle => absurd idle lost⟩, ?_, ?_⟩
    all_goals (rintro rfl; cases off)
  · rw [made]
    refine ⟨(by rintro rfl; cases on), fun _ _ _ => ⟨status _, rfl⟩, fun _ other => ?_⟩
    rcases other with enabled | inactive
    · exact absurd (was.symm.trans enabled) (by decide)
    · exact absurd (line.symm.trans inactive) (by decide)
  · rw [made]
    refine ⟨fun off => ⟨left off, fun lost => absurd (left off) lost, fun _ => rfl⟩, fun on was line => ?_, fun _ _ => ⟨rfl, rfl⟩⟩
    rcases reason with enabled | inactive | disabled
    · exact absurd (was.symm.trans enabled) (by decide)
    · exact absurd (line.symm.trans inactive) (by decide)
    · exact absurd (on.symm.trans disabled) (by decide)

end Sys2Proof.Proofs.Capacity
end
section
/-! PROOFS. The Line Qualifier: what a sample, a LINE-REPORT and a SET-LINE make of a line (R2 to R11), and what its change makes of
the Capacity Unit (R19 to R27). -/

namespace Sys2Proof.Proofs.Lines

open Sys2Proof.Machine Sys2Proof.Safety Sys2Proof.Proofs.Upkeep Sys2Proof.Proofs.IndicationLines Sys2Proof.Proofs.Ends
open Sys2Proof.Proofs.Capacity

/-! ## A line's level in the Capacity Unit -/

/-- The state that a line's new effective level gives the Capacity Unit, before C and S are handed on (R21, R22, R25, R26). -/
def lineChange (s : State) (l : LineId) (level : Level) : State :=
  match setOfLine l with
  | some n =>
    match level with
    | .active =>
      if (s.setup.sets.at n).enabled && (s.cap.sets.at n).status == .offline then
        recompute (stageChange (setStatus s n .accepting))
      else s
    | .inactive =>
      if (s.cap.sets.at n).status = .offline then s else recompute (stageChange (setStatus s n .offline))
  | none => if l = bankLine ∨ l = alarmLine then recompute (stageChange s) else s

theorem lineChange_active {s : State} {n : SetId} {l : LineId} (h : setOfLine l = some n) : lineChange s l .active
    = if (s.setup.sets.at n).enabled && (s.cap.sets.at n).status == .offline then
        recompute (stageChange (setStatus s n .accepting))
      else s := by
  simp only [lineChange, h]

theorem lineChange_inactive {s : State} {n : SetId} {l : LineId} (h : setOfLine l = some n) : lineChange s l .inactive
    = if (s.cap.sets.at n).status = .offline then s else recompute (stageChange (setStatus s n .offline)) := by
  simp only [lineChange, h]

theorem lineChange_plant {s : State} {l : LineId} (level : Level) (h : setOfLine l = none) : lineChange s l level
    = if l = bankLine ∨ l = alarmLine then recompute (stageChange s) else s := by
  simp only [lineChange, h]

/-- The level of a line is handed to the Capacity Unit, which changes nothing else of the fixed part. -/
theorem lineChange_cap (s : State) (l : LineId) (level : Level) : lineChange s l level = s.setCap (lineChange s l level).cap := by
  unfold lineChange
  repeat' split
  all_goals rfl

theorem setInactive_fixed (w : Work) (n : SetId) : (setInactive w n).st.fixed
    = (if (w.st.cap.sets.at n).status = .offline then w.st
      else recompute (stageChange (setStatus w.st n .offline))).fixed := by
  unfold setInactive
  split
  case h_1 off => rw [if_pos off]
  case h_2 accepting =>
    rw [if_neg (by rw [accepting]; decide)]
    exact capacityEvent_fixed w _
  case h_3 online =>
    rw [if_neg (by rw [online]; decide)]
    dsimp only
    rw [handCapacity_fixed]
    split
    · exact closed_offerTrigger (closed_fixed _) (queueReport_fixed _ _)
    · rfl

/-- What a line's new effective level makes of the fixed part. -/
theorem handLine_fixed (w : Work) (l : LineId) (level : Level) :
    (handLine w l level).st.fixed = (lineChange w.st l level).fixed := by
  unfold handLine
  split
  case h_1 n of_set =>
    cases level with
    | active =>
      rw [lineChange_active of_set]
      show (setActive w n).st.fixed = _
      unfold setActive
      split
      · exact capacityEvent_fixed w _
      · rfl
    | inactive =>
      rw [lineChange_inactive of_set]
      exact setInactive_fixed w n
  case h_2 no_set =>
    rw [lineChange_plant level no_set]
    split
    · exact capacityEvent_fixed w _
    · rfl

theorem closed_handCapacity {P : State → Prop} (H : Closed P) {w : Work} {c sink : Nat} (h : P w.st) :
    P (handCapacity w c sink).st := by
  unfold handCapacity
  split
  · exact h
  · exact closed_handSheds H (closed_settleAccount H h)

/-- A property that the Capacity Unit's own changes leave is one that a line's new level keeps. -/
theorem closed_handLine {P : State → Prop} (H : Closed P) (unit : ∀ {s x}, P s → P (s.setCap x)) {w : Work} {l : LineId}
    {level : Level} (h : P w.st) : P (handLine w l level).st := by
  have handed (f : State → State) (same : ∃ x, f w.st = w.st.setCap x) : P (capacityEvent w f).st := by
    obtain ⟨x, same⟩ := same
    refine closed_handCapacity H (w := w.up (fun s => recompute (f s))) ?_
    show P ((f w.st).setCap _)
    rw [same]
    exact unit (unit h)
  have lost (n : SetId) : P (recompute (stageChange (setStatus w.st n .offline))) := unit (unit (unit h))
  unfold handLine setActive setInactive
  repeat' split
  · exact handed _ ⟨_, rfl⟩
  · exact h
  · exact h
  · exact handed _ ⟨_, rfl⟩
  · exact closed_handCapacity H (closed_offerTrigger H (H.report (lost _)))
  · exact closed_handCapacity H (lost _)
  · exact handed _ ⟨_, rfl⟩
  · exact h

theorem handLine_plan (w : Work) (l : LineId) (level : Level) : (handLine w l level).st.plan = w.st.plan := by
  unfold handLine setActive setInactive
  repeat' split
  · exact capacityEvent_plan w _
  · rfl
  · rfl
  · exact capacityEvent_plan w _
  · exact (handCapacity_plan _ _ _).trans (offerTrigger_plan _ _)
  · exact handCapacity_plan _ _ _
  · exact capacityEvent_plan w _
  · rfl

/-! ## A line's state -/

theorem alterLine_alterLine (s : State) (l : LineId) (f g : LineState → LineState) :
    alterLine (alterLine s l f) l g = alterLine s l (fun x => g (f x)) := by
  have same : (s.lines.alter l f).alter l g = s.lines.alter l (fun x => g (f x)) :=
    Table.ext_at fun m => by simp only [Table.alter_at]; split <;> simp
  exact congrArg s.setLines same

theorem alterLine_same (s : State) (l : LineId) (f : LineState → LineState) : (alterLine s l f).lines.at l = f (s.lines.at l) :=
  Table.alter_at_same _ _ _

theorem alterLine_other (s : State) {l m : LineId} (f : LineState → LineState) (h : m ≠ l) :
    (alterLine s l f).lines.at m = s.lines.at m :=
  Table.alter_at_other _ _ _ _ h

/-- The exits see of the lines their effective levels alone. -/
theorem noExit_of_same {s t : State} (level : ∀ l, effective t l = effective s l) (plan : t.plan = s.plan) (cap : t.cap = s.cap)
    (ret : t.ret = s.ret) (acct : t.acct = s.acct) (h : NoExit s) : NoExit t := by
  unfold NoExit GeneratorStays at *
  simp only [level, plan, cap, ret, acct]
  exact h

/-- The fixed part with a line changed, and nothing else. -/
def withLine (k : Fixed) (l : LineId) (f : LineState → LineState) : Fixed := { k with lines := k.lines.alter l f }

theorem alterLine_fixed (s : State) (l : LineId) (f : LineState → LineState) :
    (alterLine s l f).fixed = withLine s.fixed l f := rfl

theorem withLine_withLine (k : Fixed) (l : LineId) (f : LineState → LineState) (y : LineState) :
    withLine (withLine k l f) l (fun _ => y) = withLine k l (fun _ => y) := by
  have lines : (k.lines.alter l f).alter l (fun _ => y) = k.lines.alter l (fun _ => y) :=
    Table.ext_at fun m => by simp only [Table.alter_at]; split <;> rfl
  unfold withLine
  rw [lines]

/-! ## A qualified change (R8) -/

/-- A qualified change, as recorded and reported, before it is handed on. -/
def changedLine (s : State) (l : LineId) (level : Level) : State :=
  queueReport (alterLine s l (fun _ => (s.lines.at l).changed s.time level))
    (lineEvent s l (s.lines.at l) ((s.lines.at l).changed s.time level) level)

/-- What a qualified change makes of the fixed part: the line's state, and the Capacity Unit's when the effective level is new. -/
def changeOf (s : State) (l : LineId) (level : Level) : State :=
  if effective s l = level then changedLine s l level else lineChange (changedLine s l level) l level

theorem changedLine_fixed (s : State) (l : LineId) (level : Level) :
    (changedLine s l level).fixed = withLine s.fixed l (fun _ => (s.lines.at l).changed s.time level) :=
  queueReport_fixed _ _

theorem qualifiedChange_fixed (w : Work) (l : LineId) (level : Level) :
    (qualifiedChange w l level).st.fixed = (changeOf w.st l level).fixed := by
  unfold qualifiedChange changeOf
  dsimp only
  split
  case isTrue same => rw [if_pos (show effective w.st l = level from same)]; rfl
  case isFalse new =>
    rw [if_neg (show ¬ effective w.st l = level from new)]
    exact handLine_fixed _ l level

theorem changeOf_cap (s : State) (l : LineId) (level : Level) :
    changeOf s l level = (changedLine s l level).setCap (changeOf s l level).cap := by
  unfold changeOf
  split
  · rfl
  · exact lineChange_cap _ _ _

theorem changeOf_fixed (s : State) (l : LineId) (level : Level) : (changeOf s l level).fixed
    = { withLine s.fixed l (fun _ => (s.lines.at l).changed s.time level) with cap := (changeOf s l level).cap } := by
  rw [← changedLine_fixed]
  conv_lhs => rw [changeOf_cap]
  rfl

theorem lineEvent_eq_changeReport (s : State) (l : LineId) (level : Level) :
    lineEvent s l (s.lines.at l) ((s.lines.at l).changed s.time level) level = changeReport s l level := by
  have first : (s.lines.at l).qualified.isNone = decide ((s.lines.at l).qualified = none) := by
    cases (s.lines.at l).qualified <;> rfl
  unfold lineEvent changeReport
  rw [first]
  rfl

/-- The LINE-EVENT report of a qualified change is the first that it queues (R9). -/
theorem qualifiedChange_queued (w : Work) (l : LineId) (level : Level) :
    QueuedFirst w.st [changeReport w.st l level] (qualifiedChange w l level).st := by
  have H := closed_queuedFirst w.st [changeReport w.st l level]
  have begun : QueuedFirst w.st [changeReport w.st l level] (changedLine w.st l level) := by
    refine ⟨[], ?_⟩
    rw [changedLine, lineEvent_eq_changeReport]
    exact reportsQueued_report (reportsQueued_of_port (reportsQueued_refl w.st) rfl rfl) _
  unfold qualifiedChange
  dsimp only
  split
  · exact begun
  · exact closed_handLine H (fun h => h) begun

/-! ## A sample (R5 to R7) -/

theorem logical_eq (p : Polarity) (pin : PinLevel) : logical p pin = levelSeen p pin := by cases p <;> cases pin <;> rfl

/-- A line's state with its raw level recorded and its timer restarted (R5). -/
def recorded (s : State) (l : LineId) (pin : PinLevel) : LineState :=
  { s.lines.at l with raw := some pin, nextSample := s.time + BitVec.ofNat 32 (s.setup.lines.at l).period }

theorem recordRaw_at (s : State) (l : LineId) (pin : PinLevel) : (recordRaw s l pin).lines.at l = recorded s l pin :=
  alterLine_same _ _ _

theorem samplePin_of_message {w : Work} {l : LineId} {pin : PinLevel} (h : (w.st.setup.lines.at l).source = .message) :
    samplePin w l pin = w.up (fun s => recordRaw s l pin) := by
  have source : (lineSettings w.st l).source = .message := h
  simp only [samplePin, source]

theorem samplePin_of_wired {w : Work} {l : LineId} {pin : PinLevel} {level : Level}
    (h : (w.st.setup.lines.at l).source = .wired) (seen : levelSeen (w.st.setup.lines.at l).polarity pin = level) :
    samplePin w l pin = offerSample (w.up (fun s => recordRaw s l pin)) l level := by
  have source : (lineSettings w.st l).source = .wired := h
  have level_eq : logical (lineSettings w.st l).polarity pin = level := (logical_eq _ _).trans seen
  simp only [samplePin, source, level_eq]

section
variable {w : Work} {l : LineId} {level : Level}

theorem offerSample_of_agrees (h : (w.st.lines.at l).qualified = some level) :
    offerSample w l level = w.up (fun s => alterLine s l (fun y => { y with held := none })) := by
  simp only [offerSample, h, if_true]

theorem offerSample_of_first {q : Level} (h : (w.st.lines.at l).qualified = some q) (differs : q ≠ level)
    (first : (w.st.lines.at l).held = none) :
    offerSample w l level = w.up (fun s => alterLine s l (fun y => { y with held := some level })) := by
  simp only [offerSample, h, if_neg (Ne.symm differs), first, Option.isSome_none, Bool.false_eq_true, if_false]

theorem offerSample_of_second {q : Level} (h : (w.st.lines.at l).qualified = some q) (differs : q ≠ level)
    (second : (w.st.lines.at l).held ≠ none) : offerSample w l level = qualifiedChange w l level := by
  simp only [offerSample, h, if_neg (Ne.symm differs), Option.isSome_iff_ne_none.2 second, if_true]

theorem offerSample_of_unqualified_first (h : (w.st.lines.at l).qualified = none) (first : (w.st.lines.at l).held ≠ some level) :
    offerSample w l level = w.up (fun s => alterLine s l (fun y => { y with held := some level })) := by
  simp only [offerSample, h, if_neg first]

theorem offerSample_of_unqualified_second (h : (w.st.lines.at l).qualified = none)
    (second : (w.st.lines.at l).held = some level) : offerSample w l level = qualifiedChange w l level := by
  simp only [offerSample, h, second, if_true]

end

theorem recordRaw_eq (s : State) (l : LineId) (pin : PinLevel) : recordRaw s l pin = alterLine s l (fun _ => recorded s l pin) :=
  congrArg s.setLines (Table.ext_at fun m => by simp only [Table.alter_at, lineSettings, after, Time.plus]; rfl)

theorem recordRaw_held (s : State) (l : LineId) (pin : PinLevel) (held : Option Level) :
    alterLine (recordRaw s l pin) l (fun y => { y with held := held })
      = alterLine s l (fun _ => { recorded s l pin with held := held }) := by
  rw [recordRaw_eq, alterLine_alterLine]

/-- The work of a sample that makes no qualified change: another pending sample, and nothing more. -/
def quietSample (s : State) (l : LineId) (pin : PinLevel) (held : Option Level) : Work :=
  (begin s).up (fun s => alterLine s l (fun _ => { recorded s l pin with held := held }))

/-- The work of a sample that makes a qualified change. -/
def changeSample (s : State) (l : LineId) (pin : PinLevel) (level : Level) : Work :=
  qualifiedChange ((begin s).up (fun s => recordRaw s l pin)) l level

theorem quietSample_fixed (s : State) (l : LineId) (pin : PinLevel) (held : Option Level) :
    (complete (quietSample s l pin held)).fixed = withLine s.fixed l (fun _ => { recorded s l pin with held := held }) :=
  complete_fixed _

/-- Without a qualified change and without an exit to take, a sample reports nothing (R9). -/
theorem quietSample_reports {s : State} (l : LineId) (pin : PinLevel) (held : Option Level) (rests : NoExit s) :
    ReportsQueued s (complete (quietSample s l pin held)) [] := by
  have level : ∀ m, effective (quietSample s l pin held).st m = effective s m := by
    intro m
    refine (effective_alterLine s l m _).trans ?_
    split
    case isTrue here => rw [here]; rfl
    case isFalse => rfl
  have exits : planExit (quietSample s l pin held).st = none := by
    rw [planExit_eq_none_iff]
    exact noExit_of_same level rfl rfl rfl rfl rests
  have ends : complete (quietSample s l pin held) = driveLines (arbiters (quietSample s l pin held).st) := by
    have grants : grantWork (quietSample s l pin held) = quietSample s l pin held := by
      rw [grantWork, planRun_of_noExit exits]
      rfl
    rw [complete, completeWith, grants]
    rfl
  have port : (complete (quietSample s l pin held)).port = s.port := by
    rw [ends, driveLines_of_linkOnly (linkOnly_arbiters _)]
    rfl
  exact ⟨congrArg Port.reports port, congrArg Port.gapFlag port⟩

theorem changeSample_fixed (s : State) (l : LineId) (pin : PinLevel) (level : Level) :
    (complete (changeSample s l pin level)).fixed = (changeOf (recordRaw s l pin) l level).fixed :=
  (complete_fixed _).trans (qualifiedChange_fixed _ _ _)

theorem changeSample_reports (s : State) (l : LineId) (pin : PinLevel) (level : Level) :
    QueuedFirst s [changeReport s l level] (complete (changeSample s l pin level)) := by
  obtain ⟨rest, queued⟩ := qualifiedChange_queued ((begin s).up (fun s => recordRaw s l pin)) l level
  have same : changeReport (recordRaw s l pin) l level = changeReport s l level := by
    unfold changeReport
    rw [recordRaw_at]
    rfl
  rw [Work.up_st, show (begin s).st = s from rfl, same] at queued
  exact closed_complete (closed_queuedFirst s _) ⟨rest, reportsQueued_from queued rfl rfl⟩

section
variable {s : State} {l : LineId} {pin : PinLevel} {level : Level}

theorem samplePin_quiet_of_message (h : (s.setup.lines.at l).source = .message) :
    samplePin (begin s) l pin = quietSample s l pin (s.lines.at l).held := by
  rw [samplePin_of_message (w := begin s) h, quietSample]
  exact congrArg (fun x => (⟨x, Notes.none⟩ : Work)) (recordRaw_eq s l pin)

variable (wired : (s.setup.lines.at l).source = .wired) (seen : levelSeen (s.setup.lines.at l).polarity pin = level)
include wired seen

theorem samplePin_begin : samplePin (begin s) l pin = offerSample ((begin s).up (fun s => recordRaw s l pin)) l level :=
  samplePin_of_wired wired seen

theorem samplePin_of_agrees (h : (recorded s l pin).qualified = some level) :
    samplePin (begin s) l pin = quietSample s l pin none := by
  rw [samplePin_begin wired seen, offerSample_of_agrees (by rw [← recordRaw_at] at h; exact h), quietSample]
  exact congrArg (fun x => (⟨x, Notes.none⟩ : Work)) (recordRaw_held s l pin none)

theorem samplePin_of_first {q : Level} (h : (recorded s l pin).qualified = some q) (differs : q ≠ level)
    (first : (recorded s l pin).held = none) : samplePin (begin s) l pin = quietSample s l pin (some level) := by
  rw [← recordRaw_at] at h first
  rw [samplePin_begin wired seen, offerSample_of_first h differs first, quietSample]
  exact congrArg (fun x => (⟨x, Notes.none⟩ : Work)) (recordRaw_held s l pin (some level))

theorem samplePin_of_second {q : Level} (h : (recorded s l pin).qualified = some q) (differs : q ≠ level)
    (second : (recorded s l pin).held ≠ none) : samplePin (begin s) l pin = changeSample s l pin level := by
  rw [← recordRaw_at] at h second
  rw [samplePin_begin wired seen, offerSample_of_second h differs second]
  rfl

theorem samplePin_of_unqualified_first (h : (recorded s l pin).qualified = none)
    (first : (recorded s l pin).held ≠ some level) : samplePin (begin s) l pin = quietSample s l pin (some level) := by
  rw [← recordRaw_at] at h first
  rw [samplePin_begin wired seen, offerSample_of_unqualified_first h first, quietSample]
  exact congrArg (fun x => (⟨x, Notes.none⟩ : Work)) (recordRaw_held s l pin (some level))

theorem samplePin_of_unqualified_second (h : (recorded s l pin).qualified = none)
    (second : (recorded s l pin).held = some level) : samplePin (begin s) l pin = changeSample s l pin level := by
  rw [← recordRaw_at] at h second
  rw [samplePin_begin wired seen, offerSample_of_unqualified_second h second]
  rfl

end

/-- A sample makes a qualified change, or it does not. -/
theorem samplePin_cases (s : State) (l : LineId) (pin : PinLevel) :
    (∃ held, samplePin (begin s) l pin = quietSample s l pin held)
      ∨ samplePin (begin s) l pin = changeSample s l pin (levelSeen (s.setup.lines.at l).polarity pin) := by
  cases source : (s.setup.lines.at l).source with
  | message => exact .inl ⟨_, samplePin_quiet_of_message source⟩
  | wired =>
    cases q : (recorded s l pin).qualified with
    | none =>
      by_cases second : (recorded s l pin).held = some (levelSeen (s.setup.lines.at l).polarity pin)
      · exact .inr (samplePin_of_unqualified_second source rfl q second)
      · exact .inl ⟨_, samplePin_of_unqualified_first source rfl q second⟩
    | some q' =>
      by_cases agrees : q' = levelSeen (s.setup.lines.at l).polarity pin
      · exact .inl ⟨_, samplePin_of_agrees source rfl (q.trans (congrArg some agrees))⟩
      · by_cases first : (recorded s l pin).held = none
        · exact .inl ⟨_, samplePin_of_first source rfl q agrees first⟩
        · exact .inr (samplePin_of_second source rfl q agrees first)

theorem exec_lineSample {s : State} {l : LineId} {pin : PinLevel} (due : Due s.time (s.lines.at l).nextSample) :
    exec (.lineSample l pin) s = .next (complete (samplePin (begin s) l pin)) := by
  have taken : sampleDue s l = true := (reached_iff _ _).2 due
  simp only [exec, execLineSample, taken, if_true]

/-- What stands when, of the fixed part, one line and the Capacity Unit alone have changed. -/
theorem kept_of_withLine {s t : State} {l : LineId} {x : LineState}
    (h : t.fixed = { withLine s.fixed l (fun _ => x) with cap := t.cap }) :
    t.setup = s.setup ∧ t.store = s.store ∧ HostSideKept s t ∧ (∀ m, m ≠ l → t.lines.at m = s.lines.at m) ∧ t.lines.at l = x := by
  have part {α : Type} (f : Fixed → α) : f t.fixed = f { withLine s.fixed l (fun _ => x) with cap := t.cap } := congrArg f h
  have lines : t.lines = s.lines.alter l (fun _ => x) := part Fixed.lines
  refine ⟨part Fixed.setup, part Fixed.store, ⟨part Fixed.rateInUse, part Fixed.framer, part Fixed.restart, part Fixed.replies,
    part Fixed.tx, part Fixed.dipFlag⟩, fun m other => ?_, ?_⟩
  · rw [lines]; exact Table.alter_at_other _ _ _ _ other
  · rw [lines]; exact Table.alter_at_same _ _ _

/-- A qualified change of a line that this sample makes (R8). -/
def sampledChange (s : State) (l : LineId) (pin : PinLevel) (level : Level) : LineState :=
  (recorded s l pin).changed s.time level

theorem quietSample_leaves (s : State) (l : LineId) (pin : PinLevel) (held : Option Level) :
    (complete (quietSample s l pin held)).fixed = { withLine s.fixed l (fun _ => { recorded s l pin with held := held }) with
      cap := (complete (quietSample s l pin held)).cap } := by
  have fixed := quietSample_fixed s l pin held
  have cap : (complete (quietSample s l pin held)).cap = s.cap := congrArg Fixed.cap fixed
  rw [fixed, cap]
  rfl

theorem changeSample_leaves (s : State) (l : LineId) (pin : PinLevel) (level : Level) :
    (complete (changeSample s l pin level)).fixed = { withLine s.fixed l (fun _ => sampledChange s l pin level) with
      cap := (complete (changeSample s l pin level)).cap } := by
  have fixed := changeSample_fixed s l pin level
  have cap : (complete (changeSample s l pin level)).cap = (changeOf (recordRaw s l pin) l level).cap := congrArg Fixed.cap fixed
  rw [fixed, cap, changeOf_fixed, recordRaw_at, recordRaw_eq, alterLine_fixed, withLine_withLine]
  rfl

/-- Settles O9: by the source of the line, its qualified level and its pending sample. -/
theorem lineSampled : Obligations.LineSampled := by
  intro s l pin due
  have kept : (complete (samplePin (begin s) l pin)).setup = s.setup ∧ (complete (samplePin (begin s) l pin)).store = s.store
      ∧ HostSideKept s (complete (samplePin (begin s) l pin))
      ∧ ∀ m, m ≠ l → (complete (samplePin (begin s) l pin)).lines.at m = s.lines.at m := by
    rcases samplePin_cases s l pin with ⟨held, quiet⟩ | change
    · obtain ⟨setup, store, host, others, _⟩ := kept_of_withLine (quietSample_leaves s l pin held)
      rw [quiet]
      exact ⟨setup, store, host, others⟩
    · obtain ⟨setup, store, host, others, _⟩ := kept_of_withLine (changeSample_leaves s l pin (levelSeen (s.setup.lines.at l).polarity pin))
      rw [change]
      exact ⟨setup, store, host, others⟩
  have quiet_line (held : Option Level) : (complete (quietSample s l pin held)).lines.at l = { recorded s l pin with held := held } :=
    (kept_of_withLine (quietSample_leaves s l pin held)).2.2.2.2
  have change_line (level : Level) : (complete (changeSample s l pin level)).lines.at l = sampledChange s l pin level :=
    (kept_of_withLine (changeSample_leaves s l pin level)).2.2.2.2
  obtain ⟨setup, store, host, others⟩ := kept
  refine ⟨_, recorded s l pin, sampledChange s l pin (levelSeen (s.setup.lines.at l).polarity pin), exec_lineSample due, setup,
    store, host, others, rfl, ?_, ?_, ?_, ?_⟩
  · rintro level rfl
    rfl
  · intro message
    rw [samplePin_quiet_of_message message, quiet_line]
    rfl
  · rintro wired level rfl
    refine ⟨fun agrees => ?_, fun q same differs first => ?_, fun q same differs second => ?_, fun unqualified first => ?_,
      fun unqualified second => ?_, ?_⟩
    · rw [samplePin_of_agrees wired rfl agrees, quiet_line]
    · rw [samplePin_of_first wired rfl same differs first, quiet_line]
    · rw [samplePin_of_second wired rfl same differs second, change_line]
    · rw [samplePin_of_unqualified_first wired rfl unqualified first, quiet_line]
    · rw [samplePin_of_unqualified_second wired rfl unqualified second, change_line]
    · rintro (⟨q, same, differs, second⟩ | ⟨unqualified, second⟩)
      · rw [samplePin_of_second wired rfl same differs second]
        exact changeSample_reports s l pin _
      · rw [samplePin_of_unqualified_second wired rfl unqualified second]
        exact changeSample_reports s l pin _
  · intro rests quiet
    cases source : (s.setup.lines.at l).source with
    | message =>
      rw [samplePin_quiet_of_message source]
      exact quietSample_reports l pin _ rests
    | wired =>
      rcases quiet with message | ⟨level, rfl, agrees | ⟨unqualified, first⟩ | ⟨q, same, differs, first⟩⟩
      · exact absurd (source.symm.trans message) (by decide)
      · rw [samplePin_of_agrees source rfl agrees]
        exact quietSample_reports l pin _ rests
      · rw [samplePin_of_unqualified_first source rfl unqualified first]
        exact quietSample_reports l pin _ rests
      · rw [samplePin_of_first source rfl same differs first]
        exact quietSample_reports l pin _ rests

end Sys2Proof.Proofs.Lines
end
section
/-! PROOFS. LINE-REPORT (R10, R11), SET-LINE (R2, R3), and a line's change in the Capacity Unit (R19 to R27). -/

namespace Sys2Proof.Proofs.Lines

open Sys2Proof.Machine Sys2Proof.Safety Sys2Proof.Proofs.Upkeep Sys2Proof.Proofs.IndicationLines Sys2Proof.Proofs.Ends
open Sys2Proof.Proofs.Capacity

/-! ## An item of a LINE-REPORT (R11) -/

/-- A line with its last report time set. -/
def stamped (s : State) (l : LineId) : LineState := { s.lines.at l with lastReport := some s.time }

/-- The state of a line that a LINE-REPORT gives a level. -/
def itemLine (s : State) (l : LineId) (level : Level) : LineState :=
  if (s.lines.at l).qualified = some level then stamped s l else (stamped s l).changed s.time level

/-- The state with a line's last report time set. -/
def stampLine (s : State) (l : LineId) : State := alterLine s l (fun _ => stamped s l)

theorem stampLine_at (s : State) (l : LineId) : (stampLine s l).lines.at l = stamped s l := alterLine_same _ _ _

theorem applyItem_eq (w : Work) (l : LineId) (level : Level) : applyItem w l level
    = if (w.st.lines.at l).qualified = some level then w.up (fun s => stampLine s l)
      else planRun (qualifiedChange (w.up (fun s => stampLine s l)) l level) := by
  have stamp : w.up (fun s => alterLine s l (fun x => { x with lastReport := some s.time })) = w.up (fun s => stampLine s l) :=
    congrArg (fun x => (⟨w.st.setLines x, w.nt⟩ : Work))
      (Table.ext_at fun m => by simp only [Table.alter_at]; split <;> rfl)
  have qualified : ((w.up (fun s => stampLine s l)).st.lines.at l).qualified = (w.st.lines.at l).qualified := by
    show ((stampLine w.st l).lines.at l).qualified = _
    rw [stampLine_at]
    rfl
  unfold applyItem
  dsimp only
  rw [stamp, qualified]

theorem applyItem_leaves (w : Work) (l : LineId) (level : Level) : (applyItem w l level).st.fixed
    = { withLine w.st.fixed l (fun _ => itemLine w.st l level) with cap := (applyItem w l level).st.cap } := by
  by_cases same : (w.st.lines.at l).qualified = some level
  · rw [applyItem_eq, if_pos same, itemLine, if_pos same]
    rfl
  · have fixed : (applyItem w l level).st.fixed = (changeOf (stampLine w.st l) l level).fixed := by
      rw [applyItem_eq, if_neg same, planRun_fixed]
      exact qualifiedChange_fixed _ _ _
    have cap : (applyItem w l level).st.cap = (changeOf (stampLine w.st l) l level).cap := congrArg Fixed.cap fixed
    rw [fixed, cap, changeOf_fixed, stampLine_at, stampLine, alterLine_fixed, withLine_withLine, itemLine, if_neg same]
    rfl

/-- Of the fixed part, the lines and the Capacity Unit alone have changed. -/
def PlantOnly (s t : State) : Prop := t.fixed = { s.fixed with lines := t.lines, cap := t.cap }

theorem PlantOnly.refl (s : State) : PlantOnly s s := rfl

theorem PlantOnly.trans {s t u : State} (h : PlantOnly s t) (g : PlantOnly t u) : PlantOnly s u := by
  unfold PlantOnly at *; rw [g, h]

theorem PlantOnly.time {s t : State} (h : PlantOnly s t) : t.time = s.time := congrArg Fixed.time h

theorem applyItem_plantOnly (w : Work) (l : LineId) (level : Level) : PlantOnly w.st (applyItem w l level).st := by
  have leaves := applyItem_leaves w l level
  have lines : (applyItem w l level).st.lines = (withLine w.st.fixed l (fun _ => itemLine w.st l level)).lines :=
    congrArg Fixed.lines leaves
  unfold PlantOnly
  rw [leaves, lines]
  rfl

theorem applyItem_lines (w : Work) (l m : LineId) (level : Level) :
    (applyItem w l level).st.lines.at m = if m = l then itemLine w.st l level else w.st.lines.at m := by
  have lines : (applyItem w l level).st.lines = w.st.lines.alter l (fun _ => itemLine w.st l level) :=
    congrArg Fixed.lines (applyItem_leaves w l level)
  rw [lines, Table.alter_at]

/-- One step of a LINE-REPORT over the lines in ascending order. -/
def itemStep (read : List (LineId × Level)) (w : Work) (l : LineId) : Work :=
  match itemFor read l with
  | some level => applyItem w l level
  | none => w

/-- The state that a LINE-REPORT gives a line. -/
def readLine (read : List (LineId × Level)) (s : State) (l : LineId) : LineState :=
  match itemFor read l with
  | some level => itemLine s l level
  | none => s.lines.at l

theorem applyItems_eq (w : Work) (read : List (LineId × Level)) : applyItems w read = (indices 8).foldl (itemStep read) w := rfl

theorem itemStep_plantOnly (read : List (LineId × Level)) (w : Work) (l : LineId) : PlantOnly w.st (itemStep read w l).st := by
  unfold itemStep
  split
  · exact applyItem_plantOnly w l _
  · exact PlantOnly.refl _

theorem itemStep_lines (read : List (LineId × Level)) (w : Work) (l m : LineId) :
    (itemStep read w l).st.lines.at m = if m = l then readLine read w.st l else w.st.lines.at m := by
  unfold itemStep readLine
  split
  · exact applyItem_lines w l m _
  · split
    case isTrue here => rw [here]
    case isFalse => rfl

theorem itemLine_of_same {s t : State} {l : LineId} (time : t.time = s.time) (line : t.lines.at l = s.lines.at l) (level : Level) :
    itemLine t l level = itemLine s l level := by
  unfold itemLine stamped
  rw [time, line]

theorem readLine_of_same (read : List (LineId × Level)) {s t : State} {l : LineId} (time : t.time = s.time)
    (line : t.lines.at l = s.lines.at l) : readLine read t l = readLine read s l := by
  unfold readLine
  split
  · exact itemLine_of_same time line _
  · exact line

theorem foldl_itemStep (read : List (LineId × Level)) : ∀ (ls : List LineId) (w : Work), ls.Nodup →
    PlantOnly w.st (ls.foldl (itemStep read) w).st
      ∧ ∀ m, (ls.foldl (itemStep read) w).st.lines.at m = if m ∈ ls then readLine read w.st m else w.st.lines.at m
  | [], w, _ => ⟨PlantOnly.refl _, fun m => by simp⟩
  | l :: ls, w, distinct => by
    obtain ⟨fresh, distinct⟩ := List.nodup_cons.1 distinct
    obtain ⟨kept, lines⟩ := foldl_itemStep read ls (itemStep read w l) distinct
    have first := itemStep_plantOnly read w l
    refine ⟨first.trans kept, fun m => ?_⟩
    rw [List.foldl_cons, lines m]
    by_cases here : m = l
    · rw [here, if_neg fresh, if_pos List.mem_cons_self, itemStep_lines, if_pos rfl]
    · have line : (itemStep read w l).st.lines.at m = w.st.lines.at m := by rw [itemStep_lines, if_neg here]
      rw [readLine_of_same read first.time line, line]
      simp only [List.mem_cons, here, false_or]

/-- What a LINE-REPORT makes of the fixed part and of each line (R11). -/
theorem applyItems_leaves (w : Work) (read : List (LineId × Level)) :
    PlantOnly w.st (applyItems w read).st ∧ ∀ m, (applyItems w read).st.lines.at m = readLine read w.st m := by
  obtain ⟨kept, lines⟩ := foldl_itemStep read (indices 8) w (indices_nodup 8)
  exact ⟨kept, fun m => (lines m).trans (if_pos (mem_indices m))⟩

/-! ## LINE-REPORT (R10) -/

theorem itemFor_eq_some_iff {read : List (LineId × Level)} (distinct : (read.map (·.1)).Nodup) {l : LineId} {level : Level} :
    itemFor read l = some level ↔ (l, level) ∈ read := by
  induction read with
  | nil => simp [itemFor]
  | cons y read ih =>
    obtain ⟨fresh, distinct⟩ := List.nodup_cons.1 distinct
    have tail := ih distinct
    unfold itemFor at tail ⊢
    rw [List.find?_cons]
    by_cases here : y.1 = l
    · have absent : (l, level) ∉ read := fun mem => fresh (List.mem_map.2 ⟨_, mem, here.symm⟩)
      simp only [beq_iff_eq.2 here, Option.map_some, Option.some.injEq, List.mem_cons, absent, or_false]
      rw [Prod.ext_iff]
      exact ⟨fun e => ⟨here.symm, e.symm⟩, fun e => e.2.symm⟩
    · have other : (y.1 == l) = false := beq_eq_false_iff_ne.2 here
      simp only [other, List.mem_cons]
      rw [tail, Prod.ext_iff]
      simp only [Ne.symm here, false_and, false_or]

theorem itemFor_isSome_iff {read : List (LineId × Level)} (distinct : (read.map (·.1)).Nodup) (l : LineId) :
    (itemFor read l).isSome = true ↔ l ∈ read.map (·.1) := by
  rw [Option.isSome_iff_exists, List.mem_map]
  simp only [itemFor_eq_some_iff distinct]
  exact ⟨fun ⟨level, mem⟩ => ⟨(l, level), mem, rfl⟩, fun ⟨y, mem, here⟩ => ⟨y.2, here ▸ mem⟩⟩

theorem indices_ascending : (indices 8).Pairwise (· < ·) := by decide

theorem reportedLines_line (s : State) (read : List (LineId × Level)) :
    (reportedLines s read).map (·.line) = (indices 8).filter (fun l => (itemFor read l).isSome) := by
  simp [reportedLines, Function.comp_def]

/-- An accepted LINE-REPORT is answered with what its items leave. -/
theorem exec_lineReport {s : State} {tag : Byte} {read : List (LineId × Level)} (taking : Taking s) (low : 1 ≤ read.length)
    (high : read.length ≤ 8) (message : ∀ y ∈ read, (s.setup.lines.at y.1).source = .message)
    (distinct : (read.map (·.1)).Nodup) :
    ∃ t u, exec (.lineReport tag (.fields (read.map MessagePort.itemOf))) s = .next t
      ∧ u = complete (applyItems (begin (setFramer s .hunting)) read)
      ∧ Answered s t .lineReport tag (.reported (reportedLines u read)) ∧ t = u.setPort { u.port with replies := t.port.replies }
      ∧ PlantOnly (setFramer s .hunting) u ∧ ∀ m, u.lines.at m = readLine read s m := by
  obtain ⟨kept, lines⟩ := applyItems_leaves (begin (setFramer s .hunting)) read
  have fixed : (complete (applyItems (begin (setFramer s .hunting)) read)).fixed
      = (applyItems (begin (setFramer s .hunting)) read).st.fixed := complete_fixed _
  obtain ⟨u, made⟩ : ∃ u, u = complete (applyItems (begin (setFramer s .hunting)) read) := ⟨_, rfl⟩
  rw [← made] at fixed
  have only : PlantOnly (setFramer s .hunting) u := by
    have same_lines : u.lines = _ := congrArg Fixed.lines fixed
    have same_cap : u.cap = _ := congrArg Fixed.cap fixed
    unfold PlantOnly
    rw [fixed, same_lines, same_cap]
    exact kept
  have rule : withBody (.fields (read.map MessagePort.itemOf)) ruleLineReport (setFramer s .hunting)
      = accept u (fun x => .reported (reportedLines x read)) := by
    have fits : within 1 8 (read.map MessagePort.itemOf).length = true := by
      rw [List.length_map]; exact (MessagePort.within_iff _ _ _).2 ⟨low, high⟩
    have unwired : read.any (fun y => (lineSettings (setFramer s .hunting) y.1).source == .wired) = false := by
      rw [List.any_eq_false]
      intro y mem wired
      exact absurd ((message y mem).symm.trans (beq_iff_eq.1 wired)) (by decide)
    rw [withBody, ruleLineReport, if_pos fits, MessagePort.readItems_eq_some_iff.2 ⟨rfl, distinct⟩]
    simp only [unwired, Bool.false_eq_true, if_false, made]
  have part {α : Type} (f : Fixed → α) := congrArg f only
  obtain ⟨t, runs, answered, same⟩ := exec_of_accepted (c := .lineReport tag (.fields (read.map MessagePort.itemOf)))
    (kind := .lineReport) (tag := tag) taking rfl rule
    ⟨part Fixed.rateInUse, part Fixed.framer, part Fixed.restart, part Fixed.replies, part Fixed.tx, part Fixed.dipFlag⟩
  refine ⟨t, u, runs, made, answered, same, only, fun m => ?_⟩
  have same_lines : u.lines = _ := congrArg Fixed.lines fixed
  rw [same_lines]
  exact lines m

/-- Settles O10: each line named by its item, and the reply by what then stands. -/
theorem lineReportApplies : Obligations.LineReportApplies := by
  intro s tag items taking low high valid distinct
  obtain ⟨read, found⟩ := MessagePort.exists_readItems
    (fun x mem => by obtain ⟨l, lev, here, _⟩ := valid x mem; exact ⟨l, lev, here⟩) distinct
  obtain ⟨rfl, once⟩ := MessagePort.readItems_eq_some_iff.1 found
  have message : ∀ y ∈ read, (s.setup.lines.at y.1).source = .message := by
    intro y mem
    obtain ⟨l, lev, here, source⟩ := valid _ (List.mem_map.2 ⟨y, mem, rfl⟩)
    have line : y.1 = l := MessagePort.injective_line (congrArg ReportItem.line here)
    rw [line]; exact source
  have named (l : LineId) : l.val + 1 ∈ (read.map MessagePort.itemOf).map (·.line) ↔ l ∈ read.map (·.1) := by
    rw [MessagePort.map_line_itemOf, List.mem_map_of_injective MessagePort.injective_line]
  rw [List.length_map] at low high
  obtain ⟨t, u, runs, _, answered, same, only, lines⟩ := exec_lineReport taking low high message once
  obtain ⟨setup, lines', _, store, _⟩ := fixed_of_answered same
  have part {α : Type} (f : Fixed → α) := congrArg f only
  have views_line (l : LineId) : l ∈ (reportedLines u read).map (·.line) ↔ l.val + 1 ∈ (read.map MessagePort.itemOf).map (·.line) := by
    rw [reportedLines_line, List.mem_filter, itemFor_isSome_iff once, named]
    simp
  refine ⟨t, reportedLines u read, runs, answered, setup.trans (part Fixed.setup), store.trans (part Fixed.store), ?_, ?_,
    views_line, ?_, ?_⟩
  · intro l lev mem
    have item : itemFor read l = some lev := by
      rw [itemFor_eq_some_iff once]
      obtain ⟨y, member, here⟩ := List.mem_map.1 mem
      have line : y.1 = l := MessagePort.injective_line (congrArg ReportItem.line here)
      have level : y.2 = lev := Option.some.inj (congrArg ReportItem.level here)
      rw [← line, ← level]
      exact member
    have line : t.lines.at l = itemLine s l lev := by
      rw [lines', lines l, readLine, item]
    rw [line]
    exact ⟨fun same => if_pos same, fun new => if_neg new⟩
  · intro l unnamed
    have item : itemFor read l = none := by
      rw [← Option.not_isSome_iff_eq_none, itemFor_isSome_iff once, ← named]
      exact unnamed
    rw [lines', lines l, readLine, item]
  · rw [reportedLines_line]
    exact indices_ascending.filter _
  · intro v mem
    obtain ⟨l, _, rfl⟩ := List.mem_map.1 mem
    rw [lines']
    exact ⟨rfl, rfl⟩

end Sys2Proof.Proofs.Lines
end
section
/-! PROOFS. A line's change in the Capacity Unit, by a sample or by a LINE-REPORT (R9, R19 to R27), and SET-LINE (R2, R3). -/

namespace Sys2Proof.Proofs.Lines

open Sys2Proof.Machine Sys2Proof.Safety Sys2Proof.Proofs.Upkeep Sys2Proof.Proofs.IndicationLines Sys2Proof.Proofs.Ends
open Sys2Proof.Proofs.Capacity

/-! ## The trip of a set (R23) -/

theorem foldl_place_reports (rs : List Report) : ∀ {p q : Port}, p.reports = q.reports → p.gapFlag = q.gapFlag →
    (rs.foldl Port.place p).reports = (rs.foldl Port.place q).reports
      ∧ (rs.foldl Port.place p).gapFlag = (rs.foldl Port.place q).gapFlag := by
  induction rs with
  | nil => exact fun reports gap => ⟨reports, gap⟩
  | cons r rs ih =>
    intro p q reports gap
    obtain ⟨reports, gap⟩ := place_reports_congr reports gap r
    exact ih reports gap

theorem reportsQueued_trans {s t u : State} {rs rs' : List Report} (h : ReportsQueued s t rs) (g : ReportsQueued t u rs') :
    ReportsQueued s u (rs ++ rs') := by
  obtain ⟨reports, gap⟩ := foldl_place_reports rs' h.1 h.2
  unfold ReportsQueued
  rw [List.foldl_append, ← reports, ← gap]
  exact g

theorem queuedFirst_trans {s t u : State} {rs rs' : List Report} (h : ReportsQueued s t rs) (g : QueuedFirst t rs' u) :
    QueuedFirst s (rs ++ rs') u := by
  obtain ⟨rest, queued⟩ := g
  exact ⟨rest, by rw [List.append_assoc]; exact reportsQueued_trans h queued⟩

theorem setOfLine_setLineOf (n : SetId) : setOfLine (setLineOf n) = some n := by revert n; decide

/-- An ONLINE set lost while the plan grants is reported before C and S are handed on (R23). -/
theorem handLine_tripped {w : Work} {l : LineId} {n : SetId} (of_set : setOfLine l = some n)
    (online : (w.st.cap.sets.at n).status = .online) (grants : granting w.st = true) :
    QueuedFirst w.st [tripReport (lineChange w.st l .inactive) n (contributes w.st n)] (handLine w l .inactive).st := by
  have H := closed_queuedFirst w.st [tripReport (lineChange w.st l .inactive) n (contributes w.st n)]
  have lost : lineChange w.st l .inactive = recompute (stageChange (setStatus w.st n .offline)) := by
    rw [lineChange_inactive of_set, if_neg (by rw [online]; decide)]
  simp only [handLine, of_set, setInactive, online, grants, if_true]
  refine closed_handCapacity H (closed_offerTrigger H ?_)
  rw [contribution_eq, lost]
  exact ⟨[], reportsQueued_report (reportsQueued_of_port (reportsQueued_refl w.st) rfl rfl) _⟩

/-- The state from which a command's qualified change of a line starts: all of it as it was, but for what a sample or a LINE-REPORT
has written of the line, and the framer. -/
structure Offered (s b : State) (l : LineId) : Prop where
  setup : b.setup = s.setup
  store : b.store = s.store
  time : b.time = s.time
  cap : b.cap = s.cap
  plan : b.plan = s.plan
  level : effective b l = effective s l
  report (level : Level) : changeReport b l level = changeReport s l level
  reports : b.port.reports = s.port.reports
  gap : b.port.gapFlag = s.port.gapFlag

/-- What a command's qualified change of a line leaves of the plant. -/
structure Changed (s b t : State) (l : LineId) (level : Level) : Prop where
  setup : t.setup = s.setup
  store : t.store = s.store
  lines : t.lines = (changedLine b l level).lines
  cap : t.cap = (lineChange (changedLine b l level) l level).cap

theorem Changed.of_fixed {s b t : State} {l : LineId} {level : Level} (h : Offered s b l) (new : effective s l ≠ level)
    (setup : t.setup = (changeOf b l level).setup) (store : t.store = (changeOf b l level).store)
    (lines : t.lines = (changeOf b l level).lines) (cap : t.cap = (changeOf b l level).cap) : Changed s b t l level := by
  have made : changeOf b l level = lineChange (changedLine b l level) l level := if_neg (by rw [h.level]; exact new)
  have kept : changeOf b l level = (changedLine b l level).setCap (changeOf b l level).cap := changeOf_cap _ _ _
  refine ⟨?_, ?_, ?_, by rw [cap, made]⟩
  · rw [setup, kept]; exact h.setup
  · rw [store, kept]; exact h.store
  · rw [lines, kept]; rfl

section
variable {s b t : State} {l : LineId} {level : Level}

theorem Changed.effective (h : Changed s b t l level) : effective t l = level := by
  unfold Machine.effective
  rw [h.lines]
  exact congrArg effectiveOf (alterLine_same b l _)

/-- C and S follow whenever the Capacity Unit has formed them anew. -/
theorem Changed.follows (h : Changed s b t l level) (offered : Offered s b l) {x : State}
    (made : lineChange (changedLine b l level) l level = recompute x) : CapacityFollowsPlant t := by
  have kept := lineChange_cap (changedLine b l level) l level
  have setup : (recompute x).setup = t.setup := by
    rw [← made, kept, h.setup, ← offered.setup]; rfl
  have lines : (recompute x).lines = t.lines := by rw [← made, kept, h.lines]; rfl
  have level_eq (m : LineId) : Machine.effective t m = Machine.effective (recompute x) m := by
    unfold Machine.effective; rw [lines]
  exact capacityFollowsPlant_of_same (capacityFollowsPlant_recompute x) (by rw [h.cap, made]) (by rw [setup]) (by rw [setup])
    (level_eq _) (level_eq _)

/-- What the change of a set's line makes of the sets, the settle timer, C and S (R19, R21, R22, R24, R26). -/
theorem Changed.of_set {n : SetId} (h : Changed s b t (setLineOf n) level) (offered : Offered s b (setLineOf n)) :
    (∀ m, m ≠ n → t.cap.sets.at m = s.cap.sets.at m)
      ∧ (level = .active → (s.setup.sets.at n).enabled = true → (s.cap.sets.at n).status = .offline →
          t.cap.sets.at n = { s.cap.sets.at n with status := .accepting }
            ∧ t.cap.settle = some (s.time + BitVec.ofNat 32 s.setup.limits.settle) ∧ CapacityFollowsPlant t)
      ∧ (level = .inactive → (s.cap.sets.at n).status ≠ .offline →
          t.cap.sets.at n = { s.cap.sets.at n with status := .offline }
            ∧ t.cap.settle = some (s.time + BitVec.ofNat 32 s.setup.limits.settle) ∧ CapacityFollowsPlant t)
      ∧ (level = .active → ((s.setup.sets.at n).enabled = false ∨ (s.cap.sets.at n).status ≠ .offline) → t.cap = s.cap)
      ∧ (level = .inactive → (s.cap.sets.at n).status = .offline → t.cap = s.cap) := by
  have setup : (changedLine b (setLineOf n) level).setup = s.setup := offered.setup
  have time : (changedLine b (setLineOf n) level).time = s.time := offered.time
  have cap : (changedLine b (setLineOf n) level).cap = s.cap := offered.cap
  have turned (st : SetStatus) (made : lineChange (changedLine b (setLineOf n) level) (setLineOf n) level
      = recompute (stageChange (setStatus (changedLine b (setLineOf n) level) n st))) :
      (∀ m, m ≠ n → t.cap.sets.at m = s.cap.sets.at m) ∧ t.cap.sets.at n = { s.cap.sets.at n with status := st }
        ∧ t.cap.settle = some (s.time + BitVec.ofNat 32 s.setup.limits.settle) ∧ CapacityFollowsPlant t := by
    have sets : t.cap.sets = s.cap.sets.alter n (fun r => { r with status := st }) := by rw [h.cap, made, ← cap]; rfl
    refine ⟨fun m other => by rw [sets, Table.alter_at_other _ _ _ _ other], by rw [sets, Table.alter_at_same], ?_,
      h.follows offered made⟩
    rw [h.cap, made, ← time, ← setup]
    rfl
  have idle (made : lineChange (changedLine b (setLineOf n) level) (setLineOf n) level = changedLine b (setLineOf n) level) :
      t.cap = s.cap := by rw [h.cap, made, cap]
  have of_line := setOfLine_setLineOf n
  cases level with
  | active =>
    have made := lineChange_active (s := changedLine b (setLineOf n) .active) of_line
    rw [setup, cap] at made
    by_cases gained : (s.setup.sets.at n).enabled = true ∧ (s.cap.sets.at n).status = .offline
    · obtain ⟨others, set, settle, follows⟩ := turned .accepting (made.trans (if_pos (by simp [gained])))
      refine ⟨others, fun _ _ _ => ⟨set, settle, follows⟩, by simp, fun _ other => ?_, by simp⟩
      rcases other with disabled | busy
      · exact absurd (gained.1.symm.trans disabled) (by decide)
      · exact absurd gained.2 busy
    · have same := idle (made.trans (if_neg (by simpa using gained)))
      exact ⟨fun _ _ => by rw [same], fun _ on off => absurd ⟨on, off⟩ gained, by simp, fun _ _ => same, by simp⟩
  | inactive =>
    have made := lineChange_inactive (s := changedLine b (setLineOf n) .inactive) of_line
    rw [cap] at made
    by_cases off : (s.cap.sets.at n).status = .offline
    · have same := idle (made.trans (if_pos off))
      exact ⟨fun _ _ => by rw [same], by simp, fun _ busy => absurd off busy, by simp, fun _ _ => same⟩
    · obtain ⟨others, set, settle, follows⟩ := turned .offline (made.trans (if_neg off))
      exact ⟨others, by simp, fun _ _ => ⟨set, settle, follows⟩, by simp, fun _ idle => absurd idle off⟩

/-- A change of LBNK or PREALM starts the settle timer and has C and S formed anew; one of UTIL or RETX does neither (R19, R25,
R26). -/
theorem Changed.of_plant (h : Changed s b t l level) (offered : Offered s b l) :
    (l = bankLine ∨ l = alarmLine →
        t.cap.sets = s.cap.sets ∧ t.cap.settle = some (s.time + BitVec.ofNat 32 s.setup.limits.settle)
          ∧ CapacityFollowsPlant t)
      ∧ (l = utilLine ∨ l = retxLine → t.cap = s.cap) := by
  have cap : (changedLine b l level).cap = s.cap := offered.cap
  have setup : (changedLine b l level).setup = s.setup := offered.setup
  have time : (changedLine b l level).time = s.time := offered.time
  constructor
  · intro here
    have no_set : setOfLine l = none := by rcases here with rfl | rfl <;> decide
    have made : lineChange (changedLine b l level) l level = recompute (stageChange (changedLine b l level)) :=
      (lineChange_plant level no_set).trans (if_pos here)
    refine ⟨?_, ?_, h.follows offered made⟩
    · rw [h.cap, made, ← cap]; rfl
    · rw [h.cap, made, ← time, ← setup]; rfl
  · intro here
    have no_set : setOfLine l = none := by rcases here with rfl | rfl <;> decide
    have other : ¬ (l = bankLine ∨ l = alarmLine) := by rcases here with rfl | rfl <;> decide
    rw [h.cap, lineChange_plant level no_set, if_neg other, cap]

end

/-- The two reports of an ONLINE set lost while the plan grants (R9, R23). -/
theorem qualifiedChange_tripped {w : Work} {n : SetId} (online : (w.st.cap.sets.at n).status = .online)
    (grants : granting w.st = true) (new : effective w.st (setLineOf n) ≠ .inactive) :
    QueuedFirst w.st [changeReport w.st (setLineOf n) .inactive,
        tripReport (lineChange (changedLine w.st (setLineOf n) .inactive) (setLineOf n) .inactive) n (contributes w.st n)]
      (qualifiedChange w (setLineOf n) .inactive).st := by
  have begun : ReportsQueued w.st (changedLine w.st (setLineOf n) .inactive) [changeReport w.st (setLineOf n) .inactive] := by
    rw [changedLine, lineEvent_eq_changeReport]
    exact reportsQueued_report (reportsQueued_of_port (reportsQueued_refl w.st) rfl rfl) _
  have tripped := handLine_tripped (w := w.up (fun s => changedLine s (setLineOf n) .inactive)) (setOfLine_setLineOf n) online grants
  have made : qualifiedChange w (setLineOf n) .inactive
      = handLine (w.up (fun s => changedLine s (setLineOf n) .inactive)) (setLineOf n) .inactive := if_neg new
  rw [made]
  exact queuedFirst_trans begun tripped

theorem queuedFirst_from {s b t : State} {rs : List Report} (h : QueuedFirst b rs t) (reports : s.port.reports = b.port.reports)
    (gap : s.port.gapFlag = b.port.gapFlag) : QueuedFirst s rs t := by
  obtain ⟨rest, queued⟩ := h
  exact ⟨rest, reportsQueued_from queued reports gap⟩

/-- A command's qualified change: the state it starts from, what it leaves of the plant, and that the reports of the change are
queued first. -/
structure Makes (c : Instr) (s : State) (l : LineId) (level : Level) (w : Work) (t : State) : Prop where
  runs : exec c s = .next t
  new : effective s l ≠ level
  offered : Offered s w.st l
  changed : Changed s w.st t l level
  first : ∀ rs, QueuedFirst w.st rs (qualifiedChange w l level).st → QueuedFirst s rs t

theorem makes_of_sample {s : State} {l : LineId} {pin : PinLevel} {level : Level} (h : QualifiesAt s l pin level) :
    Makes (.lineSample l pin) s l level ((begin s).up (fun s => recordRaw s l pin)) (complete (changeSample s l pin level)) := by
  obtain ⟨wired, due, seen, new, qualifies⟩ := h
  have taken : samplePin (begin s) l pin = changeSample s l pin level := by
    rcases qualifies with ⟨⟨q, same, differs⟩, second⟩ | ⟨unqualified, second⟩
    · exact samplePin_of_second wired seen same differs second
    · exact samplePin_of_unqualified_second wired seen unqualified second
  have level_eq : effective (recordRaw s l pin) l = effective s l := by
    unfold effective
    rw [recordRaw_at]
    rfl
  have report (level : Level) : changeReport (recordRaw s l pin) l level = changeReport s l level := by
    unfold changeReport
    rw [recordRaw_at]
    rfl
  have offered : Offered s (recordRaw s l pin) l := ⟨rfl, rfl, rfl, rfl, rfl, level_eq, report, rfl, rfl⟩
  have fixed := changeSample_fixed s l pin level
  have first (rs : List Report) (queued : QueuedFirst (recordRaw s l pin) rs (changeSample s l pin level).st) :
      QueuedFirst s rs (complete (changeSample s l pin level)) :=
    queuedFirst_from (closed_complete (closed_queuedFirst (recordRaw s l pin) rs) queued) rfl rfl
  have runs := exec_lineSample (pin := pin) due
  rw [taken] at runs
  generalize complete (changeSample s l pin level) = t at runs fixed first
  exact ⟨runs, new, offered, Changed.of_fixed offered new (congrArg Fixed.setup fixed) (congrArg Fixed.store fixed)
    (congrArg Fixed.lines fixed) (congrArg Fixed.cap fixed), first⟩

theorem foldl_single {α β : Type} {f : β → α → β} {a : α} : ∀ {l : List α} {b : β}, a ∈ l → l.Nodup →
    (∀ b x, x ≠ a → f b x = b) → l.foldl f b = f b a
  | x :: l, b, mem, distinct, others => by
    obtain ⟨fresh, distinct⟩ := List.nodup_cons.1 distinct
    rw [List.foldl_cons]
    by_cases here : x = a
    · have rest : ∀ (m : List α) (b : β), a ∉ m → m.foldl f b = b := by
        intro m
        induction m with
        | nil => exact fun _ _ => rfl
        | cons y m ih =>
          intro b absent
          rw [List.mem_cons, not_or] at absent
          rw [List.foldl_cons, others b y (Ne.symm absent.1), ih b absent.2]
      rw [here, rest l _ (here ▸ fresh)]
    · rw [others b x here]
      exact foldl_single ((List.mem_cons.1 mem).resolve_left (Ne.symm here)) distinct others

theorem applyItems_single (w : Work) (l : LineId) (level : Level) : applyItems w [(l, level)] = applyItem w l level := by
  have only : ∀ m, itemFor [(l, level)] m = if m = l then some level else none := by
    intro m
    by_cases here : m = l
    · simp [itemFor, here]
    · simp [itemFor, here, Ne.symm here]
  rw [applyItems_eq, foldl_single (mem_indices l) (indices_nodup 8)]
  · simp only [itemStep, only, if_true]
  · intro w m other
    simp only [itemStep, only, if_neg other]

theorem makes_of_report {s : State} {l : LineId} {tag : Byte} {level : Level} (taking : Taking s)
    (message : (s.setup.lines.at l).source = .message) (new : effective s l ≠ level) :
    ∃ t, Makes (.lineReport tag (.fields [⟨l.val + 1, some level⟩])) s l level
      ((begin (setFramer s .hunting)).up (fun s => stampLine s l)) t := by
  obtain ⟨t, u, runs, made, _, same, _⟩ := exec_lineReport (tag := tag) (read := [(l, level)]) taking (le_refl 1) (by simp)
    (by simpa using message) (by simp)
  have unqualified : (s.lines.at l).qualified ≠ some level := by
    intro here
    refine new ?_
    unfold effective effectiveOf
    rw [here]
    rfl
  rw [applyItems_single, applyItem_eq, if_neg (show ((begin (setFramer s .hunting)).st.lines.at l).qualified ≠ some level from
    unqualified)] at made
  have level_eq : effective (stampLine (setFramer s .hunting) l) l = effective s l :=
 by
    unfold effective
    rw [stampLine_at]
    rfl
  have report (level : Level) : changeReport (stampLine (setFramer s .hunting) l) l level = changeReport s l level := by
    unfold changeReport
    rw [stampLine_at]
    rfl
  have offered : Offered s (stampLine (setFramer s .hunting) l) l := ⟨rfl, rfl, rfl, rfl, rfl, level_eq, report, rfl, rfl⟩
  have fixed : u.fixed = (changeOf (stampLine (setFramer s .hunting) l) l level).fixed := by
    rw [made, complete_fixed, planRun_fixed]
    exact qualifiedChange_fixed _ _ _
  obtain ⟨setup, lines, cap, store, _⟩ := fixed_of_answered same
  refine ⟨t, runs, new, offered, ?_, fun rs queued => ?_⟩
  · exact Changed.of_fixed offered new (setup.trans (congrArg Fixed.setup fixed)) (store.trans (congrArg Fixed.store fixed))
      (lines.trans (congrArg Fixed.lines fixed)) (cap.trans (congrArg Fixed.cap fixed))
  · have H := closed_queuedFirst (stampLine (setFramer s .hunting) l) rs
    obtain ⟨rest, ends⟩ : QueuedFirst (stampLine (setFramer s .hunting) l) rs u := by
      rw [made]
      exact closed_complete H (closed_planRun H queued)
    refine queuedFirst_from ⟨rest, reportsQueued_of_port ends ?_ ?_⟩ rfl rfl
    · rw [same]; rfl
    · rw [same]; rfl

theorem makes_of_changesLine {c : Instr} {s : State} {l : LineId} {level : Level} (h : ChangesLine c s l level) :
    ∃ w t, Makes c s l level w t := by
  rcases h with ⟨pin, rfl, qualifies⟩ | ⟨tag, rfl, taking, message, new⟩
  · exact ⟨_, _, makes_of_sample qualifies⟩
  · obtain ⟨t, makes⟩ := makes_of_report (tag := tag) taking message new
    exact ⟨_, t, makes⟩

/-- The SET-TRIP report of a set that this change loses. -/
def lossReport (s t : State) (n : SetId) : Report :=
  .setTrip
    { set := n, time := s.time, plan := s.plan.state, contribution := contributes s n, c := t.cap.c,
      sink := t.cap.sink, online := setsWith t .online, accepting := setsWith t .accepting }

theorem Makes.reports {c : Instr} {s t : State} {l : LineId} {level : Level} {w : Work} (h : Makes c s l level w t) :
    QueuedFirst s [changeReport s l level] t := by
  rw [← h.offered.report]
  exact h.first _ (qualifiedChange_queued w l level)

theorem Makes.loss {c : Instr} {s t : State} {n : SetId} {w : Work} (h : Makes c s (setLineOf n) .inactive w t)
    (online : (s.cap.sets.at n).status = .online) (grants : Granting s) :
    QueuedFirst s [changeReport s (setLineOf n) .inactive, lossReport s t n] t := by
  have offered := h.offered
  have tripped := qualifiedChange_tripped (w := w) (n := n) (by rw [offered.cap]; exact online)
    (by rw [MessagePort.granting_iff, Granting, offered.plan]; exact grants) (by rw [offered.level]; exact h.new)
  have cap := h.changed.cap
  have contribution : contributes w.st n = contributes s n := by
    unfold contributes
    rw [offered.cap, offered.setup]
  have report : tripReport (lineChange (changedLine w.st (setLineOf n) .inactive) (setLineOf n) .inactive) n (contributes w.st n)
      = lossReport s t n := by
    have kept := lineChange_cap (changedLine w.st (setLineOf n) .inactive) (setLineOf n) .inactive
    have time : (lineChange (changedLine w.st (setLineOf n) .inactive) (setLineOf n) .inactive).time = s.time := by
      rw [kept]; exact offered.time
    have plan : (lineChange (changedLine w.st (setLineOf n) .inactive) (setLineOf n) .inactive).plan.state = s.plan.state := by
      rw [kept]; exact congrArg PlanCtl.state offered.plan
    unfold tripReport lossReport setsWith
    rw [time, plan, contribution, cap]
  rw [report, offered.report] at tripped
  exact h.first _ tripped

/-- Settles O14: what the change leaves of the plant, and its reports, in either form of the command. -/
theorem setLineDrivesStatus : Obligations.SetLineDrivesStatus := by
  intro s l level c changes
  obtain ⟨w, t, makes⟩ := makes_of_changesLine changes
  have plant := makes.changed.of_plant makes.offered
  by_cases trips : ∃ n : SetId, l = setLineOf n ∧ level = .inactive ∧ (s.cap.sets.at n).status = .online ∧ Granting s
  · obtain ⟨n, rfl, rfl, online, grants⟩ := trips
    obtain ⟨rest, queued⟩ := makes.loss online grants
    refine ⟨t, rest, makes.runs, makes.changed.setup, makes.changed.store, makes.changed.effective, ?_, plant.1, plant.2,
      fun none => absurd ⟨rfl, online, grants⟩ (none n rfl)⟩
    intro m here
    obtain rfl : n = m := Fin.ext (Nat.succ.inj (congrArg Fin.val here))
    obtain ⟨others, gained, lost, idle_active, idle_inactive⟩ := makes.changed.of_set makes.offered
    exact ⟨others, gained, lost, idle_active, idle_inactive, fun _ _ _ => queued⟩
  · obtain ⟨rest, queued⟩ := makes.reports
    refine ⟨t, rest, makes.runs, makes.changed.setup, makes.changed.store, makes.changed.effective, ?_, plant.1, plant.2,
      fun _ => queued⟩
    rintro n rfl
    obtain ⟨others, gained, lost, idle_active, idle_inactive⟩ := makes.changed.of_set makes.offered
    exact ⟨others, gained, lost, idle_active, idle_inactive, fun off online grants =>
      absurd ⟨n, rfl, off, online, grants⟩ trips⟩

/-! ## SET-LINE (R2, R3) -/

/-- The state of a line as new settings leave it: as it was, with its timer restarted, or restarted itself, by what differs. -/
def resetLine (s : State) (l : LineId) (new : LineSettings) : LineState :=
  if (s.setup.lines.at l).polarity = new.polarity ∧ (s.setup.lines.at l).source = new.source then
    if (s.setup.lines.at l).period = new.period then s.lines.at l
    else { s.lines.at l with nextSample := s.time + BitVec.ofNat 32 new.period }
  else
    { s.lines.at l with
      qualified := none, held := none, nextSample := restartedSample s (s.setup.lines.at l) new (s.lines.at l) }

theorem withLine_self (s : State) (l : LineId) : withLine s.fixed l (fun _ => s.lines.at l) = s.fixed := by
  have lines : s.lines.alter l (fun _ => s.lines.at l) = s.lines :=
    Table.ext_at fun m => by
      rw [Table.alter_at]
      split
      case isTrue here => rw [here]
      case isFalse => rfl
  show { s.fixed with lines := s.lines.alter l (fun _ => s.lines.at l) } = s.fixed
  rw [lines]
  rfl

theorem alterLine_withLine (s : State) (l : LineId) (f : LineState → LineState) :
    (alterLine s l f).fixed = withLine s.fixed l (fun _ => f (s.lines.at l)) := by
  have lines : s.lines.alter l f = s.lines.alter l (fun _ => f (s.lines.at l)) :=
    Table.ext_at fun m => by simp only [Table.alter_at]
  show { s.fixed with lines := s.lines.alter l f } = _
  rw [lines]
  rfl

theorem handLine_only (w : Work) (l : LineId) (level : Level) :
    (handLine w l level).st.fixed = { w.st.fixed with cap := (handLine w l level).st.cap } := by
  have fixed := handLine_fixed w l level
  have cap : (handLine w l level).st.cap = (lineChange w.st l level).cap := congrArg Fixed.cap fixed
  rw [fixed, cap, lineChange_cap]
  rfl

/-- What SET-LINE makes of the fixed part: the settings, the line and the Capacity Unit. -/
theorem changeLine_leaves (w : Work) (l : LineId) (new : LineSettings) : (changeLine w l new).st.fixed
    = { withLine (storeLine w.st l new).fixed l (fun _ => resetLine w.st l new) with cap := (changeLine w l new).st.cap } := by
  unfold changeLine resetLine
  dsimp only
  split
  case isTrue same =>
    rw [if_pos (show (w.st.setup.lines.at l).polarity = new.polarity ∧ (w.st.setup.lines.at l).source = new.source from same)]
    split
    case isTrue period =>
      rw [if_pos (show (w.st.setup.lines.at l).period = new.period from period)]
      exact (withLine_self (storeLine w.st l new) l).symm
    case isFalse period =>
      rw [if_neg (show ¬ (w.st.setup.lines.at l).period = new.period from period)]
      exact alterLine_withLine (storeLine w.st l new) l _
  case isFalse differs =>
    rw [if_neg (show ¬ ((w.st.setup.lines.at l).polarity = new.polarity ∧ (w.st.setup.lines.at l).source = new.source) from differs)]
    split
    case isFalse => exact alterLine_withLine (storeLine w.st l new) l _
    case isTrue =>
      rw [handLine_only]
      have restarted := alterLine_withLine (storeLine w.st l new) l (fun y =>
        { y with qualified := none, held := none, nextSample := restartedSample w.st (lineSettings w.st l) new y })
      have with_cap (k : Capacity) := congrArg (fun x : Fixed => { x with cap := k }) restarted
      exact with_cap _

theorem changeLine_plan (w : Work) (l : LineId) (new : LineSettings) : (changeLine w l new).st.plan = w.st.plan := by
  unfold changeLine
  dsimp only
  repeat' split
  · rfl
  · rfl
  · exact handLine_plan _ _ _
  · rfl

/-- Settles O12: by what of the settings differs. -/
theorem setLineTakesEffect : Obligations.SetLineTakesEffect := by
  intro s tag l pol per src writable taking period
  obtain ⟨u, made⟩ : ∃ u, u = complete (changeLine (begin (markModified (setFramer s .hunting))) l ⟨pol, per, src⟩) := ⟨_, rfl⟩
  have leaves := changeLine_leaves (begin (markModified (setFramer s .hunting))) l ⟨pol, per, src⟩
  have plan' := changeLine_plan (begin (markModified (setFramer s .hunting))) l ⟨pol, per, src⟩
  have halted : complete (changeLine (begin (markModified (setFramer s .hunting))) l ⟨pol, per, src⟩) = driveLines _ :=
    complete_halted _ (by rw [plan']; exact writable.1)
  have plan : u.plan = s.plan := by rw [made, halted]; exact plan'
  have fixed : u.fixed = (changeLine (begin (markModified (setFramer s .hunting))) l ⟨pol, per, src⟩).st.fixed := by
    rw [made]; exact complete_fixed _
  rw [leaves] at fixed
  have rule : withBody (.fields ⟨l.val + 1, some pol, per, some src⟩) ruleSetLine (setFramer s .hunting)
      = accept u (fun y => .line ⟨lineSettings y l, (y.lines.at l).qualified⟩) := by
    have checked : checkLine ⟨l.val + 1, some pol, per, some src⟩ = some ⟨pol, per, src⟩ := by
      simp only [checkLine]
      rw [if_pos (by simpa [isPeriod] using period)]
    rw [withBody, ruleSetLine, inHalted_of_writable (s := setFramer s .hunting) writable]
    simp only [numbered_val, checked, made]
  have part {α : Type} (p : Fixed → α) := congrArg p fixed
  obtain ⟨t, runs, answered, same⟩ := exec_of_accepted (c := .setLine tag (.fields ⟨l.val + 1, some pol, per, some src⟩))
    (kind := .setLine) (tag := tag) taking rfl rule
    ⟨part Fixed.rateInUse, part Fixed.framer, part Fixed.restart, part Fixed.replies, part Fixed.tx, part Fixed.dipFlag⟩
  obtain ⟨setup, lines, _, store, plan'', _⟩ := fixed_of_answered same
  have setup_eq : t.setup = { s.setup with lines := s.setup.lines.put l ⟨pol, per, src⟩ } := setup.trans (part Fixed.setup)
  have lines_eq : t.lines = s.lines.alter l (fun _ => resetLine s l ⟨pol, per, src⟩) := lines.trans (part Fixed.lines)
  have line : t.lines.at l = resetLine s l ⟨pol, per, src⟩ := by rw [lines_eq, Table.alter_at_same]
  have view : lineSettings u l = ⟨pol, per, src⟩ := by
    rw [lineSettings, ← setup, setup_eq, Table.put_at_same]
  rw [view, ← lines] at answered
  refine ⟨t, runs, by rw [setup_eq], by rw [setup_eq, Table.put_at_same], fun m other =>
    ⟨by rw [setup_eq, Table.put_at_other _ _ _ _ other], by rw [lines_eq, Table.alter_at_other _ _ _ _ other]⟩,
    store.trans (part Fixed.store), plan''.trans plan, answered, ?_, ?_, ?_⟩
  · intro unchanged
    rw [line, resetLine, unchanged, if_pos ⟨rfl, rfl⟩, if_pos rfl]
  · intro polarity source differs
    rw [line, resetLine, if_pos ⟨polarity, source⟩, if_neg differs]
  · intro differs
    have restarts : resetLine s l ⟨pol, per, src⟩ = { s.lines.at l with
        qualified := none, held := none
        nextSample := restartedSample s (s.setup.lines.at l) ⟨pol, per, src⟩ (s.lines.at l) } := by
      refine if_neg fun same => ?_
      exact differs.elim (fun other => other same.1) (fun other => other same.2)
    rw [line, restarts]
    refine ⟨rfl, ?_⟩
    rintro rfl
    rfl

end Sys2Proof.Proofs.Lines
end
section
/-! PROOFS. The link arbiter's choice (R65) and the request of an exchange (R55). -/

namespace Sys2Proof.Proofs.Arbiter

open Sys2Proof.Machine Sys2Proof.Safety Sys2Proof.Proofs.Upkeep Sys2Proof.Proofs.Ends

/-- `eldest` finds the car of the greatest age, of equals the one of the lower drop. -/
theorem eldest_spec {s : State} {age : CarId → Nat} : ∀ {cars : List CarId} {c : CarId}, eldest s age cars = some c →
    Eldest s age cars c
  | c :: rest, x, found => by
    rw [eldest] at found
    cases tail : eldest s age rest with
    | none =>
      have alone : rest = [] := by
        by_contra cars
        have some := eldest_isSome s age cars
        rw [tail] at some
        cases some
      rw [tail] at found
      cases found
      refine ⟨List.mem_cons_self, fun d mem => ?_⟩
      rw [alone, List.mem_singleton] at mem
      exact .inr ⟨congrArg age mem, by rw [mem]⟩
    | some d =>
      obtain ⟨member, first⟩ := eldest_spec tail
      rw [tail] at found
      dsimp only at found
      split at found
      case isTrue younger =>
        cases found
        refine ⟨List.mem_cons_of_mem _ member, fun x mem => ?_⟩
        rcases List.mem_cons.1 mem with rfl | mem
        · exact younger.imp id (fun h => ⟨h.1, le_of_lt h.2⟩)
        · exact first x mem
      case isFalse elder =>
        cases found
        rw [not_or, not_and] at elder
        obtain ⟨not_older, order⟩ := elder
        refine ⟨List.mem_cons_self, fun x mem => ?_⟩
        rcases List.mem_cons.1 mem with rfl | mem
        · exact .inr ⟨rfl, le_refl _⟩
        · rcases first x mem with older | ⟨same, drop⟩
          · exact .inl (by omega)
          · by_cases equal : age c = age d
            · have above := order equal
              exact .inr ⟨by omega, by omega⟩
            · exact .inl (by omega)

theorem exists_eldest {s : State} {age : CarId → Nat} {cars : List CarId} (some_car : cars ≠ []) :
    ∃ c, eldest s age cars = some c ∧ Eldest s age cars c := by
  obtain ⟨c, found⟩ := Option.isSome_iff_exists.1 (eldest_isSome s age some_car)
  exact ⟨c, found, eldest_spec found⟩

/-! ## The choice (R65) -/

/-- The URGENT class is passed over: four URGENT exchanges in a row, and a due car. -/
def Passed (s : State) (k : Link) : Prop := 4 ≤ (linkLine s k).urgentRun ∧ dueCars s k ≠ []

section
variable {s : State} {k : Link}

theorem choose_of_passed (h : Passed s k) : choose s k = (otherChoice s k).map (fun c => ⟨c, false⟩) := by
  have skip : (decide (Config.urgentLimit ≤ (linkLine s k).urgentRun) && !(dueCars s k).isEmpty) = true := by
    simp [Config.urgentLimit, h.1, h.2]
  simp only [choose, skip, if_true]

theorem choose_of_not_passed (h : ¬ Passed s k) : choose s k
    = match eldest s (slotAge s) (urgentCars s k) with
      | some c => some ⟨c, true⟩
      | none => (otherChoice s k).map (fun c => ⟨c, false⟩) := by
  have skip : (decide (Config.urgentLimit ≤ (linkLine s k).urgentRun) && !(dueCars s k).isEmpty) = false := by
    rw [← Bool.not_eq_true]
    intro skip
    rw [Bool.and_eq_true, Bool.not_eq_true', List.isEmpty_eq_false_iff] at skip
    exact h ⟨of_decide_eq_true skip.1, skip.2⟩
  simp only [choose, skip, Bool.false_eq_true, if_false] <;> rfl

theorem choose_urgent (h : ¬ Passed s k) (urgent : urgentCars s k ≠ []) :
    ∃ x, choose s k = some x ∧ x.urgent = true ∧ Eldest s (slotAge s) (urgentCars s k) x.car := by
  obtain ⟨c, found, first⟩ := exists_eldest (s := s) (age := slotAge s) urgent
  exact ⟨⟨c, true⟩, by rw [choose_of_not_passed h, found], rfl, first⟩

/-- Without an URGENT choice, the choice is that of the other classes. -/
theorem choose_other (h : Passed s k ∨ urgentCars s k = []) {c : CarId} (found : otherChoice s k = some c) :
    choose s k = some ⟨c, false⟩ := by
  by_cases passed : Passed s k
  · rw [choose_of_passed passed, found]; rfl
  · rw [choose_of_not_passed passed, h.resolve_left passed, found]
    rfl

theorem choose_due (h : Passed s k ∨ urgentCars s k = []) (due : dueCars s k ≠ []) :
    ∃ x, choose s k = some x ∧ x.urgent = false ∧ Eldest s (pollAge s) (dueCars s k) x.car := by
  obtain ⟨c, found, first⟩ := exists_eldest (s := s) (age := pollAge s) due
  exact ⟨⟨c, false⟩, choose_other h (by rw [otherChoice, found]), rfl, first⟩

theorem choose_normal (urgent : urgentCars s k = []) (due : dueCars s k = []) (normal : normalCars s k ≠ []) :
    ∃ x, choose s k = some x ∧ x.urgent = false ∧ Eldest s (slotAge s) (normalCars s k) x.car := by
  obtain ⟨c, found, first⟩ := exists_eldest (s := s) (age := slotAge s) normal
  exact ⟨⟨c, false⟩, choose_other (.inr urgent) (by rw [otherChoice, due, found]; rfl), rfl, first⟩

theorem choose_any (urgent : urgentCars s k = []) (due : dueCars s k = []) (normal : normalCars s k = [])
    (cars : linkCars s k ≠ []) :
    ∃ x, choose s k = some x ∧ x.urgent = false ∧ Eldest s (pollAge s) (linkCars s k) x.car := by
  obtain ⟨c, found, first⟩ := exists_eldest (s := s) (age := pollAge s) cars
  exact ⟨⟨c, false⟩, choose_other (.inr urgent) (by rw [otherChoice, due, normal, found]; rfl), rfl, first⟩

theorem choose_of_no_cars (no_cars : linkCars s k = []) : choose s k = none := by
  simp [choose, otherChoice, urgentCars, dueCars, normalCars, no_cars, eldest]

end

/-! ## The request in flight (R55) -/

theorem linkOut_of_exchange {s : State} {k : Link} {x : Exchange} (h : (linkLine s k).exchange = some x) :
    linkOut s k = some (requestFrame (profile s x.car).drop x.request) := by
  rw [linkOut, h]
  rfl

/-- Settles O30: by what of the classes is empty, and by the kind of the request. -/
theorem arbiterLimitsUrgent : Obligations.ArbiterLimitsUrgent := by
  intro s k
  refine ⟨fun run due => choose_due (.inl ⟨run, due⟩) due, fun open_class => ?_, fun idle => by simp [linkOut, idle],
    fun x exchange => ?_⟩
  · have not_passed : ¬ Passed s k := fun passed =>
      open_class.elim (fun few => absurd passed.1 (by omega)) (fun none => passed.2 none)
    exact ⟨choose_urgent not_passed, fun urgent => choose_due (.inr urgent), choose_normal, choose_any, choose_of_no_cars⟩
  · obtain ⟨lo, hi, bytes, crc⟩ : ∃ lo hi : Byte, crcField (crc16 (requestCovered (profile s x.car).drop x.request)) = [lo, hi]
        ∧ crc16 (requestCovered (profile s x.car).drop x.request) = hi ++ lo := ⟨_, _, rfl, (MessagePort.append_extract _).symm⟩
    refine ⟨Config.linkCode (requestKind x.request), lo, hi, requestTarget x.request, ?_, crc, ?_, ?_⟩
    · rw [linkOut_of_exchange exchange, requestFrame, bytes]
      rfl
    · intro poll
      rw [poll]
      exact ⟨rfl, rfl, rfl⟩
    · intro cmd command
      rw [command]
      refine ⟨rfl, rfl, fun f run_to target => ?_, fun other => ?_⟩
      · rw [requestTarget, if_pos run_to, target]; rfl
      · rw [requestTarget, if_neg other]

end Sys2Proof.Proofs.Arbiter
end
section
/-! PROOFS. Shedding (R101, R102): who is a candidate, in which order candidates are taken, and what a run leaves. -/

namespace Sys2Proof.Proofs.Shedding

open Sys2Proof.Machine Sys2Proof.Safety Sys2Proof.Proofs.Upkeep Sys2Proof.Proofs.Account

/-! ## Lists -/

section
variable {α : Type}

theorem perm_insertBy (before : α → α → Bool) (x : α) : ∀ l : List α, (insertBy before x l).Perm (x :: l)
  | [] => List.Perm.refl _
  | y :: ys => by
    unfold insertBy
    split
    · exact List.Perm.refl _
    · exact ((perm_insertBy before x ys).cons y).trans (List.Perm.swap x y ys)

theorem perm_sortBy (before : α → α → Bool) : ∀ l : List α, (sortBy before l).Perm l
  | [] => List.Perm.refl _
  | x :: xs => (perm_insertBy before x _).trans ((perm_sortBy before xs).cons x)

/-- A list sorted by a key stands in its order. -/
theorem pairwise_insertBy {key : α → Nat} (x : α) : ∀ {l : List α}, l.Pairwise (fun a b => key b ≤ key a) →
    (insertBy (fun a b => decide (key b ≤ key a)) x l).Pairwise (fun a b => key b ≤ key a)
  | [], _ => List.pairwise_singleton _ _
  | y :: ys, sorted => by
    obtain ⟨above, tail⟩ := List.pairwise_cons.1 sorted
    unfold insertBy
    split
    case isTrue first =>
      have le : key y ≤ key x := of_decide_eq_true first
      refine List.pairwise_cons.2 ⟨fun z mem => ?_, sorted⟩
      rcases List.mem_cons.1 mem with rfl | mem
      · exact le
      · exact (above z mem).trans le
    case isFalse later =>
      have le : key x ≤ key y := by
        have := of_decide_eq_false (Bool.not_eq_true _ ▸ later)
        omega
      refine List.pairwise_cons.2 ⟨fun z mem => ?_, pairwise_insertBy x tail⟩
      rcases List.mem_cons.1 ((perm_insertBy _ x ys).mem_iff.1 mem) with rfl | mem
      · exact le
      · exact above z mem

theorem pairwise_sortBy {key : α → Nat} : ∀ l : List α,
    (sortBy (fun a b => decide (key b ≤ key a)) l).Pairwise (fun a b => key b ≤ key a)
  | [] => List.Pairwise.nil
  | x :: xs => pairwise_insertBy x (pairwise_sortBy xs)

/-- In a list without repetitions an earlier member has the smaller place. -/
theorem pairwise_place {l : List α} (distinct : l.Nodup) :
    l.Pairwise (fun x y => ∀ i j : Nat, l[i]? = some x → l[j]? = some y → i < j) := by
  refine List.pairwise_iff_getElem.2 fun i j hi hj lt i' j' at_i at_j => ?_
  have place {n m : Nat} {hm : m < l.length} (h : l[n]? = some l[m]) : n = m := by
    obtain ⟨hn, same⟩ := List.getElem?_eq_some_iff.1 h
    exact (List.Nodup.getElem_inj_iff distinct).1 same
  rw [place at_i, place at_j]
  exact lt

end

/-! ## Candidates (R101) -/

theorem designates_iff (e : Entry) : e.designates = true ↔ e.kind = .service ∧ e.phase = .holding := by
  simp [Entry.designates]

theorem sheddable_iff (e : Entry) : e.movable = true ↔ Sheddable e := by
  unfold Entry.movable Sheddable
  rw [Bool.or_eq_true, designates_iff, Bool.and_eq_true, Bool.or_eq_true, beq_iff_eq, beq_iff_eq, beq_iff_eq, or_comm]

/-- The candidates among a list of entries, in the order of R101. -/
def candidatesOf (s : State) (es : List Entry) : List Entry :=
  sortBy (fun x y => decide ((profile s y.car).rank ≤ (profile s x.car).rank)) (es.filter Entry.designates)
    ++ (es.filter Entry.starting).reverse ++ (es.filter (fun e => e.kind == .returning && e.phase == .run)).reverse

theorem shedCandidates_eq (s : State) : shedCandidates s = candidatesOf s s.acct.entries := rfl

theorem candidatesOf_of_setup {s t : State} (same : t.setup = s.setup) (es : List Entry) : candidatesOf t es = candidatesOf s es := by
  unfold candidatesOf profile
  rw [same]

theorem running_iff (e : Entry) : (e.kind == .returning && e.phase == .run) = true ↔ e.kind = .returning ∧ e.phase = .run := by
  simp

theorem mem_candidatesOf {s : State} {es : List Entry} {e : Entry} : e ∈ candidatesOf s es ↔ e ∈ es ∧ Sheddable e := by
  unfold candidatesOf Sheddable
  rw [List.mem_append, List.mem_append, List.mem_reverse, List.mem_reverse, (perm_sortBy _ _).mem_iff, List.mem_filter,
    List.mem_filter, List.mem_filter, designates_iff, MessagePort.starting_iff, running_iff, ← and_or_left, ← and_or_left,
    or_assoc, ← and_or_left]

/-- A candidate stands in the list before those that R101 does not take before it. -/
def InOrder (s : State) (es : List Entry) (x y : Entry) : Prop :=
  ∀ i j : Nat, es[i]? = some x → es[j]? = some y → ¬ TakenBefore s j i y x

theorem candidatesOf_inOrder (s : State) {es : List Entry} (distinct : es.Nodup) :
    (candidatesOf s es).Pairwise (InOrder s es) := by
  have service {e : Entry} (mem : e ∈ sortBy (fun x y => decide ((profile s y.car).rank ≤ (profile s x.car).rank))
      (es.filter Entry.designates)) : shedClass e = 0 := by
    have := (designates_iff e).1 (List.mem_filter.1 ((perm_sortBy _ _).mem_iff.1 mem)).2
    simp [shedClass, this.1]
  have start {e : Entry} (mem : e ∈ (es.filter Entry.starting).reverse) : shedClass e = 1 := by
    have := (MessagePort.starting_iff e).1 (List.mem_filter.1 (List.mem_reverse.1 mem)).2
    simp [shedClass, this.1, this.2]
  have run {e : Entry} (mem : e ∈ (es.filter (fun e => e.kind == .returning && e.phase == .run)).reverse) : shedClass e = 2 := by
    have := (running_iff e).1 (List.mem_filter.1 (List.mem_reverse.1 mem)).2
    simp [shedClass, this.1, this.2]
  have apart {x y : Entry} (lower : shedClass x < shedClass y) : InOrder s es x y := by
    rintro i j _ _ (before | ⟨same, _⟩)
    · omega
    · omega
  have later (p : Entry → Bool) {n : Nat} (cls : ∀ e ∈ (es.filter p).reverse, shedClass e = n) (runs : n ≠ 0) :
      ((es.filter p).reverse).Pairwise (InOrder s es) := by
    have places := List.pairwise_reverse.2 ((pairwise_place distinct).filter p)
    refine (List.Pairwise.and_mem.1 places).imp fun {x y} ⟨mem_x, mem_y, place⟩ i j at_i at_j => ?_
    have order := place j i at_j at_i
    have same_x := cls x mem_x
    have same_y := cls y mem_y
    rintro (before | ⟨_, ⟨zero, _⟩ | ⟨_, reversed⟩⟩) <;> omega
  have ranked : (sortBy (fun x y => decide ((profile s y.car).rank ≤ (profile s x.car).rank))
      (es.filter Entry.designates)).Pairwise (InOrder s es) := by
    refine (List.Pairwise.and_mem.1 (pairwise_sortBy (key := fun e : Entry => (profile s e.car).rank) _)).imp
      fun {x y} ⟨mem_x, mem_y, order⟩ i j at_i at_j => ?_
    have same_x := service mem_x
    have same_y := service mem_y
    rintro (before | ⟨_, ⟨_, above⟩ | ⟨nonzero, _⟩⟩) <;> omega
  refine List.pairwise_append.2 ⟨List.pairwise_append.2 ⟨ranked, later _ (fun _ => start) (by decide), ?_⟩,
    later _ (fun _ => run) (by decide), ?_⟩
  · intro x mem_x y mem_y
    exact apart (by rw [service mem_x, start mem_y]; decide)
  · intro x mem_x y mem_y
    rcases List.mem_append.1 mem_x with mem_x | mem_x
    · exact apart (by rw [service mem_x, run mem_y]; decide)
    · exact apart (by rw [start mem_x, run mem_y]; decide)

theorem candidatesOf_nodup (s : State) {es : List Entry} (distinct : es.Nodup) : (candidatesOf s es).Nodup := by
  have filters (p : Entry → Bool) : (es.filter p).Nodup := distinct.filter p
  have phases {p q : Entry → Bool} {e : Entry} (apart : p e = true → q e = true → False) (in_p : e ∈ es.filter p)
      (in_q : e ∈ es.filter q) : False := apart (List.mem_filter.1 in_p).2 (List.mem_filter.1 in_q).2
  unfold candidatesOf
  refine List.nodup_append.2 ⟨List.nodup_append.2 ⟨(perm_sortBy _ _).nodup_iff.2 (filters _), List.nodup_reverse.2 (filters _), ?_⟩,
    List.nodup_reverse.2 (filters _), ?_⟩
  · rintro e in_service _ in_start rfl
    refine phases (fun a b => ?_) ((perm_sortBy _ _).mem_iff.1 in_service) (List.mem_reverse.1 in_start)
    rw [designates_iff] at a; rw [MessagePort.starting_iff] at b
    exact absurd (a.1.symm.trans b.1) (by decide)
  · rintro e earlier _ in_run rfl
    rcases List.mem_append.1 earlier with in_service | in_start
    · refine phases (fun a b => ?_) ((perm_sortBy _ _).mem_iff.1 in_service) (List.mem_reverse.1 in_run)
      rw [designates_iff] at a; rw [running_iff] at b
      exact absurd (a.1.symm.trans b.1) (by decide)
    · refine phases (fun a b => ?_) (List.mem_reverse.1 in_start) (List.mem_reverse.1 in_run)
      rw [MessagePort.starting_iff] at a; rw [running_iff] at b
      exact absurd (a.2.symm.trans b.2) (by decide)

/-! ## The choice of a run (R101) -/

/-- What a run chooses: a part of the candidates from the front, whose reservations it takes from the projection, until none is left
or the projection is at most the limit. -/
theorem chooseSheds_spec (amount : Entry → Nat) (limit : Nat) : ∀ (candidates : List Entry) (projection : Nat),
    ∃ rest, candidates = (chooseSheds amount limit projection candidates).1 ++ rest
      ∧ (chooseSheds amount limit projection candidates).2
          = projection - ((chooseSheds amount limit projection candidates).1.map amount).sum
      ∧ (rest = [] ∨ (chooseSheds amount limit projection candidates).2 ≤ limit)
      ∧ ∀ before after e, (chooseSheds amount limit projection candidates).1 = before ++ e :: after →
          limit < projection - (before.map amount).sum
  | [], projection => ⟨[], rfl, rfl, .inl rfl, fun before after e none => by
      exact absurd (congrArg List.length none) (by simp [chooseSheds])⟩
  | x :: rest, projection => by
    unfold chooseSheds
    by_cases above : limit < projection
    · obtain ⟨left, split, remains, stops, needed⟩ := chooseSheds_spec amount limit rest (projection - amount x)
      rw [if_pos above]
      refine ⟨left, by rw [List.cons_append, ← split], ?_, stops, fun before after e made => ?_⟩
      · rw [remains, List.map_cons, List.sum_cons, Nat.sub_sub]
      · cases before with
        | nil => exact above
        | cons y before =>
          rw [List.cons_append, List.cons.injEq] at made
          obtain ⟨rfl, made⟩ := made
          rw [List.map_cons, List.sum_cons, ← Nat.sub_sub]
          exact needed before after e made
    · rw [if_neg above]
      exact ⟨x :: rest, rfl, rfl, .inr (by omega), fun before after e none => by
        exact absurd (congrArg List.length none) (by simp)⟩

/-- A run's choice among the entries of a table. -/
def chosenOf (s : State) (amount : Entry → Nat) (needs : Entry → Bool) (total limit : Nat) (es : List Entry) : List Entry × Nat :=
  chooseSheds amount limit (total - stopped amount es) ((candidatesOf s es).filter needs)

section
variable {s : State} {amount : Entry → Nat} {needs : Entry → Bool} {total limit : Nat} {es : List Entry}

theorem mem_chosenOf {e : Entry} (mem : e ∈ (chosenOf s amount needs total limit es).1) :
    e ∈ es ∧ Sheddable e ∧ needs e = true := by
  obtain ⟨rest, split, _⟩ := chooseSheds_spec amount limit ((candidatesOf s es).filter needs) (total - stopped amount es)
  have candidate : e ∈ (candidatesOf s es).filter needs := by
    rw [split]; exact List.mem_append_left _ mem
  obtain ⟨member, need⟩ := List.mem_filter.1 candidate
  obtain ⟨member, shed⟩ := mem_candidatesOf.1 member
  exact ⟨member, shed, need⟩

theorem chosenOf_remains : (chosenOf s amount needs total limit es).2
    = total - stopped amount es - ((chosenOf s amount needs total limit es).1.map amount).sum := by
  obtain ⟨_, _, remains, _⟩ := chooseSheds_spec amount limit ((candidatesOf s es).filter needs) (total - stopped amount es)
  exact remains

theorem chosenOf_nodup (distinct : es.Nodup) : (chosenOf s amount needs total limit es).1.Nodup := by
  obtain ⟨rest, split, _⟩ := chooseSheds_spec amount limit ((candidatesOf s es).filter needs) (total - stopped amount es)
  have all := (candidatesOf_nodup s distinct).filter needs
  rw [split] at all
  exact (List.nodup_append.1 all).1

/-- A run's choice is one of R101. -/
theorem shedFrom_chosenOf {need : Entry → Prop} (same : ∀ e, need e ↔ needs e = true) (distinct : es.Nodup) :
    ShedFrom s amount need total limit es (chosenOf s amount needs total limit es).1 := by
  obtain ⟨rest, split, remains, stops, needed⟩ :=
    chooseSheds_spec amount limit ((candidatesOf s es).filter needs) (total - stopped amount es)
  have order : ((chosenOf s amount needs total limit es).1 ++ rest).Pairwise (InOrder s es) := by
    have all := (candidatesOf_inOrder s distinct).filter needs
    rw [split] at all
    exact all
  have candidate {e : Entry} (member : e ∈ es) (shed : Sheddable e) (need_e : need e) :
      e ∈ (chosenOf s amount needs total limit es).1 ++ rest := by
    have listed : e ∈ (candidatesOf s es).filter needs :=
      List.mem_filter.2 ⟨mem_candidatesOf.2 ⟨member, shed⟩, (same e).1 need_e⟩
    rw [split] at listed
    exact listed
  obtain ⟨ordered, _, crossed⟩ := List.pairwise_append.1 order
  refine ⟨fun e mem => ?_, ?_, needed, ?_, ?_⟩
  · obtain ⟨member, shed, need_e⟩ := mem_chosenOf mem
    exact ⟨member, shed, (same e).2 need_e⟩
  · rcases stops with none | fits
    · refine .inr fun e member shed need_e => ?_
      have := candidate member shed need_e
      rwa [none, List.append_nil] at this
    · refine .inl ?_
      have := chosenOf_remains (s := s) (amount := amount) (needs := needs) (total := total) (limit := limit) (es := es)
      rw [← this]
      exact fits
  · intro i j x y at_i at_j shed need_x left taken
    have x_rest : x ∈ rest := (List.mem_append.1 (candidate (List.mem_of_getElem? at_i) shed need_x)).resolve_left left
    exact crossed y taken x x_rest j i at_j at_i
  · intro i j x y at_i at_j listed
    exact List.pairwise_iff_forall_sublist.1 ordered listed i j at_i at_j

end

end Sys2Proof.Proofs.Shedding
end
section
/-! PROOFS. What a shedding run leaves (R97, R101, R102), and the completion of an event in the account (R100, R103). -/

namespace Sys2Proof.Proofs.Shedding

open Sys2Proof.Machine Sys2Proof.Safety Sys2Proof.Proofs.Upkeep Sys2Proof.Proofs.Account

/-! ## A move to STOP phase (R97) -/

theorem find?_car {es : List Entry} (distinct : (es.map (·.car)).Nodup) {e : Entry} (mem : e ∈ es) :
    es.find? (fun x => x.car == e.car) = some e := by
  induction es with
  | nil => cases mem
  | cons x es ih =>
    obtain ⟨fresh, distinct⟩ := List.nodup_cons.1 distinct
    rcases List.mem_cons.1 mem with rfl | mem
    · simp
    · have other : x.car ≠ e.car := fun same => fresh (List.mem_map.2 ⟨e, mem, same.symm⟩)
      rw [List.find?_cons, show (x.car == e.car) = false from beq_eq_false_iff_ne.2 other]
      exact ih distinct mem

theorem eq_of_car {es : List Entry} (distinct : (es.map (·.car)).Nodup) {x y : Entry} (mem_x : x ∈ es) (mem_y : y ∈ es)
    (same : x.car = y.car) : x = y := by
  have found := find?_car distinct mem_x
  rw [same, find?_car distinct mem_y] at found
  exact (Option.some.inj found).symm

/-- The entries with those of a list in STOP phase with cause SHED. -/
def shedIn (shed es : List Entry) : List Entry := es.map (fun e => if e ∈ shed then shedForm e else e)

theorem shedIn_nil (es : List Entry) : shedIn [] es = es := by simp [shedIn]

theorem shedIn_cars (shed es : List Entry) : (shedIn shed es).map (·.car) = es.map (·.car) := by
  unfold shedIn
  rw [List.map_map]
  refine List.map_congr_left fun e _ => ?_
  show (if e ∈ shed then shedForm e else e).car = e.car
  split <;> rfl

theorem not_sheddable_shedForm (e : Entry) : ¬ Sheddable (shedForm e) := by
  rintro (⟨_, phase⟩ | ⟨_, phase | phase⟩) <;> cases phase

/-- A member that is not shed stands in the shed list as it was. -/
theorem mem_shedIn_of_sheddable {shed es : List Entry} {e : Entry} (ok : Sheddable e) :
    e ∈ shedIn shed es ↔ e ∈ es ∧ e ∉ shed := by
  unfold shedIn
  rw [List.mem_map]
  constructor
  · rintro ⟨x, mem, made⟩
    split at made
    case isTrue => exact absurd (made ▸ ok) (not_sheddable_shedForm x)
    case isFalse left => exact made ▸ ⟨mem, left⟩
  · rintro ⟨mem, left⟩
    exact ⟨e, mem, if_neg left⟩

theorem shedIn_shedIn {shed more es : List Entry} (ok : ∀ e ∈ more, Sheddable e) :
    shedIn more (shedIn shed es) = shedIn (shed ++ more) es := by
  unfold shedIn
  rw [List.map_map]
  refine List.map_congr_left fun e _ => ?_
  show (if (if e ∈ shed then shedForm e else e) ∈ more then shedForm (if e ∈ shed then shedForm e else e)
    else (if e ∈ shed then shedForm e else e)) = if e ∈ shed ++ more then shedForm e else e
  by_cases here : e ∈ shed
  · have stays : shedForm e ∉ more := fun mem => not_sheddable_shedForm e (ok _ mem)
    rw [if_pos here, if_neg stays, if_pos (List.mem_append_left _ here)]
  · rw [if_neg here]
    have iff : e ∈ shed ++ more ↔ e ∈ more := by rw [List.mem_append, or_iff_right here]
    simp only [iff]

/-- A state with entries of the table shed: those entries in STOP phase, the service records of some cars discarded. -/
def ShedState (s : State) (shed : List Entry) (t : State) : Prop :=
  t = { s with acct := { s.acct with entries := shedIn shed s.acct.entries }, svc := { s.svc with records := t.svc.records } }
    ∧ (∀ e ∈ shed, e.kind = .service → t.svc.records.at e.car = none)
    ∧ ∀ c, t.svc.records.at c = s.svc.records.at c ∨ t.svc.records.at c = none

theorem ShedState.refl (s : State) : ShedState s [] s := by
  refine ⟨?_, by simp, fun c => .inl rfl⟩
  rw [shedIn_nil]

theorem ShedState.acct {s t : State} {shed : List Entry} (h : ShedState s shed t) :
    t.acct = { s.acct with entries := shedIn shed s.acct.entries } := by rw [h.1]

/-- A marked entry is the one change of the account, as long as the totals are the sums and no car holds two (R90, R92). -/
theorem change_eq {a : Account} (cars : (a.entries.map (·.car)).Nodup) (totals : Summed a) {e : Entry} (mem : e ∈ a.entries)
    {f : Entry → Entry} (marks : Marks f) :
    a.change e.car f = { a with entries := a.entries.map (fun x => if x = e then f x else x) } := by
  have entries : (a.change e.car f).entries = a.entries.map (fun x => if x = e then f x else x) := by
    rw [change_entries, alterFirst_eq_map (fun x : Entry => x.car) e.car cars]
    refine List.map_congr_left fun x mem_x => ?_
    by_cases same : x.car = e.car
    · rw [if_pos same, if_pos (eq_of_car cars mem_x mem same)]
    · rw [if_neg same, if_neg fun here => same (by rw [here])]
  obtain ⟨kd, kr⟩ := change_totals totals e.car marks
  obtain ⟨draw, regen, draw', regen', next⟩ := change_rest a e.car f
  generalize a.change e.car f = b at entries kd kr draw regen draw' regen' next
  cases b
  simp_all

theorem moveToStop_of_movable {w : Work} {c : CarId} {e : Entry} (found : entryOf w.st c = some e) (movable : e.movable = true)
    (cause : StopCause) : moveToStop w c cause
      = if e.designates then
          ((w.up (fun s => s.setAcct (s.acct.change c (Entry.toStop cause)))).up (fun s => endDesignation s c)).noteSs
        else w.up (fun s => s.setAcct (s.acct.change c (Entry.toStop cause))) := by
  simp only [moveToStop, found, movable, if_true]

/-- One entry shed. -/
theorem moveToStop_shed {w : Work} {e : Entry} (cars : OneEntryPerCar w.st) (totals : TotalsMatch w.st)
    (mem : e ∈ w.st.acct.entries) (ok : Sheddable e) :
    ShedState w.st [e] (moveToStop w e.car .shed).st ∧ (moveToStop w e.car .shed).nt.sheds = w.nt.sheds := by
  have changed : w.st.acct.change e.car (Entry.toStop .shed) = { w.st.acct with entries := shedIn [e] w.st.acct.entries } := by
    rw [change_eq cars totals mem (marks_toStop .shed)]
    unfold shedIn
    simp only [List.mem_singleton]
    rfl
  rw [moveToStop_of_movable (find?_car cars mem) ((sheddable_iff e).2 ok)]
  split
  case isTrue designates =>
    refine ⟨⟨?_, fun x here _ => ?_, fun c => ?_⟩, rfl⟩
    · show endDesignation (w.st.setAcct _) e.car = _
      rw [changed]
      rfl
    · rw [List.mem_singleton.1 here]
      exact Table.put_at_same _ _ _
    · by_cases here : c = e.car
      · right; rw [here]; exact Table.put_at_same _ _ _
      · left; exact Table.put_at_other _ _ _ _ here
  case isFalse runs =>
    refine ⟨⟨?_, fun x here service => ?_, fun c => .inl rfl⟩, rfl⟩
    · show w.st.setAcct _ = _
      rw [changed]
      rfl
    · rw [List.mem_singleton.1 here] at service
      refine absurd ((designates_iff e).2 ⟨service, ?_⟩) runs
      rcases ok with ⟨_, phase⟩ | ⟨kind, _⟩
      · exact phase
      · exact absurd (service.symm.trans kind) (by decide)

theorem ShedState.oneEntryPerCar {s t : State} {shed : List Entry} (h : ShedState s shed t) (cars : OneEntryPerCar s) :
    OneEntryPerCar t := by
  unfold OneEntryPerCar
  rw [h.acct]
  show ((shedIn shed s.acct.entries).map (·.car)).Nodup
  rw [shedIn_cars]
  exact cars

theorem ShedState.trans {s t u : State} {shed more : List Entry} (h : ShedState s shed t) (g : ShedState t more u)
    (ok : ∀ e ∈ more, Sheddable e) : ShedState s (shed ++ more) u := by
  obtain ⟨same, records, either⟩ := h
  obtain ⟨same', records', either'⟩ := g
  refine ⟨?_, fun e mem service => ?_, fun c => ?_⟩
  · have entries : shedIn more t.acct.entries = shedIn (shed ++ more) s.acct.entries := by
      rw [← shedIn_shedIn ok, same]
    rw [same', entries, same]
  · rcases List.mem_append.1 mem with mem | mem
    · rcases either' e.car with kept | gone
      · rw [kept]; exact records e mem service
      · exact gone
    · exact records' e mem service
  · rcases either' c with kept | gone
    · rw [kept]; exact either c
    · exact .inr gone

/-- The entries a run has chosen are shed one after another. -/
theorem foldl_shed : ∀ (chosen : List Entry) {w : Work}, OneEntryPerCar w.st → TotalsMatch w.st → chosen.Nodup →
    (∀ e ∈ chosen, e ∈ w.st.acct.entries ∧ Sheddable e) →
    ShedState w.st chosen (chosen.foldl (fun acc e => moveToStop acc e.car .shed) w).st
      ∧ (chosen.foldl (fun acc e => moveToStop acc e.car .shed) w).nt.sheds = w.nt.sheds
  | [], w, _, _, _, _ => ⟨ShedState.refl _, rfl⟩
  | e :: chosen, w, cars, totals, distinct, ok => by
    obtain ⟨fresh, distinct⟩ := List.nodup_cons.1 distinct
    obtain ⟨first, sheds⟩ := moveToStop_shed cars totals (ok e List.mem_cons_self).1 (ok e List.mem_cons_self).2
    have totals' : TotalsMatch (moveToStop w e.car .shed).st := (flagsStand_moveToStop totals e.car .shed).1
    have left : ∀ x ∈ chosen, x ∈ (moveToStop w e.car .shed).st.acct.entries ∧ Sheddable x := by
      intro x mem
      obtain ⟨member, shed⟩ := ok x (List.mem_cons_of_mem _ mem)
      refine ⟨?_, shed⟩
      rw [first.acct]
      exact (mem_shedIn_of_sheddable shed).2 ⟨member, fun same => fresh (List.mem_singleton.1 same ▸ mem)⟩
    obtain ⟨rest, sheds'⟩ := foldl_shed chosen (first.oneEntryPerCar cars) totals' distinct left
    exact ⟨first.trans rest fun x mem => (left x mem).2, sheds'.trans sheds⟩

theorem shedAll_spec {w : Work} {chosen : List Entry} (cars : OneEntryPerCar w.st) (totals : TotalsMatch w.st)
    (distinct : chosen.Nodup) (ok : ∀ e ∈ chosen, e ∈ w.st.acct.entries ∧ Sheddable e) :
    ShedState w.st chosen (shedAll w chosen).st ∧ (shedAll w chosen).nt.sheds = w.nt.sheds ++ chosen.map (·.car) := by
  obtain ⟨state, sheds⟩ := foldl_shed chosen cars totals distinct ok
  exact ⟨state, congrArg (· ++ _) sheds⟩

/-! ## The projection (R101, R102) -/

theorem entries_nodup {es : List Entry} (cars : (es.map (·.car)).Nodup) : es.Nodup := List.Nodup.of_map _ cars

theorem sum_if_mem (amount : Entry → Nat) {shed es : List Entry} (distinct : shed.Nodup) (distinct_es : es.Nodup)
    (inside : ∀ e ∈ shed, e ∈ es) :
    (es.map (fun e => if e ∈ shed then amount e else 0)).sum = (shed.map amount).sum := by
  have perm : (es.filter (fun e => decide (e ∈ shed))).Perm shed := by
    refine (List.perm_ext_iff_of_nodup (distinct_es.filter _) distinct).2 fun e => ?_
    rw [List.mem_filter, decide_eq_true_iff]
    exact ⟨fun h => h.2, fun h => ⟨inside e h, h⟩⟩
  rw [← (perm.map amount).sum_eq]
  clear perm inside distinct_es
  induction es with
  | nil => rfl
  | cons e es ih =>
    rw [List.map_cons, List.sum_cons, ih, List.filter_cons]
    by_cases here : e ∈ shed
    · simp [here]
    · simp [here]

/-- Each entry shed takes its amount from the projection. -/
theorem stopped_shedIn (amount : Entry → Nat) (same : ∀ e, amount (shedForm e) = amount e) {shed es : List Entry}
    (distinct : shed.Nodup) (distinct_es : es.Nodup) (ok : ∀ e ∈ shed, e ∈ es ∧ Sheddable e) :
    stopped amount (shedIn shed es) = stopped amount es + (shed.map amount).sum := by
  rw [← sum_if_mem amount distinct distinct_es fun e mem => (ok e mem).1]
  have each : ∀ e ∈ es, e ∈ shed → e.phase ≠ .stop := by
    intro e _ mem phase
    rcases (ok e mem).2 with ⟨_, holding⟩ | ⟨_, start | run⟩
    · exact absurd (phase.symm.trans holding) (by decide)
    · exact absurd (phase.symm.trans start) (by decide)
    · exact absurd (phase.symm.trans run) (by decide)
  clear distinct distinct_es ok
  unfold stopped shedIn
  induction es with
  | nil => rfl
  | cons e es ih =>
    have tail := ih fun x mem => each x (List.mem_cons_of_mem _ mem)
    have head := each e List.mem_cons_self
    rw [List.map_cons, List.filter_cons, List.filter_cons, List.map_cons, List.sum_cons]
    by_cases here : e ∈ shed
    · have stops : (shedForm e).phase = .stop := rfl
      simp only [if_pos here, stops, decide_true, if_true, List.map_cons, List.sum_cons, tail, same,
        decide_eq_false (head here), Bool.false_eq_true, if_false]
      omega
    · by_cases stops : e.phase = .stop
      · simp only [if_neg here, stops, decide_true, if_true, List.map_cons, List.sum_cons, tail]
        omega
      · simp only [if_neg here, decide_eq_false stops, Bool.false_eq_true, if_false, tail]
        omega

/-! ## A shedding run -/

/-- The choice of a run of draw or regen shedding. -/
def runChoice (k : ShedCase) (needs : Entry → Bool) (s : State) : List Entry × Nat :=
  chosenOf s k.amount needs (k.total s.acct) (k.limit s) s.acct.entries

/-- What the two kinds of a run have in common: the reservation it looks at is one that shedding leaves, and its candidates are those
that need shedding. -/
structure RunKind (k : ShedCase) (needs : Entry → Bool) : Prop where
  needs_iff : ∀ e, k.needs e ↔ needs e = true
  same : ∀ e, k.amount (shedForm e) = k.amount e
  idle : ∀ w : Work, k.flag w.st.acct = false → k.run w = (w, noRun)
  total : ∀ (a : Account) (es : List Entry), k.total { a with entries := es } = k.total a
  limit : ∀ (s : State) (a : Account) (v : Selector), k.limit { s with acct := a, svc := v } = k.limit s
  runs : ∀ w : Work, k.flag w.st.acct = true → k.run w
    = (shedAll w (runChoice k needs w.st).1,
      ⟨(runChoice k needs w.st).1, decide (k.limit w.st < (runChoice k needs w.st).2)⟩)

theorem runKind_draw : RunKind drawCase (fun _ => true) where
  needs_iff _ := by simp [drawCase]
  same _ := rfl
  idle w clear := if_neg (show ¬ w.st.acct.drawOver = true from Bool.eq_false_iff.1 clear)
  total _ _ := rfl
  limit _ _ _ := rfl
  runs w flag := by
    have all : (candidatesOf w.st w.st.acct.entries).filter (fun _ => true) = candidatesOf w.st w.st.acct.entries := by simp
    show shedDraw w = _
    unfold shedDraw
    rw [if_pos (show w.st.acct.drawOver = true from flag), MessagePort.projectedDraw_eq, shedCandidates_eq]
    simp only [runChoice, chosenOf, all]
    rfl

theorem runKind_regen : RunKind regenCase (fun e => decide (0 < e.regen)) where
  needs_iff _ := by simp [regenCase]
  same _ := rfl
  idle w clear := if_neg (show ¬ w.st.acct.regenOver = true from Bool.eq_false_iff.1 clear)
  total _ _ := rfl
  limit _ _ _ := rfl
  runs w flag := by
    show shedRegen w = _
    unfold shedRegen
    rw [if_pos (show w.st.acct.regenOver = true from flag), MessagePort.projectedRegen_eq, shedCandidates_eq]
    rfl

section
variable {k : ShedCase} {needs : Entry → Bool} (kind : RunKind k needs) {w : Work} (cars : OneEntryPerCar w.st)
  (totals : TotalsMatch w.st) (flag : k.flag w.st.acct = true)
include kind cars

omit kind in
theorem runChoice_ok : (runChoice k needs w.st).1.Nodup
    ∧ ∀ e ∈ (runChoice k needs w.st).1, e ∈ w.st.acct.entries ∧ Sheddable e :=
  ⟨chosenOf_nodup (entries_nodup cars), fun _ mem => ⟨(mem_chosenOf mem).1, (mem_chosenOf mem).2.1⟩⟩

theorem runChoice_shedFrom : ShedFrom w.st k.amount k.needs (k.total w.st.acct) (k.limit w.st) w.st.acct.entries
    (runChoice k needs w.st).1 := shedFrom_chosenOf kind.needs_iff (entries_nodup cars)

/-- The projection that a run leaves is that of the table that it leaves. -/
theorem runChoice_remains : (runChoice k needs w.st).2
    = k.total w.st.acct - stopped k.amount (shedIn (runChoice k needs w.st).1 w.st.acct.entries) := by
  obtain ⟨distinct, ok⟩ := runChoice_ok (k := k) (needs := needs) cars
  rw [stopped_shedIn k.amount kind.same distinct (entries_nodup cars) ok, ← Nat.sub_sub]
  exact chosenOf_remains

include totals flag

theorem run_spec : ∃ t, k.run w = (t, ⟨(runChoice k needs w.st).1, decide (k.limit w.st < (runChoice k needs w.st).2)⟩)
    ∧ ShedState w.st (runChoice k needs w.st).1 t.st
    ∧ t.nt.sheds = w.nt.sheds ++ (runChoice k needs w.st).1.map (·.car) := by
  obtain ⟨distinct, ok⟩ := runChoice_ok (k := k) (needs := needs) cars
  obtain ⟨state, sheds⟩ := shedAll_spec cars totals distinct ok
  exact ⟨_, kind.runs w flag, state, sheds⟩

end

/-- Settles O33: the choice of the run is one of R101, and shedding leaves nothing else changed. -/
theorem drawSheddingEnds : Obligations.DrawSheddingEnds := by
  intro k case w flag cars totals
  obtain ⟨needs, kind⟩ : ∃ needs, RunKind k needs := by
    rcases case with rfl | rfl
    · exact ⟨_, runKind_draw⟩
    · exact ⟨_, runKind_regen⟩
  obtain ⟨t, runs, state, sheds⟩ := run_spec kind cars totals flag
  obtain ⟨chosen, ends, needed, left_order, shed_order⟩ := runChoice_shedFrom (needs := needs) kind cars
  have acct := state.acct
  have entries : t.st.acct.entries = shedIn (runChoice k needs w.st).1 w.st.acct.entries := by rw [acct]
  have total : k.total t.st.acct = k.total w.st.acct := by rw [acct, kind.total]
  have projection : k.total t.st.acct - stopped k.amount t.st.acct.entries = (runChoice k needs w.st).2 := by
    rw [total, entries, runChoice_remains kind cars]
  refine ⟨t, _, runs, ?_, ?_, by rw [entries]; exact acct, entries, chosen, left_order, shed_order, needed, sheds, ?_⟩
  · rw [projection]
    rcases ends with fits | none_left
    · exact .inl (by rw [show (runChoice k needs w.st).2 = _ from chosenOf_remains]; exact fits)
    · refine .inr fun e mem ⟨ok, need⟩ => ?_
      rw [entries, mem_shedIn_of_sheddable ok] at mem
      exact mem.2 (none_left e mem.1 ok need)
  · rw [projection]
    exact decide_eq_true_iff
  · intro e named mem service
    obtain ⟨x, in_shed, same⟩ := List.mem_map.1 named
    obtain rfl := eq_of_car cars (chosen x in_shed).1 mem same
    exact state.2.1 x in_shed service

end Sys2Proof.Proofs.Shedding
end
section
/-! PROOFS. The completion of an event in the account (R100 to R103): flags, shedding, alerts, the capture trigger, the notice of
easing. -/

namespace Sys2Proof.Proofs.Shedding

open Sys2Proof.Machine Sys2Proof.Safety Sys2Proof.Proofs.Upkeep Sys2Proof.Proofs.Account

/-! ## Both runs of an event -/

/-- What one run leaves: nothing with a clear flag, and else what R101 asks. -/
structure Ran (k : ShedCase) (w t : Work) (run : ShedRun) : Prop where
  runs : k.run w = (t, run)
  state : ShedState w.st run.shed t.st
  distinct : run.shed.Nodup
  ok : ∀ e ∈ run.shed, e ∈ w.st.acct.entries ∧ Sheddable e
  idle : k.flag w.st.acct = false → run = noRun
  chosen : k.flag w.st.acct = true →
    ShedFrom w.st k.amount k.needs (k.total w.st.acct) (k.limit w.st) w.st.acct.entries run.shed
  exhausted : k.flag w.st.acct = true →
    (run.exhausted = true ↔ k.limit w.st < k.total w.st.acct - stopped k.amount (shedIn run.shed w.st.acct.entries))

theorem exists_ran {k : ShedCase} {needs : Entry → Bool} (kind : RunKind k needs) {w : Work} (cars : OneEntryPerCar w.st)
    (totals : TotalsMatch w.st) : ∃ t run, Ran k w t run := by
  cases flag : k.flag w.st.acct with
  | false =>
    exact ⟨w, noRun, kind.idle w flag, ShedState.refl _, List.nodup_nil, (by simp [noRun]), fun _ => rfl,
      by simp [flag], by simp [flag]⟩
  | true =>
    obtain ⟨t, runs, state, _⟩ := run_spec kind cars totals flag
    obtain ⟨distinct, ok⟩ := runChoice_ok (k := k) (needs := needs) cars
    refine ⟨t, _, runs, state, distinct, ok, by simp [flag], fun _ => runChoice_shedFrom kind cars, fun _ => ?_⟩
    rw [← runChoice_remains kind cars]
    exact decide_eq_true_iff

/-- The two runs of an event, and the account that they leave. -/
structure Runs (w : Work) (drawn fed : ShedRun) : Prop where
  pair : runsOf w = (drawn, fed)
  state : ShedState (flaggedWork w).st (drawn.shed ++ fed.shed) (shedBoth w).st
  first : ∃ t, Ran drawCase (flaggedWork w) t drawn ∧ Ran regenCase t (shedBoth w) fed
    ∧ t.st.acct = { (flaggedWork w).st.acct with entries := shedIn drawn.shed w.st.acct.entries } ∧ t.st.setup = w.st.setup
    ∧ t.st.cap = w.st.cap

theorem exists_runs {w : Work} (cars : OneEntryPerCar w.st) (totals : TotalsMatch w.st) : ∃ drawn fed, Runs w drawn fed := by
  obtain ⟨t, drawn, draw⟩ := exists_ran runKind_draw (w := flaggedWork w) cars totals
  have totals' : TotalsMatch t.st := by
    have := (flagsStand_shedDraw (w := flaggedWork w) totals).1
    rwa [show shedDraw (flaggedWork w) = (t, drawn) from draw.runs] at this
  obtain ⟨u, fed, regen⟩ := exists_ran runKind_regen (draw.state.oneEntryPerCar cars) totals'
  have both : shedBoth w = u := by
    unfold shedBoth
    rw [show shedDraw (flaggedWork w) = (t, drawn) from draw.runs]
    exact congrArg Prod.fst regen.runs
  have pair : runsOf w = (drawn, fed) := by
    unfold runsOf
    rw [show shedDraw (flaggedWork w) = (t, drawn) from draw.runs]
    exact congrArg (Prod.mk drawn) (congrArg Prod.snd regen.runs)
  subst both
  refine ⟨drawn, fed, pair, draw.state.trans regen.state fun e mem => (regen.ok e mem).2, t, draw, regen, draw.state.acct, ?_, ?_⟩
  · rw [draw.state.1]; rfl
  · rw [draw.state.1]; rfl

/-! ## The projection after both runs -/

section
variable {w : Work} {drawn fed : ShedRun} (h : Runs w drawn fed) (cars : OneEntryPerCar w.st)
include h cars

omit cars in
theorem Runs.fed_ok : fed.shed.Nodup ∧ ∀ e ∈ fed.shed, e ∈ shedIn drawn.shed w.st.acct.entries ∧ Sheddable e := by
  obtain ⟨t, _, regen, acct, _⟩ := h.first
  refine ⟨regen.distinct, fun e mem => ?_⟩
  have := regen.ok e mem
  rwa [acct] at this

omit cars in
theorem Runs.entries : shedIn fed.shed (shedIn drawn.shed w.st.acct.entries)
    = shedIn (drawn.shed ++ fed.shed) w.st.acct.entries := shedIn_shedIn fun e mem => ((h.fed_ok).2 e mem).2

/-- A run for draw that has ended above the limit left the run for regen no candidate. -/
theorem Runs.fed_nil_of_exhausted (flag : (flaggedWork w).st.acct.drawOver = true) (exhausted : drawn.exhausted = true) :
    fed.shed = [] := by
  obtain ⟨t, draw, _⟩ := h.first
  have above : w.st.cap.c < w.st.acct.kd - stopped drawCase.amount (shedIn drawn.shed w.st.acct.entries) :=
    (draw.exhausted flag).1 exhausted
  obtain ⟨_, ends, _⟩ := draw.chosen flag
  rw [stopped_shedIn drawCase.amount (fun _ => rfl) draw.distinct (entries_nodup cars) draw.ok, ← Nat.sub_sub] at above
  have all := ends.resolve_left (Nat.not_le.2 above)
  refine List.eq_nil_iff_forall_not_mem.2 fun e mem => ?_
  obtain ⟨member, ok⟩ := (h.fed_ok).2 e mem
  obtain ⟨member, left⟩ := (mem_shedIn_of_sheddable ok).1 member
  exact left (all e member ok trivial)

theorem Runs.drawExhausted : drawn.exhausted = true ↔ w.st.cap.c < w.st.acct.kd
    ∧ w.st.cap.c < w.st.acct.kd - stopped (·.draw) (shedIn (drawn.shed ++ fed.shed) w.st.acct.entries) := by
  obtain ⟨t, draw, _⟩ := h.first
  have flagged : (flaggedWork w).st.acct.drawOver = true ↔ w.st.cap.c < w.st.acct.kd := decide_eq_true_iff
  cases flag : (flaggedWork w).st.acct.drawOver with
  | false =>
    rw [draw.idle flag]
    rw [flag] at flagged
    simp only [noRun, Bool.false_eq_true, false_iff, not_and]
    exact fun above => absurd (flagged.2 above) (by decide)
  | true =>
    have iff := draw.exhausted flag
    have exceeds := flagged.1 flag
    constructor
    · intro exhausted
      rw [h.fed_nil_of_exhausted cars flag exhausted, List.append_nil]
      exact ⟨exceeds, iff.1 exhausted⟩
    · rintro ⟨_, above⟩
      obtain ⟨distinct, ok⟩ := h.fed_ok
      have distinct_es : (shedIn drawn.shed w.st.acct.entries).Nodup := by
        refine entries_nodup ?_
        rw [shedIn_cars]
        exact cars
      rw [← h.entries, stopped_shedIn (·.draw) (fun _ => rfl) distinct distinct_es ok] at above
      refine iff.2 ?_
      show w.st.cap.c < w.st.acct.kd - stopped (·.draw) (shedIn drawn.shed w.st.acct.entries)
      omega

omit cars in
theorem Runs.regenExhausted : fed.exhausted = true ↔ w.st.cap.sink < w.st.acct.kr
    ∧ w.st.cap.sink < w.st.acct.kr - stopped (·.regen) (shedIn (drawn.shed ++ fed.shed) w.st.acct.entries) := by
  obtain ⟨t, _, regen, acct, _, cap⟩ := h.first
  have flagged : t.st.acct.regenOver = true ↔ w.st.cap.sink < w.st.acct.kr := by
    rw [acct]; exact decide_eq_true_iff
  have limit : regenCase.limit t.st = w.st.cap.sink := congrArg Capacity.sink cap
  have total : regenCase.total t.st.acct = w.st.acct.kr := by rw [acct]; rfl
  have entries : t.st.acct.entries = shedIn drawn.shed w.st.acct.entries := by rw [acct]
  cases flag : t.st.acct.regenOver with
  | false =>
    rw [regen.idle flag]
    rw [flag] at flagged
    simp only [noRun, Bool.false_eq_true, false_iff, not_and]
    exact fun above => absurd (flagged.2 above) (by decide)
  | true =>
    rw [regen.exhausted flag, limit, total, entries, h.entries]
    exact ⟨fun above => ⟨flagged.1 flag, above⟩, fun both => both.2⟩

end

/-! ## The state that an event leaves (R100, R103) -/

/-- The account as an event leaves it. -/
def eventAcct (w : Work) (drawn fed : ShedRun) : Account :=
  { (flaggedWork w).st.acct with
    entries := shedIn (drawn.shed ++ fed.shed) w.st.acct.entries, drawExhausted := drawn.exhausted,
    regenExhausted := fed.exhausted }

theorem notedState_acct {w : Work} {drawn fed : ShedRun} (h : Runs w drawn fed) :
    (notedState w).acct = eventAcct w drawn fed := by
  unfold notedState
  rw [h.pair, h.state.acct]
  rfl

theorem foldl_alerts (causes : List AlertCause) (shed : List ShedEntry) : ∀ s : State,
    causes.foldl (fun acc cause => queueReport acc (alertOf acc cause shed)) s
      = s.setPort ((causes.map (fun cause => alertOf s cause shed)).foldl Port.place s.port) := by
  induction causes with
  | nil => exact fun _ => rfl
  | cons cause causes ih => exact fun s => ih (queueReport s (alertOf s cause shed))

/-- The causes that an event reports. -/
def eventCauses (w : Work) (drawn fed : ShedRun) : List AlertCause := alertCauses w.st.acct (eventAcct w drawn fed) drawn fed

/-- The state with its alerts queued, as `Runs` gives it. -/
theorem alertedState_eq {w : Work} {drawn fed : ShedRun} (h : Runs w drawn fed) :
    alertedState w = (notedState w).setPort (((eventCauses w drawn fed).map
      (fun cause => alertOf (notedState w) cause (shedOf w))).foldl Port.place w.st.port) := by
  have port : (notedState w).port = w.st.port := by
    show (shedBoth w).st.port = _
    rw [h.state.1]; rfl
  unfold alertedState
  rw [foldl_alerts, notedState_acct h, h.pair, port]
  rfl

theorem alertedState_hist {w : Work} {drawn fed : ShedRun} (h : Runs w drawn fed) : (alertedState w).hist = w.st.hist := by
  rw [alertedState_eq h]
  show (shedBoth w).st.hist = _
  rw [h.state.1]; rfl

theorem settleAccount_port {w : Work} {drawn fed : ShedRun} (h : Runs w drawn fed) (eased : Bool) :
    (settleAccount w eased).st.port = ((eventCauses w drawn fed).map
      (fun cause => alertOf (notedState w) cause (shedOf w))).foldl Port.place w.st.port := by
  have offered : (offeredState w).port = (alertedState w).port := by
    unfold offeredState offerTrigger
    split
    · split <;> rfl
    · rfl
  have ends : (settleAccount w eased).st.port = (alertedState w).port := by
    rw [settleAccount_eq]
    split <;> exact offered
  rw [ends, alertedState_eq h]
  rfl

theorem settleAccount_hist (w : Work) (eased : Bool) : (settleAccount w eased).st.hist = (offeredState w).hist := by
  rw [settleAccount_eq]
  split <;> rfl

/-- Without a notice of easing, a run touches the selector's service records alone. -/
theorem offeredState_svc {w : Work} {drawn fed : ShedRun} (h : Runs w drawn fed) :
    (offeredState w).svc = { w.st.svc with records := (shedBoth w).st.svc.records } := by
  have offered : (offeredState w).svc = (alertedState w).svc := by
    unfold offeredState offerTrigger
    split
    · split <;> rfl
    · rfl
  rw [offered, alertedState_eq h]
  show (shedBoth w).st.svc = _
  rw [h.state.1]
  rfl

theorem offeredState_cap {w : Work} : (offeredState w).cap = w.st.cap := by rw [accountOnly_offered w]

theorem settleAccount_svc_of_quiet {w : Work} {drawn fed : ShedRun} (h : Runs w drawn fed) :
    (settleAccount w false).st.svc = { w.st.svc with records := (shedBoth w).st.svc.records } := by
  rw [settleAccount_eq]
  exact offeredState_svc h

theorem settleAccount_svc_of_eased {w : Work} {drawn fed : ShedRun} (h : Runs w drawn fed) :
    (settleAccount w true).st.svc = { w.st.svc with
      records := (shedBoth w).st.svc.records
      setAside := if decide (w.st.svc.lastC < w.st.cap.c) || decide (w.st.svc.lastS < w.st.cap.sink) then Table.const 48 none
        else w.st.svc.setAside
      lastC := w.st.cap.c, lastS := w.st.cap.sink } := by
  rw [settleAccount_eq, if_pos rfl]
  show Selector.mk _ _ _ _ _ = _
  rw [offeredState_svc h, offeredState_cap]

/-- The causes are those of R103's table, in its order. -/
theorem alertCauses_spec (old new : Account) (drawn fed : ShedRun) :
    (alertCauses old new drawn fed).Sublist [.drawOvercommit, .drawRecovered, .regenOvercommit, .regenRecovered,
        .shedExhausted .draw, .shedExhausted .regen]
      ∧ (.drawOvercommit ∈ alertCauses old new drawn fed ↔ old.drawOver = false ∧ new.drawOver = true)
      ∧ (.drawRecovered ∈ alertCauses old new drawn fed ↔ old.drawOver = true ∧ new.drawOver = false)
      ∧ (.regenOvercommit ∈ alertCauses old new drawn fed ↔ old.regenOver = false ∧ new.regenOver = true)
      ∧ (.regenRecovered ∈ alertCauses old new drawn fed ↔ old.regenOver = true ∧ new.regenOver = false)
      ∧ (.shedExhausted .draw ∈ alertCauses old new drawn fed ↔ old.drawExhausted = false ∧ drawn.exhausted = true)
      ∧ (.shedExhausted .regen ∈ alertCauses old new drawn fed ↔ old.regenExhausted = false ∧ fed.exhausted = true) := by
  have at_most (b : Bool) (x : AlertCause) : (if b = true then [x] else []).Sublist [x] := by
    cases b
    · exact List.nil_sublist _
    · exact List.Sublist.refl _
  refine ⟨?_, ?_⟩
  · exact (((((at_most _ .drawOvercommit).append (at_most _ .drawRecovered)).append (at_most _ .regenOvercommit)).append
      (at_most _ .regenRecovered)).append (at_most _ (.shedExhausted .draw))).append (at_most _ (.shedExhausted .regen))
  · unfold alertCauses
    simp only [List.mem_append, List.mem_ite_nil_right, List.mem_singleton, Bool.and_eq_true, Bool.not_eq_true', reduceCtorEq,
      and_false, and_true, or_false, false_or, AlertCause.shedExhausted.injEq]
    exact ⟨trivial, trivial, trivial, trivial, and_comm, and_comm⟩

theorem alertOf_notedState {w : Work} {drawn fed : ShedRun} (h : Runs w drawn fed) :
    (fun cause => alertOf (notedState w) cause (shedOf w)) = fun cause => Report.alert
      { cause, time := w.st.time, c := w.st.cap.c, sink := w.st.cap.sink, kd := (eventAcct w drawn fed).kd
        kr := (eventAcct w drawn fed).kr
        projectedDraw := (eventAcct w drawn fed).kd - stopped (·.draw) (eventAcct w drawn fed).entries
        projectedRegen := (eventAcct w drawn fed).kr - stopped (·.regen) (eventAcct w drawn fed).entries
        drawOver := (eventAcct w drawn fed).drawOver, regenOver := (eventAcct w drawn fed).regenOver
        shed := (drawn.shed ++ fed.shed).map (fun e => ⟨e.permit, e.car⟩) } := by
  have time : (notedState w).time = w.st.time := by
    show (shedBoth w).st.time = _
    rw [h.state.1]; rfl
  have cap : (notedState w).cap = w.st.cap := by
    show (shedBoth w).st.cap = _
    rw [h.state.1]; rfl
  have shed : shedOf w = (drawn.shed ++ fed.shed).map (fun e => (⟨e.permit, e.car⟩ : ShedEntry)) := by
    unfold shedOf
    rw [h.pair]
  funext cause
  rw [alertOf, time, cap, notedState_acct h, shed, MessagePort.projectedDraw_eq, MessagePort.projectedRegen_eq]

theorem alerted_setup (w : Work) : (alertedState w).setup = w.st.setup := by rw [accountOnly_alerted w]

theorem offeredState_of_set {w : Work} {drawn fed : ShedRun} (h : Runs w drawn fed) (clear : w.st.acct.drawOver = false)
    (set : (eventAcct w drawn fed).drawOver = true) :
    offeredState w = offerTrigger (alertedState w) .drawOvercommit := by
  unfold offeredState
  rw [alerted_acct, notedState_acct h, clear, set]
  rfl

/-- Overcommit that stood, has not become set, or is no trigger, leaves the capture alone (R107). -/
theorem offeredState_hist_of_quiet {w : Work} {drawn fed : ShedRun} (h : Runs w drawn fed)
    (quiet : w.st.acct.drawOver = true ∨ (eventAcct w drawn fed).drawOver = false ∨ w.st.setup.limits.onDraw = false) :
    (offeredState w).hist = w.st.hist := by
  unfold offeredState
  rw [alerted_acct, notedState_acct h]
  split
  case isTrue offered =>
    rw [Bool.and_eq_true, Bool.not_eq_true'] at offered
    obtain ⟨clear, set⟩ := offered
    rcases quiet with stood | none | not_on
    · exact absurd (stood.symm.trans clear) (by decide)
    · exact absurd (set.symm.trans none) (by decide)
    · have ignored : triggerTaken (alertedState w) .drawOvercommit = false := by
        unfold triggerTaken
        rw [alerted_setup, show triggerEnabled w.st.setup.limits .drawOvercommit = false from not_on, Bool.false_and]
      rw [offerTrigger_of_not_taken ignored, alertedState_hist h]
  case isFalse => exact alertedState_hist h

theorem ran_shedFrom {w t u : Work} {fed : ShedRun} (regen : Ran regenCase t u fed) {drawn : List Entry} {a : Account}
    (acct : t.st.acct = { a with entries := shedIn drawn w.st.acct.entries }) (kr : a.kr = w.st.acct.kr)
    (setup : t.st.setup = w.st.setup) (cap : t.st.cap = w.st.cap) (flag : t.st.acct.regenOver = true) :
    ShedFrom w.st (·.regen) (fun e => 0 < e.regen) w.st.acct.kr w.st.cap.sink (shedIn drawn w.st.acct.entries) fed.shed := by
  have chosen := regen.chosen flag
  have limit : regenCase.limit t.st = w.st.cap.sink := congrArg Capacity.sink cap
  have total : regenCase.total t.st.acct = w.st.acct.kr := by rw [acct]; exact kr
  have entries : t.st.acct.entries = shedIn drawn w.st.acct.entries := by rw [acct]
  rw [limit, total, entries] at chosen
  have order {x y : Entry} {i j : Nat} : TakenBefore t.st i j x y ↔ TakenBefore w.st i j x y := by
    unfold TakenBefore profile
    rw [setup]
  simp only [ShedFrom, order] at chosen
  exact chosen

/-- Settles O34: what both runs leave, and what the event then reports. -/
theorem accountEventCompleted : Obligations.AccountEventCompleted := by
  intro w eased cars totals
  obtain ⟨drawn, fed, h⟩ := exists_runs cars totals
  obtain ⟨t, draw, regen, acct, setup, cap⟩ := h.first
  have acct_eq : (settleAccount w eased).st.acct = eventAcct w drawn fed :=
    (settleAccount_acct w eased).trans (notedState_acct h)
  have flag_draw : (eventAcct w drawn fed).drawOver = true ↔ w.st.cap.c < w.st.acct.kd := decide_eq_true_iff
  have flag_regen : (eventAcct w drawn fed).regenOver = true ↔ w.st.cap.sink < w.st.acct.kr := decide_eq_true_iff
  have regen_flag : t.st.acct.regenOver = (eventAcct w drawn fed).regenOver := by rw [acct]; rfl
  obtain ⟨listed, draw_set, draw_clear, regen_set, regen_clear, draw_done, regen_done⟩ :=
    alertCauses_spec w.st.acct (eventAcct w drawn fed) drawn fed
  refine ⟨_, eventCauses w drawn fed, drawn.shed, fed.shed, (drawn.shed ++ fed.shed).map (fun e => ⟨e.permit, e.car⟩), rfl, ?_⟩
  rw [settleAccount_port h, acct_eq]
  refine ⟨fun clear => by rw [draw.idle clear]; rfl, fun clear => by rw [regen.idle (regen_flag.trans clear)]; rfl, draw.chosen,
    fun set => ran_shedFrom regen acct rfl setup cap (regen_flag.trans set), rfl, rfl, rfl, rfl, rfl, flag_draw, flag_regen,
    h.drawExhausted cars, h.regenExhausted, listed, draw_set, draw_clear, regen_set, regen_clear, draw_done, regen_done, ?_,
    fun clear set on_draw free => ?_, fun none => ?_, fun eases => ?_, fun quiet => ?_, ?_⟩
  · rw [alertOf_notedState h]
  · rw [settleAccount_hist, offeredState_of_set h clear set]
    have taken : triggerTaken (alertedState w) .drawOvercommit = true := by
      unfold triggerTaken
      rw [alertedState_hist h, free, alerted_setup]
      exact (Bool.and_true _).trans on_draw
    rw [offerTrigger_of_taken taken, startedCapture, alertedState_hist h, accountOnly_alerted w]
    rfl
  · exact (settleAccount_hist w eased).trans (offeredState_hist_of_quiet h none)
  · subst eases
    rw [settleAccount_svc_of_eased h]
    refine ⟨rfl, rfl, fun rise => if_pos ?_, fun c_falls s_falls => if_neg ?_⟩
    · rw [Bool.or_eq_true, decide_eq_true_iff, decide_eq_true_iff]
      exact rise
    · rw [Bool.or_eq_true, decide_eq_true_iff, decide_eq_true_iff]
      omega
  · subst quiet
    rw [settleAccount_svc_of_quiet h]
  · rw [← acct_eq, ← settleAccount_port h eased]
    exact accountOnly_settleAccount w eased

end Sys2Proof.Proofs.Shedding
end
section
/-! PROOFS. Moves of the Plan Controller: ARM (R117), HALT (R118), the restore timer (R126), the return of utility from OUTAGE
(R128). -/

namespace Sys2Proof.Proofs.PlanMoves

open Sys2Proof.Machine Sys2Proof.Safety Sys2Proof.Proofs.Upkeep Sys2Proof.Proofs.IndicationLines Sys2Proof.Proofs.Ends
  Sys2Proof.Proofs.Capacity

/-! ## What a reply leaves -/

/-- A request keeps the settings as its rule kept them. -/
theorem settingsKept_of_answered {s t u : State} (same : t = u.setPort { u.port with replies := t.port.replies })
    (settings : SettingsKept (setFramer s .hunting) u) : SettingsKept s t := by
  obtain ⟨setup, lines, _, store, _, svc, _, _, _, _, _, time, pending⟩ := fixed_of_answered same
  obtain ⟨setup', lines', store', time', pending', counts'⟩ := settings
  exact ⟨setup.trans setup', lines.trans lines', store.trans store', time.trans time', pending.trans pending',
    (congrArg Selector.counts svc).trans counts'⟩

theorem linesDriven_of_answered {t u : State} (same : t = u.setPort { u.port with replies := t.port.replies })
    (driven : LinesDriven u) : LinesDriven t := by
  rw [same]
  exact outer_linesDriven.port rfl driven

/-! ## ARM (R117) -/

theorem movedState_link (s : State) (dest : PlanState) (cause : PlanCause) :
    (movedState s dest cause).link = if s.plan.state = .halted then (driveLinks s).link else s.link := by
  have begun : ∀ x : State, (if s.plan.state = .returning ∧ dest = .service then x else clearParks x).link = x.link := by
    intro x
    split <;> rfl
  unfold movedState
  extract_lets s1 ctl s2 s3
  rw [begun]
  unfold s3
  split
  · exact startSampling_link _
  · rfl

theorem movedState_setup (s : State) (dest : PlanState) (cause : PlanCause) : (movedState s dest cause).setup = s.setup :=
  congrArg Fixed.setup (movedState_fixed s dest cause)

/-- As the plan leaves HALTED no car has a miss, so that a census that begins counts none as silent. -/
theorem alreadySilent_leaving {s : State} (halted : s.plan.state = .halted) (threshold : 0 < s.setup.limits.silenceThreshold)
    (dest : PlanState) (cause : PlanCause) (c : CarId) : alreadySilent (movedState s dest cause) c = false := by
  have missed : (carLink (movedState s dest cause) c).missed = 0 := by
    unfold carLink
    rw [movedState_link, if_pos halted]
    simp [driveLinks, alterLinks, State.setLink]
  unfold alreadySilent
  split
  · rw [missed, movedState_setup, decide_eq_false (Nat.not_le.2 threshold), Bool.and_false]
  · rfl

theorem enterSettling_census (w : Work) (left : PlanState) (begins : left ≠ .restoring) :
    (enterSettling w left).st.plan.census
      = if allCounted w.st (Table.tabulate (alreadySilent w.st)) then .complete else .inProgress := by
  have started : ∀ s : State, (startOutage s left).plan.census = s.plan.census := by
    intro s
    unfold startOutage
    split <;> rfl
  have ends : (enterSettling w left).st.plan.census = (startOutage (beginCensus w.st) left).plan.census := by
    show (startOutage (if left = .restoring ∧ w.st.plan.census ≠ .none then w.st else beginCensus w.st) left).plan.census = _
    rw [if_neg fun both => begins both.1]
  rw [ends, started]
  rfl

/-- An arm begins a census that no car has been counted in (R117, R121). -/
theorem census_of_arm {w : Work} (halted : w.st.plan.state = .halted) (threshold : 0 < w.st.setup.limits.silenceThreshold)
    {c : CarId} (enrols : (profile w.st c).enrolled = true) :
    (transition w .settling .arm).st.plan.census = .inProgress := by
  have reported : ∀ (s : State) (old : Table (Option CarRecord) 48) (cause : CarCause),
      (reportChanged s old cause).plan = s.plan := fun s old cause => by rw [portOnly_reportChanged s old cause]; rfl
  rw [transition_eq]
  show (reportChanged _ _ _).plan.census = _
  rw [reported]
  show (enterSettling _ _).st.plan.census = _
  rw [enterSettling_census _ _ (by rw [halted]; decide)]
  refine if_neg fun all => ?_
  have counted := List.all_eq_true.1 all c (mem_indices c)
  have enrols' : enrolled (movedState w.st .settling .arm) c = true := by
    unfold enrolled profile
    rw [movedState_setup]
    exact enrols
  simp [enrols', alreadySilent_leaving halted threshold] at counted

/-- A configuration that the commission check passes has a car enrolled (Table 7-2). -/
theorem exists_enrolled_of_commission {su : Setup} (passes : commission su = none) : ∃ c, (su.profiles.at c).enrolled = true := by
  have cars : (if (enrolledIn su).isEmpty then some CommissionFault.noCars else none) = none :=
    List.findSome?_eq_none_iff.1 passes _ List.mem_cons_self
  cases list : enrolledIn su with
  | nil => simp [list] at cars
  | cons c rest =>
    have mem : c ∈ enrolledIn su := list ▸ List.mem_cons_self
    exact ⟨c, (List.mem_filter.1 mem).2⟩

/-- Settles O43: no exit of SETTLING is open while the census is in progress. -/
theorem armEntersPlan : Obligations.ArmEntersPlan := by
  intro s tag writable taking passes threshold
  obtain ⟨c, enrols⟩ := exists_enrolled_of_commission passes
  obtain ⟨s', made⟩ : ∃ s', s' = setFramer s .hunting := ⟨_, rfl⟩
  have counting : ¬ ((begin s').st.cap.settle = none ∧ (transition (begin s') .settling .arm).st.plan.census = .complete
      ∧ 0 < (begin s').st.cap.c) := by
    rintro ⟨_, complete, _⟩
    have begun := census_of_arm (w := begin s') (c := c) (by rw [made]; exact writable.1) (by rw [made]; exact threshold)
      (by rw [made]; exact enrols)
    exact absurd (complete.symm.trans begun) (by decide)
  have fixed : (complete (armPlan (begin s'))).fixed = s'.fixed :=
    (complete_fixed _).trans (closed_armPlan (closed_fixed _) rfl)
  obtain ⟨settings, host, cap⟩ := kept_of_fixed_eq fixed
  have accepts : bare [] ruleArm s' = accept (complete (armPlan (begin s'))) (fun x => .armed x.plan.state) := by
    have check : commission s'.setup = none := by rw [made]; exact passes
    rw [PlantLines.bare_nil, ruleArm, inHalted_of_writable (by rw [made]; exact writable)]
    simp only [check]
  rw [made] at accepts host settings cap
  obtain ⟨t, runs, answered, same⟩ := exec_of_accepted (c := .arm tag []) taking rfl accepts host
  obtain ⟨_, _, cap', _, plan', _⟩ := fixed_of_answered same
  have state : t.plan.state = armedIn s' := by
    rw [plan', ← made, complete_armPlan counting, driveLines_of_linkOnly (linkOnly_arbiters _)]
    exact (armPlan_rests counting).2
  refine ⟨t, runs, settingsKept_of_answered same settings, cap'.trans cap, by rw [plan']; exact answered, ?_⟩
  · have util : utilPresent s' = true ↔ effective s utilLine = .active := by rw [made]; exact utilPresent_iff (setFramer s .hunting)
    have retx : retxActive s' = true ↔ effective s retxLine = .active := by rw [made]; exact retxActive_iff (setFramer s .hunting)
    have sets : setAvailable s' = true ↔ ∃ n, (s.cap.sets.at n).status ≠ .offline := by
      rw [made]; exact setAvailable_iff (setFramer s .hunting)
    rw [state, armedIn]
    simp only [util, retx, sets]

/-! ## HALT (R118) -/

/-- The state that HALT leaves, its CAR-STATE reports apart. -/
def haltedState (s : State) : State := (enterHalted (begin (movedState s .halted .halt))).st

theorem transition_halt (s : State) : (transition (begin s) .halted .halt).st = reportChanged (haltedState s) s.cars .plan := rfl

theorem haltedState_eq {s : State} (driven : s.plan.state ≠ .halted) : haltedState s = { s with
    cars := (s.cars.mapAll (fun _ r => r.map (fun r => { r with parkOut := false }))).mapAll
      (fun _ r => r.map (fun r => { r.goTo .absent with attempts := 0, linkStatus := .silent }))
    link := ⟨⟨none, 0⟩, ⟨none, 0⟩, s.link.cars.mapAll (fun _ l => { l with slot := none, missed := 0, silentHold := none })⟩
    hist := { s.hist with timer := none }
    plan := ⟨.halted, s.time, .none, s.plan.counted, s.plan.restore, Table.const 48 false, Table.const 48 false, s.plan.outage⟩
    port := s.port.place (planReport s .halted .halt) } := by
  have moved : movedState s .halted .halt
      = clearParks ((queueReport s (planReport s .halted .halt)).setPlan { s.plan with state := .halted, enteredAt := s.time }) := by
    have not_return : ¬ (s.plan.state = .returning ∧ PlanState.halted = .service) := fun both => absurd both.2 (by decide)
    unfold movedState
    simp only [if_neg driven, if_neg not_return]
    rfl
  rw [haltedState, moved]
  simp only [enterHalted, Work.up, begin, clearParks, alterCars, stopSampling, undriveLinks, queueReport, State.setPlan,
    State.setPort, State.setCars, State.setLink, State.setHist, LinkLine.fresh]

/-- Settles O44: the transition's own changes, after which nothing is left to do. -/
theorem haltEntersHalted : Obligations.HaltEntersHalted := by
  intro s tag taking from_here
  obtain ⟨s', made⟩ : ∃ s', s' = setFramer s .hunting := ⟨_, rfl⟩
  have state : s'.plan.state = .watching ∨ s'.plan.state = .outage := by rw [made]; exact from_here
  have at_halt := haltedState_eq (s := s') (by rcases state with h | h <;> rw [h] <;> decide)
  have ends : complete (transition (begin s') .halted .halt) = driveLines (reportChanged (haltedState s') s'.cars .plan) :=
    complete_halted _ (transition_plan_state _ _ _)
  have port := portOnly_reportChanged (haltedState s') s'.cars .plan
  have fixed : (complete (transition (begin s') .halted .halt)).fixed = s'.fixed :=
    (complete_fixed _).trans (transition_fixed _ _ _)
  obtain ⟨settings, host, cap⟩ := kept_of_fixed_eq fixed
  have accepts : bare [] ruleHalt s' = accept (complete (transition (begin s') .halted .halt)) (fun _ => .nothing) := by
    rw [PlantLines.bare_nil, ruleHalt]
    exact if_pos (by rcases state with h | h <;> rw [h] <;> rfl)
  rw [made] at accepts host settings cap
  obtain ⟨t, runs, answered, same⟩ := exec_of_accepted (c := .halt tag []) taking rfl accepts host
  obtain ⟨_, _, cap', _, plan', svc', acct', cars', ret', hist', link', _⟩ := fixed_of_answered same
  have left {α : Type} (f : State → α) (plain : ∀ (x : State) (p : Machine.Port) (i : Table PinLevel 2),
      f { x with port := p, inds := i } = f x) :
      f (complete (transition (begin (setFramer s .hunting)) .halted .halt)) = f (haltedState s') := by
    rw [← made, ends]
    unfold driveLines State.setInds
    rw [port]
    exact plain (haltedState s') _ _
  have link := left State.link fun _ _ _ => rfl
  have cars := left State.cars fun _ _ _ => rfl
  have driven : LinesDriven (complete (transition (begin (setFramer s .hunting)) .halted .halt)) := by
    rw [← made, ends]
    exact linesDriven_driveLines _
  refine ⟨t, runs, settingsKept_of_answered same settings, linesDriven_of_answered same driven, answered, cap'.trans cap,
    ?_, ?_, ?_, ?_, ?_, ?_, ?_, ?_, ?_⟩
  · rw [acct', left State.acct fun _ _ _ => rfl, at_halt, made]; rfl
  · rw [ret', left State.ret fun _ _ _ => rfl, at_halt, made]; rfl
  · rw [svc', left State.svc fun _ _ _ => rfl, at_halt, made]; rfl
  · rw [hist', left State.hist fun _ _ _ => rfl, at_halt, made]; rfl
  · rw [plan', left State.plan fun _ _ _ => rfl, at_halt, made]; rfl
  · rw [link', link, at_halt]
  · rw [link', link, at_halt]
  · intro c
    rw [link', link, at_halt, made]
    exact Table.mapAll_at _ _ _
  · intro c
    show t.cars.at c = (s.cars.at c).map _
    rw [cars', cars, at_halt, made, Table.mapAll_at, Table.mapAll_at, Option.map_map]
    rfl

end Sys2Proof.Proofs.PlanMoves
end
section
/-! PROOFS. Entry into RESTORING and WATCHING (R125, R126, R128): the restore timer's expiry, and the return of utility from
OUTAGE. -/

namespace Sys2Proof.Proofs.PlanMoves

open Sys2Proof.Machine Sys2Proof.Safety Sys2Proof.Proofs.Upkeep Sys2Proof.Proofs.IndicationLines Sys2Proof.Proofs.Ends
  Sys2Proof.Proofs.Capacity Sys2Proof.Proofs.Account

/-! ## The start of a transition (R114) -/

theorem takeSample_cars (s : State) : (takeSample s).cars = s.cars := by
  unfold takeSample
  dsimp only
  split
  · split <;> rfl
  · rfl

theorem startSampling_cars (s : State) : (startSampling s).cars = s.cars := by
  unfold startSampling
  split
  · rfl
  · exact takeSample_cars s

theorem movedState_plan (s : State) (dest : PlanState) (cause : PlanCause) :
    (movedState s dest cause).plan = { s.plan with state := dest, enteredAt := s.time } := by
  have kept : ∀ x : State, (if s.plan.state = .returning ∧ dest = .service then x else clearParks x).plan = x.plan := by
    intro x
    split <;> rfl
  unfold movedState
  extract_lets s1 ctl s2 s3
  rw [kept]
  unfold s3
  split
  · exact startSampling_plan _
  · rfl

/-- Every record with PARK outstanding cleared. -/
theorem movedState_cars {s : State} {dest : PlanState} (clears : ¬ (s.plan.state = .returning ∧ dest = .service)) (cause : PlanCause) :
    (movedState s dest cause).cars = (clearParks s).cars := by
  unfold movedState
  extract_lets s1 ctl s2 s3
  have cars : s3.cars = s.cars := by
    unfold s3
    split
    · exact startSampling_cars _
    · rfl
  rw [if_neg clears]
  show s3.cars.mapAll _ = s.cars.mapAll _
  rw [cars]

/-! ## Entry into WATCHING (R128) -/

theorem overCars_linkOnly {f : State → CarId → State} (only : ∀ s c, LinkOnly s (f s c)) (s : State) (cars : List CarId) :
    LinkOnly s (overCars s cars f) := foldl_rel LinkOnly.refl LinkOnly.trans only _ _

theorem clearTable_only (w : Work) : AccountOnly w.st (clearTable w).st := accountOnly_settleAccount _ false

/-- The table cleared: no entry, both totals 0, the permit counter as it stood (R99). -/
theorem clearTable_acct (w : Work) : (clearTable w).st.acct.entries = [] ∧ (clearTable w).st.acct.kd = 0
    ∧ (clearTable w).st.acct.kr = 0 ∧ (clearTable w).st.acct.nextPermit = w.st.acct.nextPermit := by
  have sums : TotalsMatch (w.up (fun s => s.setAcct s.acct.cleared)).st := ⟨rfl, rfl⟩
  obtain ⟨_, kd, kr, _, _, next⟩ := flagsStand_settleAccount sums false
  exact ⟨entries_nil_settleAccount rfl false, kd, kr, next⟩

/-- The plan as WATCHING is entered: every enrolled car is owed a HAND-BACK, and an outage that RESTORING ends is closed. -/
def watchedPlan (s : State) (left : PlanState) : PlanCtl :=
  { s.plan with
    owed := Table.tabulate (enrolled s), census := .none, restore := .stopped, cancelled := Table.const 48 false
    outage := if left = .restoring then s.plan.outage.map (fun o => { o with finish := some (o.finish.getD s.time) })
      else s.plan.outage }

/-- What entry into WATCHING leaves of the plan, the queue and group, the account and the records. -/
structure Watched (s t : State) (left : PlanState) : Prop where
  plan : t.plan = watchedPlan s left
  ret : t.ret = { s.ret with queue := [], group := [], spacing := none }
  acct : t.acct.entries = [] ∧ t.acct.kd = 0 ∧ t.acct.kr = 0 ∧ t.acct.nextPermit = s.acct.nextPermit
  cars : t.cars = s.cars.mapAll (fun _ r => r.map (fun r => { r.goTo (watchState r) with attempts := 0, parkOut := false }))

/-- The state as WATCHING is entered from a cleared table, the HAND-BACKs and the outage record apart. -/
def watchedBase (u : State) : State :=
  let s1 := removeCommands (resetCars (endService (emptyReturns u)) watchState) (· != .handBack)
  s1.setPlan
    { s1.plan with owed := Table.tabulate (enrolled s1), census := .none, restore := .stopped, cancelled := Table.const 48 false }

/-- The state with a HAND-BACK placed for every car that WATCHING finds in contact. -/
def handedBack (s : State) : State :=
  overCars s ((indices 48).filter (fun c => stateOf s c == some .idle)) (fun acc c => place acc c .handBack)

theorem handedBack_linkOnly (s : State) : LinkOnly s (handedBack s) :=
  overCars_linkOnly (f := fun acc c => place acc c .handBack) (fun s c => linkOnly_placeCommand s c .handBack none none) s _

theorem enterWatching_st (w : Work) (left : PlanState) : (enterWatching w left).st
    = if left = .restoring then recordEnd (handedBack (watchedBase (clearTable w).st))
      else handedBack (watchedBase (clearTable w).st) := by
  simp only [enterWatching, clearStage, Work.up, handedBack, watchedBase]

theorem enterWatching_eq (w : Work) (left : PlanState) : ∃ l, (enterWatching w left).st
    = ((watchedBase (clearTable w).st).setLink l).setPlan (watchedPlan (clearTable w).st left) := by
  obtain ⟨l, placed⟩ : ∃ l, handedBack (watchedBase (clearTable w).st) = (watchedBase (clearTable w).st).setLink l :=
    ⟨_, handedBack_linkOnly _⟩
  refine ⟨l, ?_⟩
  rw [enterWatching_st, placed]
  generalize (clearTable w).st = u
  unfold watchedBase watchedPlan
  have time : (removeCommands (resetCars (endService (emptyReturns u)) watchState) (· != .handBack)).time = u.time := rfl
  have plan : (removeCommands (resetCars (endService (emptyReturns u)) watchState) (· != .handBack)).plan = u.plan := rfl
  have enrols : enrolled (removeCommands (resetCars (endService (emptyReturns u)) watchState) (· != .handBack)) = enrolled u := rfl
  generalize removeCommands (resetCars (endService (emptyReturns u)) watchState) (· != .handBack) = b at time plan enrols
  unfold recordEnd
  rw [← time, ← plan, ← enrols]
  split
  · rfl
  · rfl

theorem enterWatching_leaves (w : Work) (left : PlanState) : Watched w.st (enterWatching w left).st left := by
  obtain ⟨u, cleared⟩ : ∃ u, u = (clearTable w).st := ⟨_, rfl⟩
  have only : AccountOnly w.st u := cleared ▸ clearTable_only w
  have acct : u.acct.entries = [] ∧ u.acct.kd = 0 ∧ u.acct.kr = 0 ∧ u.acct.nextPermit = w.st.acct.nextPermit := cleared ▸ clearTable_acct w
  obtain ⟨l, entered⟩ := enterWatching_eq w left
  rw [← cleared] at entered
  rw [entered]
  have plan : watchedPlan u left = watchedPlan w.st left := by
    unfold watchedPlan enrolled profile
    rw [only]
  have ret : u.ret = w.st.ret := by rw [only]
  have cars : u.cars = w.st.cars := by rw [only]
  exact ⟨plan, by rw [← ret]; rfl, acct, by rw [← cars]; rfl⟩

/-- A transition into WATCHING, from the state as it begins to what it leaves. -/
theorem transition_watching_leaves (w : Work) (cause : PlanCause) :
    Watched (movedState w.st .watching cause) (transition w .watching cause).st w.st.plan.state := by
  obtain ⟨plan, ret, acct, cars⟩ := enterWatching_leaves (w.up (fun s => movedState s .watching cause)) w.st.plan.state
  have port := portOnly_reportChanged (enterWatching (w.up (fun s => movedState s .watching cause)) w.st.plan.state).st
    w.st.cars .plan
  have ends : (transition w .watching cause).st
      = reportChanged (enterWatching (w.up (fun s => movedState s .watching cause)) w.st.plan.state).st w.st.cars .plan := rfl
  rw [ends, port]
  exact ⟨plan, ret, acct, cars⟩

theorem enrolled_movedState (s : State) (dest : PlanState) (cause : PlanCause) : enrolled (movedState s dest cause) = enrolled s := by
  unfold enrolled profile
  rw [movedState_setup]

theorem movedState_time (s : State) (dest : PlanState) (cause : PlanCause) : (movedState s dest cause).time = s.time :=
  congrArg Fixed.time (movedState_fixed s dest cause)

/-- The plan as WATCHING is entered from a state. -/
theorem watchedPlan_movedState (s : State) (cause : PlanCause) : watchedPlan (movedState s .watching cause) s.plan.state
    = { watchedPlan s s.plan.state with state := .watching, enteredAt := s.time } := by
  unfold watchedPlan
  rw [movedState_plan, movedState_time, enrolled_movedState]

/-! ## The restore timer's expiry (R126) -/

theorem exec_restoreTimeout {s : State} {expiry : Time} (running : s.plan.restore = .running expiry) (due : Due s.time expiry) :
    exec .restoreTimeout s = .next (complete (begin (s.setPlan { s.plan with restore := .lapsed }))) := by
  have taken : restoreDue s = true := by
    unfold restoreDue
    rw [running]
    exact (reached_iff _ _).2 due
  simp only [exec, execRestoreTimeout, taken, if_true]

/-- Once WATCHING is entered with UTIL present, the event is over. -/
theorem complete_of_watching {w : Work} {u : Work} (runs : planRun w = u) (state : u.st.plan.state = .watching) : complete w = driveLines (arbiters u.st) := by
  have idle : granting (planRun w).st = false := by
    rw [runs]; unfold granting; rw [state]; rfl
  rw [complete, completeWith, grantWork_of_not_granting idle, runs]
  rfl

theorem planExit_watching {s : State} (state : s.plan.state = .watching) (util : effective s utilLine = .active) :
    planExit s = none := by
  unfold planExit
  simp only [state, (utilPresent_iff s).2 util, if_true]

/-- Settles O45: the lapsed timer opens the exit into WATCHING when UTIL is present, and else none. -/
theorem restoreTimeoutEnds : Obligations.RestoreTimeoutEnds := by
  intro s expiry restoring running due
  obtain ⟨s1, lapsed⟩ : ∃ s1, s1 = s.setPlan { s.plan with restore := .lapsed } := ⟨_, rfl⟩
  have state : s1.plan.state = .restoring := by rw [lapsed]; exact restoring
  have runs := exec_restoreTimeout running due
  rw [← lapsed] at runs
  refine ⟨fun util => ?_, fun util retx available busy => ?_⟩
  · have util' : effective s1 utilLine = .active := by rw [lapsed]; exact util
    have exits : planExit (begin s1).st = some (.watching, .restoreTimeout) := by
      have timer : s1.plan.restore = .lapsed := by rw [lapsed]; rfl
      show planExit s1 = _
      unfold planExit
      simp only [state, (utilPresent_iff s1).2 util', if_true, timer]
    have fixed := transition_fixed (begin s1) .watching .restoreTimeout
    have entered := transition_plan_state (begin s1) .watching .restoreTimeout
    have rests := planExit_watching entered ((effective_of_fixed fixed _).trans util')
    have ends := complete_of_watching (planRun_of_exit exits rests) entered
    obtain ⟨plan, ret, ⟨entries, kd, kr, next⟩, _⟩ := transition_watching_leaves (begin s1) .restoreTimeout
    obtain ⟨settings, host, cap⟩ := kept_of_fixed_eq (complete_fixed (begin s1))
    have left := driveLines_of_linkOnly (linkOnly_arbiters (transition (begin s1) .watching .restoreTimeout).st)
    rw [movedState_acct] at next
    rw [movedState_ret] at ret
    rw [show (begin s1).st = s1 from rfl, watchedPlan_movedState] at plan
    have same : s1.acct = s.acct ∧ s1.ret = s.ret ∧ s1.time = s.time := by rw [lapsed]; exact ⟨rfl, rfl, rfl⟩
    have settings' : SettingsKept s (complete (begin s1)) := lapsed ▸ settings
    refine ⟨_, runs, settings', lapsed ▸ host, cap.trans (by rw [lapsed]; rfl), ?_⟩
    rw [ends, left]
    dsimp only
    rw [plan, ret, entries, kd, kr, next]
    obtain ⟨acct, rets, time⟩ := same
    refine ⟨rfl, rfl, time, rfl, rfl, rfl, rfl, rfl, show s1.ret.nextSeq = _ from congrArg Returns.nextSeq rets,
      show s1.acct.nextPermit = _ from congrArg Account.nextPermit acct, fun c => ?_⟩
    rw [lapsed]
    exact Table.tabulate_at _ _
  · have levels : utilPresent s1 = false ∧ retxActive s1 = true ∧ setAvailable s1 = true := by
      refine ⟨?_, (retxActive_iff s1).2 (by rw [lapsed]; exact retx), (setAvailable_iff s1).2 (by rw [lapsed]; exact available)⟩
      rw [← Bool.not_eq_true, utilPresent_iff, lapsed]
      exact fun present => absurd (util.symm.trans present) (by decide)
    obtain ⟨absent, active, sets⟩ := levels
    have rests : planExit (begin s1).st = none := by
      show planExit s1 = none
      unfold planExit
      simp only [state, absent, active, sets, Bool.false_eq_true, if_false, Bool.not_true]
    have idle : granting (begin s1).st = false := by
      show granting s1 = false
      unfold granting
      rw [state]
      rfl
    have busy' : LinksBusy s1 := by rw [lapsed]; exact linksBusy_of_same busy rfl rfl rfl (.inl rfl)
    have ends : complete (begin s1) = driveLines s1 := by
      rw [complete, completeWith_of_resting rests idle]
      exact congrArg driveLines (arbiters_of_linksBusy busy' (show s1.plan.state ≠ .halted by rw [state]; decide))
    refine ⟨_, runs, by rw [ends]; exact linesDriven_driveLines _, ?_⟩
    rw [ends, lapsed]
    rfl

end Sys2Proof.Proofs.PlanMoves
end
section
/-! PROOFS. The return of utility in OUTAGE (R128): RESTORING and WATCHING in one event. -/

namespace Sys2Proof.Proofs.PlanMoves

open Sys2Proof.Machine Sys2Proof.Safety Sys2Proof.Proofs.Upkeep Sys2Proof.Proofs.IndicationLines Sys2Proof.Proofs.Ends
  Sys2Proof.Proofs.Capacity Sys2Proof.Proofs.Account Sys2Proof.Proofs.Lines

/-! ## Entry into RESTORING with no entry standing (R125) -/

/-- The account, the outage record and every link status are as they were. -/
def CarriedOver (s t : State) : Prop :=
  t.acct = s.acct ∧ t.plan.outage = s.plan.outage
    ∧ ∀ c, (t.cars.at c).map (·.linkStatus) = (s.cars.at c).map (·.linkStatus)

theorem CarriedOver.refl (s : State) : CarriedOver s s := ⟨rfl, rfl, fun _ => rfl⟩

theorem CarriedOver.trans {s t u : State} (h : CarriedOver s t) (g : CarriedOver t u) : CarriedOver s u :=
  ⟨g.1.trans h.1, g.2.1.trans h.2.1, fun c => (g.2.2 c).trans (h.2.2 c)⟩

theorem CarriedOver.of_linkOnly {s t : State} (h : LinkOnly s t) : CarriedOver s t := by
  rw [h]; exact ⟨rfl, rfl, fun _ => rfl⟩

theorem CarriedOver.of_portOnly {s t : State} (h : PortOnly s t) : CarriedOver s t := by
  rw [h]; exact ⟨rfl, rfl, fun _ => rfl⟩

theorem carriedOver_alterCar (s : State) (c : CarId) {f : CarRecord → CarRecord} (same : ∀ r, (f r).linkStatus = r.linkStatus) :
    CarriedOver s (alterCar s c f) := by
  refine ⟨rfl, rfl, fun d => ?_⟩
  show ((s.cars.alter c (Option.map f)).at d).map _ = _
  rw [Table.alter_at]
  split
  · rename_i here
    rw [Option.map_map, here]
    exact congrArg (Option.map · _) (funext same)
  · rfl

theorem carriedOver_cancelReturn (s : State) (c : CarId) : CarriedOver s (cancelReturn s c) := by
  have held : CarriedOver s (holdAs s c .idle) :=
    (CarriedOver.of_linkOnly (linkOnly_placeCommand s c .hold none none)).trans
      ((carriedOver_alterCar _ c (f := CarRecord.goTo .idle) fun _ => rfl).trans ⟨rfl, rfl, fun _ => rfl⟩)
  exact held.trans ⟨rfl, rfl, fun _ => rfl⟩

theorem cancelRun_of_no_entry {w : Work} (none : w.st.acct.entries = []) (c : CarId) : cancelRun w c = w := by
  have missing : entryOf w.st c = Option.none := by unfold entryOf; rw [none]; rfl
  simp only [cancelRun, missing]

theorem foldl_cancelRun_of_no_entry {w : Work} (none : w.st.acct.entries = []) : ∀ cars : List CarId, cars.foldl cancelRun w = w
  | [] => rfl
  | c :: cars => by rw [List.foldl_cons, cancelRun_of_no_entry none c]; exact foldl_cancelRun_of_no_entry none cars

theorem enterRestoring_of_no_entry {w : Work} (none : w.st.acct.entries = []) (parks : List CarId) :
    CarriedOver w.st (enterRestoring w parks).st ∧ ∃ expiry, (enterRestoring w parks).st.plan.restore = .running expiry := by
  obtain ⟨x, made⟩ : ∃ x, x = overCars (emptyReturns w.st) ((indices 48).filter (inReturns w.st.ret)) cancelReturn := ⟨_, rfl⟩
  have first : CarriedOver w.st x := by
    rw [made]
    exact CarriedOver.trans (t := emptyReturns w.st) ⟨rfl, rfl, fun _ => rfl⟩
      (foldl_rel CarriedOver.refl CarriedOver.trans carriedOver_cancelReturn _ _)
  have runs : (indices 48).foldl cancelRun ⟨x, w.nt⟩ = ⟨x, w.nt⟩ :=
    foldl_cancelRun_of_no_entry (w := ⟨x, w.nt⟩) (by rw [show (⟨x, w.nt⟩ : Work).st.acct = w.st.acct from first.1, none]) _
  obtain ⟨y, held⟩ : ∃ y, y = overCars x (parks.filter (fun c => stateOf x c == some .idle)) (fun acc c => place acc c .hold) := ⟨_, rfl⟩
  have second : CarriedOver x y := by
    rw [held]
    exact .of_linkOnly (overCars_linkOnly (f := fun acc c => place acc c .hold)
      (fun s c => linkOnly_placeCommand s c .hold Option.none Option.none) x _)
  have ends : (enterRestoring w parks).st = (endService y).setPlan { (endService y).plan with
      restore := .running (after (endService y) (endService y).setup.limits.restoreTimeout) } := by
    simp only [enterRestoring, Work.up]
    rw [← made, runs, held]
  rw [ends]
  exact ⟨(first.trans second).trans ⟨rfl, rfl, fun _ => rfl⟩, _, rfl⟩

/-- A transition into RESTORING with no entry standing. -/
theorem transition_restoring_of_no_entry {w : Work} (none : w.st.acct.entries = []) (cause : PlanCause) :
    CarriedOver w.st (transition w .restoring cause).st
      ∧ ∃ expiry, (transition w .restoring cause).st.plan.restore = .running expiry := by
  have moved : CarriedOver w.st (movedState w.st .restoring cause) := by
    refine ⟨movedState_acct _ _ _, by rw [movedState_plan], fun c => ?_⟩
    rw [movedState_cars (fun both => absurd both.2 (by decide))]
    have cleared : (clearParks w.st).cars.at c = (w.st.cars.at c).map (fun r => { r with parkOut := false }) := Table.mapAll_at _ _ _
    rw [cleared, Option.map_map]
    rfl
  obtain ⟨entered, expiry, running⟩ := enterRestoring_of_no_entry (w := w.up (fun s => movedState s .restoring cause))
    (by rw [show (w.up (fun s => movedState s .restoring cause)).st.acct = w.st.acct from moved.1, none]) (parksOut w.st)
  have port := portOnly_reportChanged (enterRestoring (w.up (fun s => movedState s .restoring cause)) (parksOut w.st)).st w.st.cars .plan
  have ends : (transition w .restoring cause).st
      = reportChanged (enterRestoring (w.up (fun s => movedState s .restoring cause)) (parksOut w.st)).st w.st.cars .plan := rfl
  rw [ends]
  refine ⟨(moved.trans entered).trans (.of_portOnly port), expiry, ?_⟩
  rw [port]
  exact running

/-- The state of a car in WATCHING is by its link status (R128). -/
theorem watchState_of_status {x y : Option CarRecord} (same : x.map (·.linkStatus) = y.map (·.linkStatus)) :
    x.map watchState = y.map (fun r => if r.linkStatus = .inContact then .idle else .absent) := by
  have by_status (z : Option CarRecord) : z.map (fun r => if r.linkStatus = .inContact then CarState.idle else .absent)
      = (z.map (·.linkStatus)).map (fun l => if l = .inContact then .idle else .absent) := by
    cases z <;> rfl
  rw [by_status y, ← same, ← by_status x]
  rfl

/-! ## The event (R128) -/

/-- UTIL's change, as far as it goes before the plan acts: the line and its report. -/
theorem changeSample_util {s : State} {pin : PinLevel} {level : Level} (new : effective s utilLine ≠ level) :
    changeSample s utilLine pin level = (begin s).up (fun s => changedLine (recordRaw s utilLine pin) utilLine level) := by
  have differs : effectiveOf ((recordRaw s utilLine pin).lines.at utilLine) ≠ level := by
    rw [recordRaw_at]
    exact new
  unfold changeSample qualifiedChange
  dsimp only
  rw [if_neg (show ¬ effectiveOf (((begin s).up (fun s => recordRaw s utilLine pin)).st.lines.at utilLine) = level from differs)]
  rfl

/-- Settles O46: OUTAGE is left for RESTORING, which with no entry to stop is left for WATCHING at once. -/
theorem utilityReturnsFromOutage : Obligations.UtilityReturnsFromOutage := by
  intro s pin outage empty qualifies
  have makes := makes_of_sample qualifies
  obtain ⟨b, raw⟩ : ∃ b, b = changedLine (recordRaw s utilLine pin) utilLine .active := ⟨_, rfl⟩
  have work : changeSample s utilLine pin .active = begin b := by rw [changeSample_util makes.new, raw]; rfl
  have util : effective b utilLine = .active := by
    rw [raw]
    exact congrArg effectiveOf (alterLine_same _ _ _)
  have state : b.plan.state = .outage := by rw [raw]; exact outage
  have none : (begin b).st.acct.entries = [] := by rw [raw]; exact empty
  obtain ⟨first, expiry, running⟩ := transition_restoring_of_no_entry none .utilityReturned
  obtain ⟨t1, one⟩ : ∃ t1, t1 = transition (begin b) .restoring .utilityReturned := ⟨_, rfl⟩
  have fixed1 : t1.st.fixed = b.fixed := by rw [one]; exact transition_fixed _ _ _
  have state1 : t1.st.plan.state = .restoring := by rw [one]; exact transition_plan_state _ _ _
  rw [← one] at first running
  have fixed2 := transition_fixed t1 .watching .carsStopped
  have state2 := transition_plan_state t1 .watching .carsStopped
  have exits : planExit (begin b).st = some (.restoring, .utilityReturned) := by
    show planExit b = _
    unfold planExit
    simp only [state, (utilPresent_iff b).2 util, if_true]
  have again : planExit t1.st = some (.watching, .carsStopped) := by
    have present : utilPresent t1.st = true := (utilPresent_iff _).2 ((effective_of_fixed fixed1 _).trans util)
    have still : anyEntryToStop t1.st = false := by
      unfold anyEntryToStop
      rw [first.1, none]
      rfl
    unfold planExit
    simp only [state1, present, if_true, running, reduceCtorEq, if_false, still, Bool.not_false]
  have rests := planExit_watching state2 ((effective_of_fixed (fixed2.trans fixed1) _).trans util)
  have runs2 : planRun (begin b) = transition t1 .watching .carsStopped := by
    rw [one]
    rw [one] at again rests
    exact planRun_of_exits exits again rests
  have ends := complete_of_watching runs2 state2
  have left := driveLines_of_linkOnly (linkOnly_arbiters (transition t1 .watching .carsStopped).st)
  obtain ⟨plan, ret, ⟨entries, _⟩, cars⟩ := transition_watching_leaves t1 .carsStopped
  rw [watchedPlan_movedState, state1] at plan
  have fixed : (complete (changeSample s utilLine pin .active)).fixed = b.fixed := by rw [work]; exact complete_fixed _
  have leaves := changeSample_leaves s utilLine pin .active
  obtain ⟨setup, store, host, _⟩ := kept_of_withLine leaves
  have time : t1.st.time = s.time := (congrArg Fixed.time fixed1).trans (by rw [raw]; rfl)
  have enrols : enrolled t1.st = enrolled s := by
    unfold enrolled profile
    rw [show t1.st.setup = s.setup from (congrArg Fixed.setup fixed1).trans (by rw [raw]; rfl)]
  have outage_record : t1.st.plan.outage = s.plan.outage := first.2.1.trans (by rw [raw]; rfl)
  have last : complete (changeSample s utilLine pin .active) = { (transition t1 .watching .carsStopped).st with
      link := (arbiters (transition t1 .watching .carsStopped).st).link
      inds := (driveLines (arbiters (transition t1 .watching .carsStopped).st)).inds } := by rw [work, ends, left]
  have plan' : (complete (changeSample s utilLine pin .active)).plan = _ := (congrArg State.plan last).trans plan
  refine ⟨_, makes.runs, congrArg PlanCtl.state plan', (congrArg PlanCtl.enteredAt plan').trans time,
    congrArg PlanCtl.restore plan', ?_, setup, ?_, store, host, fun c => ?_, fun c => ?_, fun o is_open unfinished => ?_⟩
  · rw [last]
    exact entries
  · obtain ⟨_, _, cap⟩ := kept_of_fixed_eq fixed
    rw [cap, raw]
    exact makes.offered.cap
  · rw [plan', show (watchedPlan t1.st .restoring).owed = Table.tabulate (enrolled t1.st) from rfl, enrols]
    exact Table.tabulate_at _ _
  · rw [last]
    show ((transition t1 .watching .carsStopped).st.cars.at c).map _ = _
    rw [cars, Table.mapAll_at, Option.map_map, movedState_cars (fun both => absurd both.2 (by decide))]
    have status : (t1.st.cars.at c).map (·.linkStatus) = (s.cars.at c).map (·.linkStatus) :=
      (first.2.2 c).trans (by rw [raw]; rfl)
    have cleared : (clearParks t1.st).cars.at c = (t1.st.cars.at c).map (fun r => { r with parkOut := false }) := Table.mapAll_at _ _ _
    refine Eq.trans ?_ (watchState_of_status status)
    rw [cleared, Option.map_map]
    rfl
  · rw [plan']
    show Option.map _ t1.st.plan.outage = _
    rw [outage_record, is_open, time]
    simp only [Option.map_some, unfinished, Option.getD_none]

end Sys2Proof.Proofs.PlanMoves
end
section
/-! PROOFS. One car's part of the state: its record, its link and its entry, under the operations on cars; and what a status reply
records (R35, R36). -/

namespace Sys2Proof.Proofs.Cars

open Sys2Proof.Machine Sys2Proof.Safety Sys2Proof.Proofs.Upkeep Sys2Proof.Proofs.IndicationLines Sys2Proof.Proofs.Ends
  Sys2Proof.Proofs.Account

/-! ## Records -/

@[simp] theorem record_alterCar_same (s : State) (c : CarId) (f : CarRecord → CarRecord) :
    record (alterCar s c f) c = (record s c).map f := Table.alter_at_same _ _ _

@[simp] theorem record_alterCar_other (s : State) {c d : CarId} (f : CarRecord → CarRecord) (h : d ≠ c) :
    record (alterCar s c f) d = record s d := Table.alter_at_other _ _ _ _ h

@[simp] theorem record_alterLink (s : State) (c d : CarId) (f : CarLink → CarLink) : record (alterLink s c f) d = record s d := rfl

@[simp] theorem record_moveCar_same (s : State) (c : CarId) (st : CarState) :
    record (moveCar s c st) c = (record s c).map (CarRecord.goTo st) := record_alterCar_same s c _

theorem record_moveCar_other (s : State) {c d : CarId} (st : CarState) (h : d ≠ c) : record (moveCar s c st) d = record s d :=
  record_alterCar_other s _ h

theorem record_of_linkOnly {s t : State} (h : LinkOnly s t) (d : CarId) : record t d = record s d := by rw [h]; rfl

theorem record_of_portOnly {s t : State} (h : PortOnly s t) (d : CarId) : record t d = record s d := by rw [h]; rfl

@[simp] theorem record_place (s : State) (c d : CarId) (k : CmdKind) : record (place s c k) d = record s d :=
  record_of_linkOnly (linkOnly_placeCommand s c k none none) d

@[simp] theorem record_reportCar (s : State) (c d : CarId) (old : Option CarRecord) (cause : CarCause) (decline : Option Decline) :
    record (reportCar s c old cause decline) d = record s d := record_of_portOnly (portOnly_reportCar s c old cause decline) d

/-! ## Links -/

@[simp] theorem carLink_alterLink_same (s : State) (c : CarId) (f : CarLink → CarLink) :
    carLink (alterLink s c f) c = f (carLink s c) := Table.alter_at_same _ _ _

@[simp] theorem carLink_alterLink_other (s : State) {c d : CarId} (f : CarLink → CarLink) (h : d ≠ c) :
    carLink (alterLink s c f) d = carLink s d := Table.alter_at_other _ _ _ _ h

@[simp] theorem carLink_alterCar (s : State) (c d : CarId) (f : CarRecord → CarRecord) : carLink (alterCar s c f) d = carLink s d := rfl

theorem carLink_of_portOnly {s t : State} (h : PortOnly s t) (d : CarId) : carLink t d = carLink s d := by rw [h]; rfl

/-! ## Entries -/

theorem entryOf_car {s : State} {c : CarId} {e : Entry} (found : entryOf s c = some e) : e.car = c :=
  beq_iff_eq.1 (List.find?_some (p := fun e : Entry => e.car == c) found)

theorem entryOf_mem {s : State} {c : CarId} {e : Entry} (found : entryOf s c = some e) : e ∈ s.acct.entries :=
  List.mem_of_find?_eq_some found

theorem entryOf_eq_none_iff {s : State} {c : CarId} : entryOf s c = none ↔ ∀ e ∈ s.acct.entries, e.car ≠ c := by
  unfold entryOf
  rw [List.find?_eq_none]
  exact forall₂_congr fun e _ => not_congr beq_iff_eq

theorem entryOf_of_mem {s : State} (cars : OneEntryPerCar s) {e : Entry} (mem : e ∈ s.acct.entries) : entryOf s e.car = some e :=
  Shedding.find?_car cars mem

theorem entryOf_of_acct {s t : State} (h : t.acct = s.acct) (c : CarId) : entryOf t c = entryOf s c := by unfold entryOf; rw [h]

theorem find?_alterFirst {f : Entry → Entry} (same : ∀ e, (f e).car = e.car) (c d : CarId) : ∀ es : List Entry,
    (alterFirst (fun e => e.car == c) f es).find? (fun e => e.car == d)
      = if d = c then (es.find? (fun e => e.car == d)).map f else es.find? (fun e => e.car == d)
  | [] => by split <;> rfl
  | e :: es => by
    have rest := find?_alterFirst same c d es
    by_cases here : e.car = c
    · have first : alterFirst (fun e => e.car == c) f (e :: es) = f e :: es := if_pos (beq_iff_eq.2 here)
      rw [first, List.find?_cons, List.find?_cons, same]
      by_cases wanted : d = c
      · have hit : (e.car == d) = true := beq_iff_eq.2 (here.trans wanted.symm)
        rw [hit, if_pos wanted]
        rfl
      · have miss : (e.car == d) = false := beq_eq_false_iff_ne.2 fun same => wanted (same.symm.trans here)
        rw [miss, if_neg wanted]
    · have first : alterFirst (fun e => e.car == c) f (e :: es) = e :: alterFirst (fun e => e.car == c) f es :=
        if_neg fun hit => here (beq_iff_eq.1 hit)
      rw [first, List.find?_cons, List.find?_cons]
      cases hit : e.car == d with
      | true =>
        have other : d ≠ c := fun wanted => here ((beq_iff_eq.1 hit).trans wanted)
        rw [if_neg other]
      | false => exact rest

/-- A car's entry changed in its place; the entries of the other cars stand (R90). -/
theorem entryOf_change {s : State} {f : Entry → Entry} (same : ∀ e, (f e).car = e.car) (c d : CarId) :
    entryOf (s.setAcct (s.acct.change c f)) d = if d = c then (entryOf s d).map f else entryOf s d := by
  show (s.acct.change c f).entries.find? _ = _
  rw [change_entries]
  exact find?_alterFirst same c d _

end Sys2Proof.Proofs.Cars
end
section
/-! PROOFS. The slots and the arbiters (R58, R60, R65): a command placed waits or is in flight when the event is over. -/

namespace Sys2Proof.Proofs.Cars

open Sys2Proof.Machine Sys2Proof.Safety Sys2Proof.Proofs.Upkeep Sys2Proof.Proofs.IndicationLines Sys2Proof.Proofs.Ends
  Sys2Proof.Proofs.Account

/-! ## One arbiter -/

theorem carLink_setLinkLine (s : State) (k : Link) (l : LinkLine) (c : CarId) : carLink (setLinkLine s k l) c = carLink s c := by
  cases k <;> rfl

theorem sendable_slot {s : State} {c : CarId} {cmd : Command} (h : sendable s c = some cmd) : (carLink s c).slot = some cmd := by
  unfold sendable at h
  split at h
  · rename_i x slot
    split at h
    · rw [slot, Option.some.inj h]
    · cases h
  · cases h

/-- The request that an exchange begun with a car carries (R60). -/
def requestTo (s : State) (c : CarId) : Request :=
  match sendable s c with
  | some cmd => .command { cmd with tries := cmd.tries + 1 }
  | none => .poll

/-- The exchange that an arbiter begins, and what it leaves of the other link and of the cars' links. -/
structure Begun (s t : State) (k : Link) (d : CarId) : Prop where
  listed : d ∈ linkCars s k
  free : (linkLine s k).exchange = none
  exchange : (linkLine t k).exchange = some ⟨d, requestTo s d⟩
  lines : ∀ j, j ≠ k → linkLine t j = linkLine s j
  slots : ∀ c, carLink t c = if c = d ∧ sendable s d ≠ none then { carLink s c with slot := none } else carLink s c

theorem beginExchange_spec {s : State} {k : Link} {x : Choice} (listed : x.car ∈ linkCars s k)
    (free : (linkLine s k).exchange = none) : Begun s (beginExchange s k x) k x.car := by
  refine ⟨listed, free, ?_, fun j other => linkLine_beginExchange_other other x, fun c => ?_⟩
  · cases send : sendable s x.car with
    | some cmd => rw [beginExchange_of_command send, linkLine_setLinkLine, requestTo, send]
    | none => rw [beginExchange_of_poll send, linkLine_setLinkLine, requestTo, send]
  · cases send : sendable s x.car with
    | some cmd =>
      rw [beginExchange_of_command send, carLink_setLinkLine]
      by_cases here : c = x.car
      · rw [if_pos ⟨here, by simp⟩, here, carLink_alterLink_same]
      · rw [if_neg fun both => here both.1, carLink_alterLink_other _ _ here]
    | none =>
      rw [beginExchange_of_poll send, carLink_setLinkLine, if_neg fun both => both.2 rfl]

theorem eldest_mem_filter {s : State} {age : CarId → Nat} {p : CarId → Bool} {l : List CarId} {c : CarId}
    (found : eldest s age (l.filter p) = some c) : c ∈ l :=
  (List.mem_filter.1 (Arbiter.eldest_spec found).1).1

theorem otherChoice_mem {s : State} {k : Link} {c : CarId} (found : otherChoice s k = some c) : c ∈ linkCars s k := by
  unfold otherChoice at found
  split at found
  · rename_i d due
    rw [← Option.some.inj found]
    exact eldest_mem_filter due
  · split at found
    · rename_i d normal
      rw [← Option.some.inj found]
      exact eldest_mem_filter normal
    · exact (Arbiter.eldest_spec found).1

theorem choose_mem {s : State} {k : Link} {x : Choice} (chosen : choose s k = some x) : x.car ∈ linkCars s k := by
  have of_other : (otherChoice s k).map (fun c => (⟨c, false⟩ : Choice)) = some x → x.car ∈ linkCars s k := by
    intro same
    obtain ⟨c, found, rfl⟩ := Option.map_eq_some_iff.1 same
    exact otherChoice_mem found
  by_cases passed : Arbiter.Passed s k
  · exact of_other ((Arbiter.choose_of_passed passed).symm.trans chosen)
  · rw [Arbiter.choose_of_not_passed passed] at chosen
    split at chosen
    · rename_i c urgent
      rw [← Option.some.inj chosen]
      exact eldest_mem_filter urgent
    · exact of_other chosen

theorem arbitrate_cases (s : State) (k : Link) : arbitrate s k = s ∨ ∃ d, Begun s (arbitrate s k) k d := by
  unfold arbitrate
  split
  case isFalse => exact .inl rfl
  case isTrue free =>
    split
    case h_2 => exact .inl rfl
    case h_1 x chosen =>
      rw [Bool.and_eq_true, Option.isNone_iff_eq_none] at free
      exact .inr ⟨x.car, beginExchange_spec (choose_mem chosen) free.2⟩

theorem linkLine_arbitrate_other (s : State) {j k : Link} (other : j ≠ k) : linkLine (arbitrate s k) j = linkLine s j := by
  obtain same | ⟨d, begun⟩ := arbitrate_cases s k
  · rw [same]
  · exact begun.lines j other

theorem carLink_arbitrate_other (s : State) {k : Link} {c : CarId} (other : (profile s c).link ≠ k) :
    carLink (arbitrate s k) c = carLink s c := by
  obtain same | ⟨d, begun⟩ := arbitrate_cases s k
  · rw [same]
  · rw [begun.slots, if_neg]
    rintro ⟨rfl, _⟩
    exact other (mem_linkCars.1 begun.listed).2

/-! ## Both arbiters -/

/-- The waiting command of a car is in flight once the arbiters have chosen. -/
def SentBy (s t : State) (c : CarId) : Prop :=
  ∃ cmd, (carLink s c).slot = some cmd ∧ carLink t c = { carLink s c with slot := none }
    ∧ (linkLine t (profile s c).link).exchange = some ⟨c, .command { cmd with tries := cmd.tries + 1 }⟩

theorem carLink_arbitrate (s : State) (k : Link) (c : CarId) :
    carLink (arbitrate s k) c = carLink s c ∨ ((profile s c).link = k ∧ SentBy s (arbitrate s k) c) := by
  obtain same | ⟨d, begun⟩ := arbitrate_cases s k
  · rw [same]; exact .inl rfl
  · have slots := begun.slots c
    by_cases sent : c = d ∧ sendable s d ≠ none
    · obtain ⟨rfl, sends⟩ := sent
      obtain ⟨cmd, send⟩ := Option.ne_none_iff_exists'.1 sends
      have link := (mem_linkCars.1 begun.listed).2
      refine .inr ⟨link, cmd, sendable_slot send, by rw [slots, if_pos ⟨rfl, sends⟩], ?_⟩
      rw [link, begun.exchange, requestTo, send]
    · exact .inl (by rw [slots, if_neg sent])

theorem profile_arbitrate (s : State) (k : Link) (c : CarId) : profile (arbitrate s k) c = profile s c := by
  rw [linkOnly_arbitrate s k]; rfl

/-- The arbiters leave a car's link as it is, or send its waiting command (R60, R65). -/
theorem carLink_arbiters (s : State) (c : CarId) : carLink (arbiters s) c = carLink s c ∨ SentBy s (arbiters s) c := by
  have profile := profile_arbitrate s .a c
  cases on_link : (Machine.profile s c).link with
  | a =>
    have second : carLink (arbiters s) c = carLink (arbitrate s .a) c :=
      carLink_arbitrate_other (arbitrate s .a) (by rw [profile, on_link]; decide)
    obtain same | ⟨_, cmd, slot, link, out⟩ := carLink_arbitrate s .a c
    · exact .inl (second.trans same)
    · refine .inr ⟨cmd, slot, second.trans link, ?_⟩
      rw [on_link] at out ⊢
      rw [← out, arbiters, linkLine_arbitrate_other _ (by decide)]
  | b =>
    have first : carLink (arbitrate s .a) c = carLink s c := carLink_arbitrate_other s (by rw [on_link]; decide)
    obtain same | ⟨_, cmd, slot, link, out⟩ := carLink_arbitrate (arbitrate s .a) .b c
    · exact .inl (same.trans first)
    · rw [first] at slot link
      rw [profile] at out
      exact .inr ⟨cmd, slot, link, out⟩

/-- What an arbiter puts in flight on its link is a car's waiting command, or a POLL (R60). -/
theorem exchange_arbitrate (s : State) (k : Link) : linkLine (arbitrate s k) k = linkLine s k
    ∨ (linkLine s k).exchange = none ∧ ∃ d, (linkLine (arbitrate s k) k).exchange = some ⟨d, requestTo s d⟩ := by
  obtain same | ⟨d, begun⟩ := arbitrate_cases s k
  · rw [same]; exact .inl rfl
  · exact .inr ⟨begun.free, d, begun.exchange⟩

theorem requestTo_of_no_slot {s : State} {c : CarId} (none : (carLink s c).slot = none) : requestTo s c = .poll := by
  simp [requestTo, sendable, none]

/-- No exchange with a command to this car is in flight on its link. -/
def NoneOut (s : State) (c : CarId) : Prop :=
  ∀ x, (linkLine s (profile s c).link).exchange = some x → x.car = c → x.request = .poll

theorem noneOut_arbitrate {s : State} {c : CarId} (k : Link) (out : NoneOut s c) (slot : (carLink s c).slot = none) :
    NoneOut (arbitrate s k) c ∧ (carLink (arbitrate s k) c).slot = none := by
  have keeps : (carLink (arbitrate s k) c).slot = none := by
    obtain same | ⟨_, cmd, had, link, _⟩ := carLink_arbitrate s k c
    · rw [same, slot]
    · rw [link]
  refine ⟨fun x exchange here => ?_, keeps⟩
  rw [profile_arbitrate] at exchange
  by_cases on_link : (profile s c).link = k
  · rw [on_link] at exchange
    obtain same | ⟨_, d, begun⟩ := exchange_arbitrate s k
    · rw [same] at exchange
      exact out x (by rw [on_link]; exact exchange) here
    · rw [begun] at exchange
      cases exchange
      subst here
      exact requestTo_of_no_slot slot
  · rw [linkLine_arbitrate_other s on_link] at exchange
    exact out x exchange here

theorem noneOut_arbiters {s : State} {c : CarId} (out : NoneOut s c) (slot : (carLink s c).slot = none) :
    NoneOut (arbiters s) c ∧ (carLink (arbiters s) c).slot = none :=
  have first := noneOut_arbitrate .a out slot
  noneOut_arbitrate .b first.1 first.2

end Sys2Proof.Proofs.Cars
end
section
/-! PROOFS. A run stopped by its deadline (R147) or by HOLD-OUT (R49): the entry in STOP phase, the car STOPPING, nothing granted. -/

namespace Sys2Proof.Proofs.Cars

open Sys2Proof.Machine Sys2Proof.Safety Sys2Proof.Proofs.Upkeep Sys2Proof.Proofs.IndicationLines Sys2Proof.Proofs.Ends
  Sys2Proof.Proofs.Account Sys2Proof.Proofs.Capacity

/-! ## An event that reaches neither granting block -/

theorem granting_eq_true {s : State} (h : Granting s) : granting s = true := by
  obtain returning | service := h
  · simp [granting, returning]
  · simp [granting, service]

/-- In RETURN and SERVICE no exit is open while the generators stay and a run stands or waits (R113). -/
theorem planExit_of_granting {s : State} (grants : Granting s) (stays : GeneratorStays s)
    (busy : s.plan.state = .returning → ¬ (s.ret.queue = [] ∧ s.ret.group = [] ∧ ∀ e ∈ s.acct.entries, e.kind ≠ .returning)) :
    planExit s = none := by
  rw [planExit_eq_none_iff]
  unfold NoExit
  obtain state | state := grants
  · simp only [state, reduceCtorEq, false_imp_iff, true_imp_iff, true_and]
    exact ⟨⟨stays, busy state⟩, trivial⟩
  · simp [state, stays]

theorem grantWork_of_unnoted {w : Work} (exits : planExit w.st = none) (rs : w.nt.rs = false) (ss : w.nt.ss = false) : grantWork w = w := by
  simp [grantWork, planRun_of_noExit exits, rs, ss]

/-- An event that reaches neither granting block, with no exit open, ends with the arbiters and the lines. -/
theorem complete_of_unnoted {w : Work} (exits : planExit w.st = none) (rs : w.nt.rs = false) (ss : w.nt.ss = false) :
    complete w = driveLines (arbiters w.st) := by
  rw [complete, completeWith, grantWork_of_unnoted exits rs ss]
  rfl

theorem generatorStays_of_fixed {s t : State} (h : t.fixed = s.fixed) (stays : GeneratorStays s) : GeneratorStays t := by
  obtain ⟨retx, util, n, on⟩ := stays
  have cap : t.cap = s.cap := congrArg Fixed.cap h
  exact ⟨(effective_of_fixed h _).trans retx, (effective_of_fixed h _).trans util, n, by rw [cap]; exact on⟩

/-- The last part of an event changes the links and the indication lines alone. -/
theorem driven_eq (s : State) : ∃ t, driveLines (arbiters s) = t
    ∧ t = { s with link := (arbiters s).link, inds := t.inds } := ⟨_, rfl, arbiters_driven s none⟩

/-! ## The run's entry -/

/-- A RETURN entry in START or RUN phase (R97). -/
def RunInPhase (e : Entry) : Prop := e.kind = .returning ∧ (e.phase = .start ∨ e.phase = .run)

theorem RunInPhase.movable {e : Entry} (h : RunInPhase e) : e.movable = true := (Shedding.sheddable_iff e).2 (.inr h)

theorem RunInPhase.not_designates {e : Entry} (h : RunInPhase e) : e.designates = false := by
  simp [Entry.designates, h.1]

theorem moveToStop_of_run {w : Work} {c : CarId} {e : Entry} (found : entryOf w.st c = some e) (run : RunInPhase e) (cause : StopCause) :
    moveToStop w c cause = w.up (fun s => s.setAcct (s.acct.change c (Entry.toStop cause))) := by
  rw [Shedding.moveToStop_of_movable found run.movable, if_neg (by rw [run.not_designates]; decide)]

/-- The account with a car's entry marked, as it stands in a state. -/
structure Marked (s t : State) (c : CarId) (f : Entry → Entry) : Prop where
  entry : entryOf t c = (entryOf s c).map f
  rest : t.acct = { s.acct with entries := t.acct.entries }
  others : ∀ d, d ≠ c → entryOf t d = entryOf s d
  permits : t.acct.entries.map (·.permit) = s.acct.entries.map (·.permit)

theorem change_of_marks {a : Account} (totals : Summed a) (c : CarId) {f : Entry → Entry} (marks : Marks f) :
    a.change c f = { a with entries := (a.change c f).entries } := by
  obtain ⟨kd, kr⟩ := change_totals totals c marks
  obtain ⟨draw, regen, draw', regen', next⟩ := change_rest a c f
  generalize a.change c f = b at kd kr draw regen draw' regen' next
  cases b
  simp_all

/-- A mark on a car's entry changes that entry alone (R97). -/
theorem marked_of_change {s t : State} {c : CarId} {f : Entry → Entry} (totals : TotalsMatch s) (marks : Marks f)
    (acct : t.acct = s.acct.change c f) : Marked s t c f where
  entry := by
    rw [entryOf_of_acct (s := s.setAcct (s.acct.change c f)) acct, entryOf_change (fun e => (marks e).1), if_pos rfl]
  rest := by rw [acct]; exact change_of_marks totals c marks
  others d other := by
    rw [entryOf_of_acct (s := s.setAcct (s.acct.change c f)) acct, entryOf_change (fun e => (marks e).1), if_neg other]
  permits := by rw [acct, change_entries]; exact map_alterFirst _ (fun e => (marks e).2.1) _

/-- While a RETURN entry stands, RETURN is not left for SERVICE (R113). -/
theorem planExit_of_run {s t : State} {c : CarId} {e : Entry} (grants : Granting s) (stays : GeneratorStays s) (plan : t.plan = s.plan)
    (fixed : t.fixed = s.fixed) (found : entryOf t c = some e) (kind : e.kind = .returning) : planExit t = none :=
  planExit_of_granting (by unfold Granting; rw [plan]; exact grants) (generatorStays_of_fixed fixed stays)
    fun _ ⟨_, _, no_run⟩ => no_run e (entryOf_mem found) kind

/-! ## The deadline (R147) -/

theorem deadlineDue_of_due {s : State} {c : CarId} {e : Entry} {deadline : Time} (found : entryOf s c = some e) (run : RunInPhase e)
    (stands : e.deadline = some deadline) (due : Due s.time deadline) : deadlineDue s c = true := by
  have moving : e.phase ≠ .stop := by
    rcases run.2 with phase | phase <;> rw [phase] <;> decide
  simp [deadlineDue, found, run.1, moving, stands, timerDue_of_due due]

/-- The state once a deadline has stopped a run, before the event is completed. -/
def deadlineStopped (s : State) (c : CarId) : State := (expireDeadline (begin s) c).st

theorem expireDeadline_eq {s : State} {c : CarId} {e : Entry} (found : entryOf s c = some e) (run : RunInPhase e) :
    expireDeadline (begin s) c = ⟨deadlineStopped s c, Notes.none⟩ := by
  unfold deadlineStopped expireDeadline
  rw [moveToStop_of_run found run]
  rfl

theorem deadlineStopped_eq {s : State} {c : CarId} {e : Entry} (found : entryOf s c = some e) (run : RunInPhase e) :
    ∃ s1, s1 = place (s.setAcct (s.acct.change c (Entry.toStop .deadline))) c .stopNext
      ∧ deadlineStopped s c = if stateOf s c = some .silent then s1
          else reportCar (moveCar s1 c .stopping) c (record s c) .deadline none := by
  refine ⟨_, rfl, ?_⟩
  unfold deadlineStopped expireDeadline
  rw [moveToStop_of_run found run]
  rfl

theorem carSide_place (s : State) (c : CarId) (k : CmdKind) : CarSide s (place s c k) :=
  CarSide.of_linkOnly (linkOnly_placeCommand _ _ _ _ _)

theorem carSide_moveCar (s : State) (c : CarId) (st : CarState) : CarSide s (moveCar s c st) := rfl

theorem carSide_reportCar (s : State) (c : CarId) (old : Option CarRecord) (cause : CarCause) (decline : Option Decline) :
    CarSide s (reportCar s c old cause decline) := CarSide.of_portOnly (portOnly_reportCar _ _ _ _ _)

theorem stateOf_eq_some {s : State} {c : CarId} {old : CarRecord} (h : record s c = some old) : stateOf s c = some old.state := by
  rw [stateOf, h]; rfl

theorem carSide_deadlineStopped {s : State} {c : CarId} {e : Entry} (found : entryOf s c = some e) (run : RunInPhase e) :
    CarSide (s.setAcct (s.acct.change c (Entry.toStop .deadline))) (deadlineStopped s c) := by
  obtain ⟨s1, placed, eq⟩ := deadlineStopped_eq found run
  have first : CarSide (s.setAcct (s.acct.change c (Entry.toStop .deadline))) s1 := by rw [placed]; exact carSide_place _ _ _
  rw [eq]
  split
  · exact first
  · exact (first.trans (carSide_moveCar _ _ _)).trans (carSide_reportCar _ _ _ _ _)

theorem record_deadlineStopped {s : State} {c : CarId} {e : Entry} {old : CarRecord} (found : entryOf s c = some e) (run : RunInPhase e)
    (had : record s c = some old) : record (deadlineStopped s c) c
      = some (if old.state = .silent then old else old.goTo .stopping) := by
  obtain ⟨s1, placed, eq⟩ := deadlineStopped_eq found run
  have stands : record s1 c = some old := by rw [placed, record_place]; exact had
  rw [eq, stateOf_eq_some had]
  by_cases silent : old.state = .silent
  · rw [if_pos (by rw [silent]), if_pos silent, stands]
  · rw [if_neg (fun same => silent (Option.some.inj same)), if_neg silent, record_reportCar, record_moveCar_same, stands]
    rfl

theorem record_deadlineStopped_other {s : State} {c d : CarId} {e : Entry} (found : entryOf s c = some e) (run : RunInPhase e)
    (other : d ≠ c) : record (deadlineStopped s c) d = record s d := by
  obtain ⟨s1, placed, eq⟩ := deadlineStopped_eq found run
  have stands : record s1 d = record s d := by rw [placed, record_place]; rfl
  rw [eq]
  split
  · exact stands
  · rw [record_reportCar, record_moveCar_other _ _ other, stands]

theorem fixed_deadlineStopped (s : State) (c : CarId) : (deadlineStopped s c).fixed = s.fixed := by
  unfold deadlineStopped expireDeadline
  have moved : (moveToStop (begin s) c .deadline).st.fixed = s.fixed := closed_moveToStop (closed_fixed _) rfl
  show (if _ then _ else _ : State).fixed = _
  split
  · exact closed_place (closed_fixed _) moved
  · exact closed_reportCar (closed_fixed _) (closed_moveCar (closed_fixed _) (closed_place (closed_fixed _) moved))

/-- Settles O36. -/
theorem deadlineStopsRun : Obligations.DeadlineStopsRun := by
  intro s c old e deadline grants stays totals had found kind phase stands due
  have run : RunInPhase e := ⟨kind, phase⟩
  obtain ⟨u, made⟩ : ∃ u, u = deadlineStopped s c := ⟨_, rfl⟩
  have side := carSide_deadlineStopped found run
  have fixed := fixed_deadlineStopped s c
  have rec_c := record_deadlineStopped found run had
  have rec_d := fun d (other : d ≠ c) => record_deadlineStopped_other (d := d) found run other
  rw [← made] at side fixed rec_c rec_d
  have marked : Marked s u c (Entry.toStop .deadline) := marked_of_change totals (marks_toStop _) (by rw [side]; rfl)
  have entry : entryOf u c = some (Entry.toStop .deadline e) := by rw [marked.entry, found]; rfl
  have exits : planExit u = none := planExit_of_run grants stays (by rw [side]; rfl) fixed entry kind
  have runs : exec (.deadlineExpiry c) s = .next (driveLines (arbiters u)) := by
    show execDeadlineExpiry c s = _
    rw [execDeadlineExpiry, if_pos (deadlineDue_of_due found run stands due), expireDeadline_eq found run, ← made,
      complete_of_unnoted exits rfl rfl]
  obtain ⟨t, driven, leaves⟩ := driven_eq u
  have fixed_t : t.fixed = s.fixed := by rw [← fixed, leaves]; rfl
  obtain ⟨settings, host, cap⟩ := kept_of_fixed_eq fixed_t
  have acct : t.acct = u.acct := by rw [leaves]
  have cars : t.cars = u.cars := by rw [leaves]
  refine ⟨t, _, by rw [runs, driven], settings, host, cap, by rw [leaves, side]; rfl, by rw [leaves, side]; rfl,
    by rw [leaves, side]; rfl, by rw [leaves, side]; rfl, by rw [entryOf_of_acct acct, entry]; rfl, by rw [acct]; exact marked.rest,
    fun d other => by rw [entryOf_of_acct acct]; exact marked.others d other, by unfold record; rw [cars]; exact rec_c, ?_, ?_,
    fun d other => by unfold record; rw [cars]; exact rec_d d other⟩
  · by_cases silent : old.state = .silent
    · rw [if_pos silent, if_pos silent, silent]
    · rw [if_neg silent, if_neg silent]; rfl
  · split <;> rfl

/-! ## HOLD-OUT of a car that runs (R49) -/

/-- The hold-out flag set. -/
def flagged (s : State) (c : CarId) : State := alterCar s c (fun x => { x with holdOut := true })

/-- The state once HOLD-OUT has stopped a run, before the event is completed. -/
def heldOut (s : State) (c : CarId) (old : CarRecord) : State :=
  reportCar (moveCar (place ((flagged s c).setAcct (s.acct.change c (Entry.toStop .holdOut))) c .stopNext) c .stopping) c (some old)
    .holdOut none

theorem holdOutCar_of_run {s : State} {c : CarId} {e : Entry} {old : CarRecord} (had : record s c = some old)
    (clear : old.holdOut = false) (state : old.state = .starting ∨ old.state = .running) (found : entryOf s c = some e)
    (run : RunInPhase e) : handSheds (holdOutCar (begin s) c) = ⟨heldOut s c old, Notes.none⟩ := by
  have held : holdOutCar (begin s) c = (stopForHoldOut ((begin s).up (fun s => flagged s c)) c).up
      (fun s => reportCar s c (some old) .holdOut none) := by
    have here : record (begin s).st c = some old := had
    simp only [holdOutCar, here, clear, Bool.false_eq_true, if_false]
    obtain state | state := state <;> rw [state] <;> rfl
  have found' : entryOf (flagged s c) c = some e := found
  rw [held, stopForHoldOut, moveToStop_of_run found' run]
  rfl

theorem carSide_heldOut (s : State) (c : CarId) (old : CarRecord) :
    CarSide (s.setAcct (s.acct.change c (Entry.toStop .holdOut))) (heldOut s c old) := by
  have flag : CarSide (s.setAcct (s.acct.change c (Entry.toStop .holdOut)))
      ((flagged s c).setAcct (s.acct.change c (Entry.toStop .holdOut))) := rfl
  exact ((flag.trans (carSide_place _ _ _)).trans (carSide_moveCar _ _ _)).trans (carSide_reportCar _ _ _ _ _)

theorem record_heldOut {s : State} {c : CarId} {old : CarRecord} (had : record s c = some old) :
    record (heldOut s c old) c = some (CarRecord.goTo .stopping { old with holdOut := true })
      ∧ ∀ d, d ≠ c → record (heldOut s c old) d = record s d := by
  constructor
  · rw [heldOut, record_reportCar, record_moveCar_same, record_place]
    show (record (flagged s c) c).map _ = _
    rw [flagged, record_alterCar_same, had]
    rfl
  · intro d other
    rw [heldOut, record_reportCar, record_moveCar_other _ _ other, record_place]
    exact record_alterCar_other s _ other

theorem exec_holdOut_rule {s : State} {c : CarId} (driven : s.plan.state ≠ .halted) (enrols : (profile s c).enrolled = true) :
    withBody (.fields (c.val + 1)) ruleHoldOut s
      = accept (complete (handSheds (holdOutCar (begin s) c))) (fun x => carStateView x c) := by
  have here : enrolled s c = true := enrols
  simp only [withBody, ruleHoldOut, ofCar, driven, if_false, numbered_val, here, if_true]

/-- Settles O28. -/
theorem holdOutStopsRun : Obligations.HoldOutStopsRun := by
  intro s tag c old e taking grants stays totals enrols had clear state found kind phase
  have run : RunInPhase e := ⟨kind, phase⟩
  obtain ⟨s', made⟩ : ∃ s', s' = setFramer s .hunting := ⟨_, rfl⟩
  obtain ⟨u, made_u⟩ : ∃ u, u = heldOut s' c old := ⟨_, rfl⟩
  have held := holdOutCar_of_run (s := s') (by rw [made]; exact had) clear state (by rw [made]; exact found) run
  have side := carSide_heldOut s' c old
  obtain ⟨rec_c, rec_d⟩ := record_heldOut (s := s') (c := c) (old := old) (by rw [made]; exact had)
  have accepts := exec_holdOut_rule (s := s') (c := c)
    (by rw [made]; rcases grants with state | state <;> exact fun same => absurd (same.symm.trans state) (by decide))
    (by rw [made]; exact enrols)
  have fixed : u.fixed = s'.fixed := by
    have handed : (handSheds (holdOutCar (begin s') c)).st.fixed = s'.fixed := by
      rw [held]
      exact closed_reportCar (closed_fixed _) (closed_moveCar (closed_fixed _) (closed_place (closed_fixed _) rfl))
    rw [held] at handed
    rw [made_u]; exact handed
  rw [← made_u] at side rec_c rec_d held
  have marked : Marked s' u c (Entry.toStop .holdOut) :=
    marked_of_change (by rw [made]; exact totals) (marks_toStop _) (by rw [side]; rfl)
  have entry : entryOf u c = some (Entry.toStop .holdOut e) := by
    rw [marked.entry]
    have found' : entryOf s' c = some e := by rw [made]; exact found
    rw [found']; rfl
  have exits : planExit u = none := planExit_of_run (s := s') (by rw [made]; exact grants)
    (by rw [made]; exact stays) (by rw [side]; rfl) fixed entry kind
  rw [held, complete_of_unnoted exits rfl rfl] at accepts
  obtain ⟨v, driven, leaves⟩ := driven_eq u
  rw [driven] at accepts
  have fixed_v : v.fixed = s'.fixed := by rw [← fixed, leaves]; rfl
  obtain ⟨settings, host, cap⟩ := kept_of_fixed_eq fixed_v
  rw [made] at accepts host settings
  obtain ⟨t, runs, _, same⟩ := exec_of_accepted (c := .holdOut tag (.fields (c.val + 1))) taking rfl accepts host
  obtain ⟨_, _, cap', _, plan', svc', acct', cars', ret', hist', _⟩ := fixed_of_answered same
  have acct : t.acct = u.acct := by rw [acct', leaves]
  have cars : t.cars = u.cars := by rw [cars', leaves]
  refine ⟨t, CarRecord.goTo .stopping { old with holdOut := true }, runs, PlanMoves.settingsKept_of_answered same settings, ?_, ?_, ?_, ?_, ?_, ?_, ?_, ?_, ?_,
    by unfold record; rw [cars]; exact rec_c, rfl, rfl, fun d other => ?_⟩
  · rw [cap', cap, made]; rfl
  · rw [ret', leaves, side, made]; rfl
  · rw [svc', leaves, side, made]; rfl
  · rw [plan', leaves, side, made]; rfl
  · rw [hist', leaves, side, made]; rfl
  · rw [entryOf_of_acct acct, entry]; rfl
  · rw [acct, marked.rest, made]; rfl
  · intro d other
    rw [entryOf_of_acct acct, marked.others d other, made]; rfl
  · rw [acct, marked.permits, made]; rfl
  · unfold record
    rw [cars]
    exact (rec_d d other).trans (by rw [made]; rfl)

end Sys2Proof.Proofs.Cars
end
section
/-! PROOFS. The set-aside markers and the values that the Service Selector last read (R161): only a notice of easing reads C and S anew,
and the completion of an event gives none. -/

namespace Sys2Proof.Proofs.Markers

open Sys2Proof.Machine Sys2Proof.Safety Sys2Proof.Proofs.Upkeep Sys2Proof.Proofs.IndicationLines Sys2Proof.Proofs.Ends
  Sys2Proof.Proofs.Account Sys2Proof.Proofs.Capacity

/-- The markers and the values last read stand at those of a selector. -/
def Reads (x : Selector) (s : State) : Prop := s.svc.setAside = x.setAside ∧ s.svc.lastC = x.lastC ∧ s.svc.lastS = x.lastS

variable {x : Selector}

theorem Reads.refl (s : State) : Reads s.svc s := ⟨rfl, rfl, rfl⟩

theorem Reads.of_svc {s t : State} (same : t.svc = s.svc) (h : Reads x s) : Reads x t := by
  unfold Reads at *
  rw [same]
  exact h

theorem Reads.of_carSide {s t : State} (side : CarSide s t) (h : Reads x s) : Reads x t := h.of_svc (by rw [side])

theorem Reads.of_linkOnly {s t : State} (side : LinkOnly s t) (h : Reads x s) : Reads x t := h.of_carSide (.of_linkOnly side)

theorem Reads.of_portOnly {s t : State} (side : PortOnly s t) (h : Reads x s) : Reads x t := h.of_carSide (.of_portOnly side)

theorem reads_moveCar {s : State} {c : CarId} {st : CarState} (h : Reads x s) : Reads x (moveCar s c st) := h

theorem reads_startSpacing {s : State} (h : Reads x s) : Reads x (startSpacing s) := h

theorem reads_placeCommand {s : State} {c : CarId} {k : CmdKind} {target permit : Option Nat} (h : Reads x s) :
    Reads x (placeCommand s c k target permit) := h.of_linkOnly (linkOnly_placeCommand s c k target permit)

theorem reads_reportCar {s : State} {c : CarId} {old : Option CarRecord} {cause : CarCause} {decline : Option Decline} (h : Reads x s) :
    Reads x (reportCar s c old cause decline) := h.of_portOnly (portOnly_reportCar s c old cause decline)

theorem reads_setCancelled {s : State} {c : CarId} {b : Bool} (h : Reads x s) : Reads x (setCancelled s c b) := h

theorem reads_setPlan {s : State} {ctl : PlanCtl} (h : Reads x s) : Reads x (s.setPlan ctl) := h

/-! ## The account -/

theorem reads_moveToStop {w : Work} {c : CarId} {cause : StopCause} (h : Reads x w.st) : Reads x (moveToStop w c cause).st := by
  rcases moveToStop_cases w c cause with stands | ⟨_, _, _, ⟨_, moved⟩ | ⟨_, moved⟩⟩
  · rw [stands]; exact h
  · rw [moved]; exact h
  · rw [moved]; exact h

theorem reads_shedAll {w : Work} {chosen : List Entry} (h : Reads x w.st) : Reads x (shedAll w chosen).st :=
  closed_foldl (Q := fun v : Work => Reads x v.st) (fun _ _ => reads_moveToStop) h

theorem reads_shedDraw {w : Work} (h : Reads x w.st) : Reads x (shedDraw w).1.st := by
  unfold shedDraw
  split
  · exact reads_shedAll h
  · exact h

theorem reads_shedRegen {w : Work} (h : Reads x w.st) : Reads x (shedRegen w).1.st := by
  unfold shedRegen
  split
  · exact reads_shedAll h
  · exact h

theorem offerTrigger_svc (s : State) (t : Trigger) : (offerTrigger s t).svc = s.svc := by
  unfold offerTrigger
  split <;> rfl

theorem reads_offeredState {w : Work} (h : Reads x w.st) : Reads x (offeredState w) := by
  have shed : Reads x (notedState w) := reads_shedRegen (reads_shedDraw (w := flaggedWork w) h)
  have alerted : Reads x (alertedState w) :=
    closed_foldl (Q := Reads x) (fun _ _ => Reads.of_portOnly (portOnly_queueReport _ _)) shed
  unfold offeredState
  split
  · exact alerted.of_svc (offerTrigger_svc _ _)
  · exact alerted

/-- An event that does not ease the account leaves the markers and the values last read. -/
theorem reads_settleAccount {w : Work} (h : Reads x w.st) : Reads x (settleAccount w false).st := by
  rw [settleAccount_eq]
  exact reads_offeredState h

theorem reads_enterEntry {w : Work} {e : Entry} (h : Reads x w.st) : Reads x (enterEntry w e).st := by
  unfold enterEntry
  split
  · exact h
  · exact reads_settleAccount h

/-! ## Evaluation and grants -/

theorem reads_deferCar {w : Work} {c : CarId} (h : Reads x w.st) : Reads x (deferCar w c).st := reads_enterEntry (w := w) h

theorem reads_holdAs {s : State} {c : CarId} {st : CarState} (h : Reads x s) : Reads x (holdAs s c st) :=
  (h.of_linkOnly (linkOnly_placeCommand s c .hold none none)).of_svc rfl

theorem reads_evaluateFull {w : Work} {c : CarId} {claim : Bool} (h : Reads x w.st) : Reads x (evaluateFull w c claim).st := by
  unfold evaluateFull
  split
  · exact h
  · extract_lets front w1
    have begun : Reads x w1.st := h
    split
    · exact reads_deferCar begun
    · split
      · exact reads_holdAs begun
      · split
        · exact (begun.of_linkOnly (linkOnly_placeCommand w1.st c .hold none none)).of_svc rfl
        · split
          · exact (begun.of_linkOnly (linkOnly_placeCommand w1.st c .park none none)).of_svc rfl
          · exact begun.of_svc rfl

theorem reads_evaluateIdle {w : Work} {c : CarId} (h : Reads x w.st) : Reads x (evaluateIdle w c).st := by
  unfold evaluateIdle
  split
  · exact ((reads_evaluateFull h).of_portOnly (portOnly_reportCar _ _ _ _ _)).of_carSide (carSide_handSheds _)
  · exact h

theorem reads_startRun {w : Work} {c : CarId} {f : RunFigures} (h : Reads x w.st) : Reads x (startRun w c f).st := by
  have entered : Reads x (enterEntry w (returnEntry w.st c f (deadlineFor w.st c))).st := reads_enterEntry h
  unfold startRun
  extract_lets w1
  exact reads_reportCar (reads_moveCar (reads_placeCommand entered))

theorem reads_grantAttempt {w : Work} (h : Reads x w.st) : Reads x (grantAttempt w).st := by
  unfold grantAttempt
  split
  · split
    · exact (reads_startRun (w := w.up _) h).of_svc rfl
    · exact h
  · exact h

theorem reads_stageCar {s : State} {q : QueueItem} (h : Reads x s) : Reads x (stageCar s q) :=
  (h.of_svc (t := moveCar _ q.car .staged) rfl).of_portOnly (portOnly_reportCar _ _ _ _ _)

theorem reads_stage {w : Work} (h : Reads x w.st) : Reads x (stage w).st := by
  unfold stage
  split
  · exact closed_foldl (Q := Reads x) (fun _ _ => reads_stageCar) h
  · exact h

theorem reads_sequencerWork {w : Work} (h : Reads x w.st) : Reads x (sequencerWork w).st := by
  have staged : Reads x (stage w).st := reads_stage h
  have released : Reads x (releaseStaged (stage w)).st := by
    have group : Reads x ((stage w).up (fun s => setGroup s [])).st := staged
    unfold releaseStaged
    extract_lets cars w1 w2
    have started : Reads x w2.st := closed_foldl (Q := fun v : Work => Reads x v.st) (fun _ _ => reads_startRun) group
    exact reads_stage (w := (w2.up startSpacing).noteSs) started
  unfold sequencerWork
  split
  · split
    · exact reads_grantAttempt h
    · extract_lets w1
      split
      · exact released
      · exact staged
  · exact h

theorem reads_designate {w : Work} {c : CarId} (h : Reads x w.st) : Reads x (designate w c).st := by
  have entered : Reads x (enterEntry w (serviceEntry w.st c (worstOf w.st c))).st := reads_enterEntry h
  unfold designate
  extract_lets w1
  have recorded : ∀ records, Reads x (w1.st.setSvc { w1.st.svc with records }) := fun _ => entered
  exact reads_startSpacing (reads_reportCar (reads_moveCar (reads_placeCommand (recorded _))))

theorem reads_selectorWork {w : Work} (h : Reads x w.st) : Reads x (selectorWork w).st := by
  unfold selectorWork
  split
  · unfold selectionPass
    split
    · exact reads_designate h
    · exact h
  · exact h

/-! ## The plan's transitions -/

/-- The markers clear stay so, though a transition clears them (R161). -/
theorem Reads.endService {s : State} (clear : x.setAside = Table.const 48 none) (h : Reads x s) : Reads x (endService s) :=
  ⟨clear.symm, h.2⟩

theorem takeSample_svc (s : State) : (takeSample s).svc = s.svc := by
  unfold takeSample
  dsimp only
  split
  · split <;> rfl
  · rfl

theorem startSampling_svc (s : State) : (startSampling s).svc = s.svc := by
  unfold startSampling
  split
  · rfl
  · exact takeSample_svc s

theorem movedState_svc (s : State) (dest : PlanState) (cause : PlanCause) : (movedState s dest cause).svc = s.svc := by
  have begun : ∀ y : State, (if s.plan.state = .returning ∧ dest = .service then y else clearParks y).svc = y.svc := by
    intro y
    split <;> rfl
  unfold movedState
  extract_lets s1 ctl s2 s3
  rw [begun]
  unfold s3
  split
  · exact startSampling_svc _
  · rfl

theorem reads_clearStage {w : Work} (clear : x.setAside = Table.const 48 none) (h : Reads x w.st) : Reads x (clearStage w).st :=
  (Reads.of_svc (t := emptyReturns (clearTable w).st) rfl (reads_settleAccount h)).endService clear

theorem reads_resetCars {s : State} {f : CarRecord → CarState} (h : Reads x s) : Reads x (resetCars s f) := h

theorem reads_removeCommands {s : State} {p : CmdKind → Bool} (h : Reads x s) : Reads x (removeCommands s p) := h

theorem startOutage_svc (s : State) (left : PlanState) : (startOutage s left).svc = s.svc := by
  unfold startOutage
  split <;> rfl

theorem reads_cancelRun {w : Work} {c : CarId} (h : Reads x w.st) : Reads x (cancelRun w c).st := by
  unfold cancelRun
  split
  · split
    · have moved : Reads x (moveToStop w c .plan).st := reads_moveToStop h
      have placed : Reads x (setCancelled (place (moveToStop w c .plan).st c .stopNext) c true) :=
        (moved.of_linkOnly (linkOnly_placeCommand _ c .stopNext none none)).of_svc rfl
      show Reads x (if _ then _ else _)
      split
      · exact placed
      · exact placed.of_svc rfl
    · exact h
  · exact h

theorem reads_enterRestoring {w : Work} {parks : List CarId} (clear : x.setAside = Table.const 48 none) (h : Reads x w.st) :
    Reads x (enterRestoring w parks).st := by
  unfold enterRestoring
  extract_lets w1 w2
  have queues : Reads x w1.st :=
    closed_overCars (P := Reads x) (fun _ _ y => reads_setCancelled (reads_holdAs y)) (show Reads x (emptyReturns w.st) from h)
  have runs : Reads x w2.st := closed_foldl (Q := fun v : Work => Reads x v.st) (fun _ _ => reads_cancelRun) queues
  exact reads_setPlan (Reads.endService clear (closed_overCars (P := Reads x) (fun _ _ y => reads_placeCommand y) runs))

theorem reads_enter {w : Work} {left dest : PlanState} {parks : List CarId} (clear : x.setAside = Table.const 48 none)
    (h : Reads x w.st) : Reads x (enter w left dest parks).st := by
  cases dest with
  | halted => exact h
  | watching =>
    show Reads x (enterWatching w left).st
    unfold enterWatching
    have ended : ∀ y : State, Reads x y → Reads x (if left = .restoring then recordEnd y else y) := by
      intro y hy
      split <;> exact hy
    exact ended _ (closed_overCars (P := Reads x) (fun _ _ y => reads_placeCommand y)
      (reads_setPlan (reads_removeCommands (reads_resetCars (reads_clearStage clear h)))))
  | outage =>
    exact Reads.of_svc (startOutage_svc _ _) (reads_setPlan (reads_removeCommands (reads_resetCars (reads_clearStage clear h))))
  | settling =>
    show Reads x (enterSettling w left).st
    unfold enterSettling
    refine Reads.of_svc (s := w.st) ?_ h
    show (startOutage (if _ then w.st else _) left).svc = _
    rw [startOutage_svc]
    split <;> rfl
  | returning =>
    exact closed_foldl (Q := fun v : Work => Reads x v.st) (fun _ _ => reads_evaluateIdle) (show Reads x ((w.up recordCarry).noteRs).st from h)
  | service => exact h
  | restoring => exact reads_enterRestoring clear h

theorem reads_transition {w : Work} {dest : PlanState} {cause : PlanCause} (clear : x.setAside = Table.const 48 none)
    (h : Reads x w.st) : Reads x (transition w dest cause).st := by
  have entered : Reads x (enter (w.up (fun s => movedState s dest cause)) w.st.plan.state dest (parksOut w.st)).st :=
    reads_enter clear (h.of_svc (movedState_svc _ _ _))
  rw [transition_eq, Work.up_st]
  split
  · exact entered
  · exact entered.of_portOnly (portOnly_reportChanged _ _ _)

theorem reads_planSteps (clear : x.setAside = Table.const 48 none) : ∀ (fuel : Nat) {w : Work}, Reads x w.st → Reads x (planSteps fuel w).st
  | 0, _, h => h
  | fuel + 1, w, h => by
    unfold planSteps
    split
    · exact reads_planSteps clear fuel (reads_transition clear h)
    · exact h

/-! ## The completion of an event -/

theorem reads_grantWork {w : Work} (h : Reads x (planRun w).st) : Reads x (grantWork w).st := by
  have sequenced : Reads x (if (planRun w).nt.rs then sequencerWork (planRun w) else planRun w).st := by
    split
    · exact reads_sequencerWork h
    · exact h
  unfold grantWork
  extract_lets w1 w2
  split
  · exact reads_selectorWork sequenced
  · exact sequenced

theorem reads_complete {w : Work} (h : Reads x (planRun w).st) : Reads x (complete w) := by
  have worked := reads_grantWork h
  exact (worked.of_linkOnly (linkOnly_arbiters _)).of_svc rfl

end Sys2Proof.Proofs.Markers
end
section
/-! PROOFS. TRIM-SET (R28): the trim, C and S, and what the Service Selector makes of a rise or a fall (R161). -/

namespace Sys2Proof.Proofs.Markers

open Sys2Proof.Machine Sys2Proof.Safety Sys2Proof.Proofs.Upkeep Sys2Proof.Proofs.IndicationLines Sys2Proof.Proofs.Ends
  Sys2Proof.Proofs.Account Sys2Proof.Proofs.Capacity

/-- A notice of easing: C and S are read, and a rise of either clears every marker (R161). -/
theorem reads_settleAccount_eased (w : Work) : Reads
    { w.st.svc with
      setAside := if decide (w.st.svc.lastC < w.st.cap.c) || decide (w.st.svc.lastS < w.st.cap.sink) then Table.const 48 none
        else w.st.svc.setAside
      lastC := w.st.cap.c, lastS := w.st.cap.sink } (settleAccount w true).st := by
  obtain ⟨aside, lastC, lastS⟩ := reads_offeredState (Reads.refl w.st)
  have cap : (offeredState w).cap = w.st.cap := Shedding.offeredState_cap
  rw [settleAccount_eq, if_pos rfl]
  refine ⟨?_, congrArg Capacity.c cap, congrArg Capacity.sink cap⟩
  show (if decide ((offeredState w).svc.lastC < (offeredState w).cap.c) || decide ((offeredState w).svc.lastS < (offeredState w).cap.sink)
    then Table.const 48 none else (offeredState w).svc.setAside) = _
  rw [aside, lastC, lastS, cap]

/-- The work of an event that hands a changed C or S on. -/
theorem handCapacity_of_changed {w : Work} {c sink : Nat} (changed : w.st.cap.c ≠ c) : handCapacity w c sink
    = handSheds (settleAccount w (decide (c < w.st.cap.c) || decide (sink < w.st.cap.sink))) :=
  if_neg fun same => changed same.1

/-- The state once a trim is replaced and C and S are recomputed. -/
def trimmed (s : State) (n : SetId) (trim : Nat) : State := recompute (setTrim s n trim)

theorem capacityEvent_setTrim (s : State) (n : SetId) (trim : Nat) : capacityEvent (begin s) (fun x => setTrim x n trim)
    = handCapacity (begin (trimmed s n trim)) s.cap.c s.cap.sink := rfl

theorem reads_of_rise {s : State} {n : SetId} {trim : Nat} (rise : s.cap.c < (trimmed s n trim).cap.c)
    (read : s.svc.lastC < (trimmed s n trim).cap.c ∨ s.svc.lastS < (trimmed s n trim).cap.sink) :
    Reads { s.svc with
      setAside := Table.const 48 none, lastC := (trimmed s n trim).cap.c, lastS := (trimmed s n trim).cap.sink }
      (complete (capacityEvent (begin s) (fun x => setTrim x n trim))) := by
  have eases : (decide (s.cap.c < (begin (trimmed s n trim)).st.cap.c) || decide (s.cap.sink < (begin (trimmed s n trim)).st.cap.sink))
      = true := Bool.or_eq_true_iff.2 (.inl (decide_eq_true rise))
  rw [capacityEvent_setTrim, handCapacity_of_changed (Nat.ne_of_gt rise), eases]
  refine reads_complete (reads_planSteps rfl 8 (Reads.of_carSide (carSide_handSheds _) ?_))
  have eased := reads_settleAccount_eased (begin (trimmed s n trim))
  have risen : (decide (s.svc.lastC < (trimmed s n trim).cap.c) || decide (s.svc.lastS < (trimmed s n trim).cap.sink)) = true := by
    simpa using read
  exact ⟨eased.1.trans (if_pos risen), eased.2⟩

theorem generatorStays_trimmed {s : State} (stays : GeneratorStays s) (n : SetId) (trim : Nat) : GeneratorStays (trimmed s n trim) := by
  obtain ⟨retx, util, m, on⟩ := stays
  refine ⟨retx, util, m, ?_⟩
  show ((s.cap.sets.alter n (fun r => { r with trim })).at m).status ≠ _
  rw [Table.alter_at]
  split
  · rename_i here
    rw [← here]; exact on
  · exact on

theorem reads_of_fall {s : State} {n : SetId} {trim : Nat} (fall : (trimmed s n trim).cap.c < s.cap.c)
    (same : (trimmed s n trim).cap.sink = s.cap.sink) (service : s.plan.state = .service) (stays : GeneratorStays s) :
    Reads s.svc (complete (capacityEvent (begin s) (fun x => setTrim x n trim))) := by
  have quiet : (decide (s.cap.c < (trimmed s n trim).cap.c) || decide (s.cap.sink < (trimmed s n trim).cap.sink)) = false := by
    rw [decide_eq_false (Nat.not_lt.2 (Nat.le_of_lt fall)), same, decide_eq_false (Nat.lt_irrefl _), Bool.or_self]
  rw [capacityEvent_setTrim, handCapacity_of_changed (Nat.ne_of_lt fall)]
  show Reads s.svc (complete (handSheds (settleAccount _ (decide (s.cap.c < (trimmed s n trim).cap.c)
    || decide (s.cap.sink < (trimmed s n trim).cap.sink)))))
  rw [quiet]
  obtain ⟨w, made⟩ : ∃ w, w = handSheds (settleAccount (begin (trimmed s n trim)) false) := ⟨_, rfl⟩
  rw [← made]
  have read : Reads s.svc w.st := by
    rw [made]
    exact Reads.of_carSide (carSide_handSheds _) (reads_settleAccount (Reads.refl (trimmed s n trim)))
  have plan : w.st.plan = s.plan := by
    rw [made]
    exact (carSide_handSheds _).plan.trans (settleAccount_plan _ _)
  have fixed : w.st.fixed = (trimmed s n trim).fixed := by
    rw [made]
    exact closed_handSheds (closed_fixed _) (closed_settleAccount (closed_fixed _) rfl)
  have exits : planExit w.st = none :=
    Cars.planExit_of_granting (.inr (by rw [plan]; exact service)) (Cars.generatorStays_of_fixed fixed (generatorStays_trimmed stays n trim))
      fun returning => by rw [plan, service] at returning; cases returning
  exact reads_complete (by rw [planRun_of_noExit exits]; exact read)

/-- Settles O15. -/
theorem trimSetApplies : Obligations.TrimSetApplies := by
  intro s tag n v taking
  obtain ⟨s', made⟩ : ∃ s', s' = setFramer s .hunting := ⟨_, rfl⟩
  obtain ⟨u, made_u⟩ : ∃ u, u = complete (capacityEvent (begin s') (fun x => setTrim x n (min 100 v.toNat))) := ⟨_, rfl⟩
  have fixed : u.fixed = (trimmed s' n (min 100 v.toNat)).fixed := by
    rw [made_u]; exact complete_capacityEvent_fixed _ _
  have cap : u.cap = (trimmed s' n (min 100 v.toNat)).cap := congrArg Fixed.cap fixed
  obtain ⟨settings, host⟩ := kept_of_fixed (s := s') (t := u) (by rw [fixed, cap]; rfl)
  have follows : CapacityFollowsPlant u := by rw [made_u]; exact capacityFollowsPlant_complete _ _
  have accepts : withBody (.fields ⟨n.val + 1, v⟩) ruleTrimSet s'
      = accept u (fun x => .trim (trimView x n (decide (100 < v.toNat)))) := by
    rw [made_u]
    simp only [withBody, ruleTrimSet, numbered_val]
  have here : u.cap.sets.at n = { s.cap.sets.at n with trim := min 100 v.toNat } := by
    rw [cap, made]
    exact Table.alter_at_same _ _ _
  have there : ∀ m, m ≠ n → u.cap.sets.at m = s.cap.sets.at m := by
    intro m other
    rw [cap, made]
    exact Table.alter_at_other _ _ _ _ other
  have settle : u.cap.settle = s.cap.settle := by rw [cap, made]; rfl
  have rises : s.cap.c < u.cap.c → (s.svc.lastC < u.cap.c ∨ s.svc.lastS < u.cap.sink) →
      u.svc.setAside = Table.const 48 none ∧ u.svc.lastC = u.cap.c ∧ u.svc.lastS = u.cap.sink := by
    intro rise read
    rw [cap] at rise read ⊢
    have reads := reads_of_rise (s := s') (n := n) (trim := min 100 v.toNat) (by rw [made] at rise ⊢; exact rise)
      (by rw [made] at read ⊢; exact read)
    rw [made_u]
    exact reads
  have falls : u.cap.c < s.cap.c → u.cap.sink = s.cap.sink → s.plan.state = .service → GeneratorStays s →
      u.svc.setAside = s.svc.setAside ∧ u.svc.lastC = s.svc.lastC ∧ u.svc.lastS = s.svc.lastS := by
    intro fall same service stays
    rw [cap] at fall same
    have reads := reads_of_fall (s := s') (n := n) (trim := min 100 v.toNat) (by rw [made] at fall ⊢; exact fall)
      (by rw [made] at same ⊢; exact same) (by rw [made]; exact service) (by rw [made]; exact stays)
    rw [← made_u] at reads
    rw [made] at reads
    exact reads
  rw [made] at accepts host settings
  obtain ⟨t, runs, answered, same⟩ := exec_of_accepted (c := .trimSet tag (.fields ⟨n.val + 1, v⟩)) taking rfl accepts host
  obtain ⟨setup', lines', cap', _, _, svc', _⟩ := fixed_of_answered same
  have view : trimView u n (decide (100 < v.toNat))
      = ⟨n, min 100 v.toNat, decide (100 < v.toNat), (s.cap.sets.at n).status, contributes t n, t.cap.c⟩ := by
    have contribution : Machine.contribution u n = contributes t n := by
      unfold contributes
      rw [setup', cap']
      rfl
    unfold trimView
    rw [here, contribution, cap']
  refine ⟨t, runs, PlanMoves.settingsKept_of_answered same settings, by rw [cap']; exact here,
    fun m other => by rw [cap']; exact there m other, by rw [cap']; exact settle, by rw [same]; exact follows,
    by rw [← view]; exact answered, ?_, ?_⟩
  · rw [cap', svc']; exact rises
  · rw [cap', svc']; exact falls

end Sys2Proof.Proofs.Markers
end
section
/-! PROOFS. SET-SERVICE-COUNT (R154, R162): each excess designation ended, one by one, until the number equals the count. -/

namespace Sys2Proof.Proofs.Counts

open Sys2Proof.Machine Sys2Proof.Safety Sys2Proof.Proofs.Upkeep Sys2Proof.Proofs.IndicationLines Sys2Proof.Proofs.Ends
  Sys2Proof.Proofs.Account Sys2Proof.Proofs.Capacity Sys2Proof.Proofs.Cars

/-! ## Designations of a bank -/

/-- An entry designates its car in a bank (R157). -/
def designatesIn (s : State) (b : BankId) (e : Entry) : Bool := e.designates && (profile s e.car).bank == numberOf b

theorem designatedIn_eq (s : State) (b : BankId) : designatedIn s b = s.acct.entries.countP (designatesIn s b) := by
  rw [List.countP_eq_length_filter]
  rfl

theorem designatedIn_congr {s t : State} (setup : t.setup = s.setup) (acct : t.acct = s.acct) (b : BankId) :
    designatedIn t b = designatedIn s b := by
  unfold designatedIn profile
  rw [setup, acct]

theorem countP_alterFirst {α : Type} {p q : α → Bool} {f : α → α} {x : α} (was : q x = true) (lost : q (f x) = false) :
    ∀ {l : List α}, l.find? p = some x → (alterFirst p f l).countP q + 1 = l.countP q
  | [], found => by cases found
  | y :: ys, found => by
    cases hit : p y with
    | true =>
      rw [List.find?_cons, hit] at found
      cases found
      have first : alterFirst p f (x :: ys) = f x :: ys := if_pos hit
      rw [first, List.countP_cons_of_pos was, List.countP_cons_of_neg (by rw [lost]; decide)]
    | false =>
      rw [List.find?_cons, hit] at found
      have rest : alterFirst p f (y :: ys) = y :: alterFirst p f ys := if_neg (by rw [hit]; decide)
      have ih := countP_alterFirst was lost found
      rw [rest, List.countP_cons, List.countP_cons]
      omega

/-! ## One designation ended -/

/-- The states in which a step leaves what SET-SERVICE-COUNT reads: the settings, the plan, the queue and the notes for the Return
Sequencer. -/
structure CountStep (w v : Work) : Prop where
  setup : v.st.setup = w.st.setup
  plan : v.st.plan = w.st.plan
  ret : v.st.ret = w.st.ret
  rs : v.nt.rs = w.nt.rs

theorem CountStep.refl (w : Work) : CountStep w w := ⟨rfl, rfl, rfl, rfl⟩

theorem CountStep.trans {w v u : Work} (h : CountStep w v) (g : CountStep v u) : CountStep w u :=
  ⟨g.setup.trans h.setup, g.plan.trans h.plan, g.ret.trans h.ret, g.rs.trans h.rs⟩

theorem countStep_moveToStop (w : Work) (c : CarId) (cause : StopCause) : CountStep w (moveToStop w c cause) := by
  rcases moveToStop_cases w c cause with stands | ⟨_, _, _, ⟨_, moved⟩ | ⟨_, moved⟩⟩
  · rw [stands]; exact CountStep.refl w
  · rw [moved]; exact ⟨rfl, rfl, rfl, rfl⟩
  · rw [moved]; exact ⟨rfl, rfl, rfl, rfl⟩

/-- What ending a designation does to the car, once its entry is in STOP phase. -/
def stoppedForCount (s : State) (c : CarId) : State :=
  match record s c with
  | some r => if r.state = .silent then place s c .stopNext else reportCar (moveCar (place s c .stopNext) c .stopping) c (some r) .service none
  | none => place s c .stopNext

theorem endForCount_eq (w : Work) (c : CarId) : endForCount w c = (moveToStop w c .count).up (fun s => stoppedForCount s c) := rfl

theorem carSide_stoppedForCount (s : State) (c : CarId) : CarSide s (stoppedForCount s c) := by
  unfold stoppedForCount
  split
  · split
    · exact Cars.carSide_place _ _ _
    · exact ((Cars.carSide_place _ _ _).trans (Cars.carSide_moveCar _ _ _)).trans (Cars.carSide_reportCar _ _ _ _ _)
  · exact Cars.carSide_place _ _ _

theorem countStep_endForCount (w : Work) (c : CarId) : CountStep w (endForCount w c) := by
  have moved := countStep_moveToStop w c .count
  have side := carSide_stoppedForCount (moveToStop w c .count).st c
  rw [endForCount_eq]
  exact moved.trans ⟨by show (stoppedForCount _ c).setup = _; rw [side], by show (stoppedForCount _ c).plan = _; rw [side],
    by show (stoppedForCount _ c).ret = _; rw [side], rfl⟩

theorem acct_endForCount {w : Work} {c : CarId} {e : Entry} (found : entryOf w.st c = some e) (designates : e.designates = true) :
    (endForCount w c).st.acct = w.st.acct.change c (Entry.toStop .count) := by
  have movable : e.movable = true := by rw [Entry.movable, designates, Bool.or_true]
  have side := carSide_stoppedForCount (moveToStop w c .count).st c
  rw [endForCount_eq]
  show (stoppedForCount _ c).acct = _
  rw [side, Shedding.moveToStop_of_movable found movable, if_pos designates]
  rfl

/-- A car of a bank is designated (R157). -/
def DesignatedAt (s : State) (b : BankId) (c : CarId) : Prop := ∃ e, entryOf s c = some e ∧ designatesIn s b e = true

theorem designatesIn_congr {s t : State} (setup : t.setup = s.setup) (b : BankId) : designatesIn t b = designatesIn s b := by
  funext e
  unfold designatesIn profile
  rw [setup]

theorem designatedIn_endForCount {w : Work} {b : BankId} {c : CarId} (here : DesignatedAt w.st b c) :
    designatedIn (endForCount w c).st b + 1 = designatedIn w.st b := by
  obtain ⟨e, found, designates⟩ := here
  rw [designatedIn_eq, designatedIn_eq, designatesIn_congr (countStep_endForCount w c).setup,
    acct_endForCount found (Bool.and_eq_true_iff.1 designates).1, change_entries]
  exact countP_alterFirst designates (by simp [designatesIn, Entry.designates, Entry.toStop]) found

theorem designatedAt_endForCount {w : Work} {b : BankId} {c d : CarId} (here : DesignatedAt w.st b c) (other : d ≠ c)
    (there : DesignatedAt w.st b d) : DesignatedAt (endForCount w c).st b d := by
  obtain ⟨e, found, designates⟩ := here
  obtain ⟨x, found', designates'⟩ := there
  have acct := acct_endForCount found (Bool.and_eq_true_iff.1 designates).1
  refine ⟨x, ?_, by rw [designatesIn_congr (countStep_endForCount w c).setup]; exact designates'⟩
  rw [entryOf_of_acct (s := w.st.setAcct (w.st.acct.change c (Entry.toStop .count))) acct,
    entryOf_change (f := Entry.toStop .count) (fun _ => rfl), if_neg other]
  exact found'

/-- Each of these designations ended, their number is gone from the bank's. -/
theorem designatedIn_foldl {b : BankId} : ∀ {cars : List CarId} {w : Work}, cars.Nodup → (∀ c ∈ cars, DesignatedAt w.st b c) →
    designatedIn (cars.foldl endForCount w).st b + cars.length = designatedIn w.st b
  | [], _, _, _ => rfl
  | c :: cars, w, distinct, here => by
    obtain ⟨fresh, distinct⟩ := List.nodup_cons.1 distinct
    have first := designatedIn_endForCount (here c List.mem_cons_self)
    have rest := designatedIn_foldl distinct (w := endForCount w c) fun d mem =>
      designatedAt_endForCount (here c List.mem_cons_self) (fun same => fresh (same ▸ mem)) (here d (List.mem_cons_of_mem _ mem))
    rw [List.foldl_cons, List.length_cons]
    omega

/-! ## The excess of a bank (R162) -/

theorem designatedCars_perm (s : State) (b : BankId) : (designatedCars s b).Perm ((s.acct.entries.filter (designatesIn s b)).map (·.car)) :=
  Shedding.perm_sortBy _ _

theorem designatedCars_nodup {s : State} (cars : OneEntryPerCar s) (b : BankId) : (designatedCars s b).Nodup :=
  (designatedCars_perm s b).nodup_iff.2 (cars.sublist (List.filter_sublist.map _))

theorem designatedCars_length (s : State) (b : BankId) : (designatedCars s b).length = designatedIn s b := by
  rw [(designatedCars_perm s b).length_eq, List.length_map]
  rfl

theorem designatedAt_of_mem {s : State} {b : BankId} (cars : OneEntryPerCar s) {c : CarId} (mem : c ∈ designatedCars s b) :
    DesignatedAt s b c := by
  obtain ⟨e, listed, rfl⟩ := List.mem_map.1 ((designatedCars_perm s b).mem_iff.1 mem)
  obtain ⟨mem, designates⟩ := List.mem_filter.1 listed
  exact ⟨e, entryOf_of_mem cars mem, designates⟩

/-- The designations left are as many as the count allows (R162). -/
theorem designatedIn_trimDesignations {w : Work} {b : BankId} (cars : OneEntryPerCar w.st) :
    designatedIn (trimDesignations w b).st b = min (designatedIn w.st b) (w.st.svc.counts.at b) := by
  have ended := designatedIn_foldl (b := b) (w := w) (cars := (designatedCars w.st b).take (designatedIn w.st b - w.st.svc.counts.at b))
    ((List.take_sublist _ _).nodup (designatedCars_nodup cars b))
    (fun c mem => designatedAt_of_mem cars (List.mem_of_mem_take mem))
  rw [List.length_take, designatedCars_length] at ended
  show designatedIn (List.foldl endForCount w _).st b = _
  omega

theorem countStep_trimDesignations (w : Work) (b : BankId) : CountStep w (trimDesignations w b) :=
  foldl_rel CountStep.refl CountStep.trans countStep_endForCount _ _

theorem countStep_changeCount (w : Work) (b : BankId) (n : Nat) : CountStep w (changeCount w b n) := by
  refine CountStep.trans ?_ (countStep_trimDesignations _ b)
  show CountStep w (if _ then _ else _)
  split <;> exact ⟨rfl, rfl, rfl, rfl⟩

theorem designatedIn_changeCount {w : Work} {b : BankId} {n : Nat} (cars : OneEntryPerCar w.st) :
    designatedIn (changeCount w b n).st b = min (designatedIn w.st b) n := by
  obtain ⟨v, made, state⟩ : ∃ v : Work, changeCount w b n = trimDesignations v b ∧ v.st = setCount w.st b n := by
    refine ⟨_, rfl, ?_⟩
    split <;> rfl
  rw [made, designatedIn_trimDesignations (w := v) (by rw [state]; exact cars), state]
  have count : (setCount w.st b n).svc.counts.at b = n := Table.put_at_same _ _ _
  rw [count]
  rfl

/-! ## The end of the event -/

theorem maySelect_of_spaced {s : State} (spaced : s.ret.spacing ≠ none) : maySelect s = false := by
  have running : s.ret.spacing.isNone = false := by rwa [← Bool.not_eq_true, Option.isNone_iff_eq_none]
  rw [maySelect, running, Bool.and_false]

/-- While the spacing timer runs, an event that does not reach the Return Sequencer grants and designates nothing (R139). -/
theorem grantWork_of_spaced {w : Work} (exits : planExit w.st = none) (rs : w.nt.rs = false) (spaced : w.st.ret.spacing ≠ none) :
    grantWork w = w := by
  have selects : selectorWork w = w := by simp [selectorWork, maySelect_of_spaced spaced]
  simp [grantWork, planRun_of_noExit exits, rs, selects]

theorem complete_of_spaced {w : Work} (exits : planExit w.st = none) (rs : w.nt.rs = false) (spaced : w.st.ret.spacing ≠ none) :
    complete w = driveLines (arbiters w.st) := by
  rw [complete, completeWith, grantWork_of_spaced exits rs spaced]
  rfl

/-! ## The reply -/

theorem bankViews_get (s : State) (b : BankId) : (bankViews s)[b.val]?
    = some ⟨s.setup.limits.counts.at b, s.svc.counts.at b, designatedIn s b⟩ := by
  have listed : (indices 8)[b.val]? = some b := by
    simp [PlantLines.indices_getElem?]
  rw [bankViews, List.getElem?_map, listed]
  rfl

/-- Settles O40. -/
theorem serviceCountSet : Obligations.ServiceCountSet := by
  intro s tag b n taking fits
  obtain ⟨s', made⟩ : ∃ s', s' = setFramer s .hunting := ⟨_, rfl⟩
  obtain ⟨u, made_u⟩ : ∃ u, u = complete (changeCount (begin s') b n) := ⟨_, rfl⟩
  have fixed : u.fixed = (setCount s' b n).fixed := by
    rw [made_u]
    refine (complete_fixed _).trans (closed_trimDesignations (closed_fixed _) ?_)
    show (if _ then _ else _ : Work).st.fixed = _
    split <;> rfl
  have part {α : Type} (p : Fixed → α) := congrArg p fixed
  have accepts : withBody (.fields ⟨b.val + 1, n⟩) ruleServiceCount s' = accept u (fun x => .counts (bankViews x)) := by
    rw [made_u]
    simp only [withBody, ruleServiceCount, numbered_val, fits, if_true]
  have service : s.plan.state = .service → GeneratorStays s → OneEntryPerCar s → s.ret.spacing ≠ none →
      designatedIn u b = min (designatedIn s b) n := by
    intro state stays cars spaced
    obtain ⟨w, made_w⟩ : ∃ w, w = changeCount (begin s') b n := ⟨_, rfl⟩
    have step : CountStep (begin s') w := made_w ▸ countStep_changeCount _ b n
    have fixed_w : w.st.fixed = (setCount s' b n).fixed := by
      rw [← fixed, made_u, made_w]
      exact (complete_fixed _).symm
    have exits : planExit w.st = none := planExit_of_granting (.inr (by rw [step.plan, made]; exact state))
      (generatorStays_of_fixed (s := setCount s' b n) fixed_w (by rw [made]; exact stays))
      (fun returning => by
        rw [step.plan, made] at returning
        exact absurd (state.symm.trans returning) (by decide))
    have ends : u = driveLines (arbiters w.st) := by
      rw [made_u, ← made_w, complete_of_spaced exits step.rs (by rw [step.ret, made]; exact spaced)]
    have count : designatedIn w.st b = min (designatedIn s' b) n := by rw [made_w]; exact designatedIn_changeCount (by rw [made]; exact cars)
    have same : designatedIn u b = designatedIn w.st b := by
      refine designatedIn_congr ?_ ?_ b <;> rw [ends, driveLines_of_linkOnly (linkOnly_arbiters w.st)]
    rw [same, count, made]
    rfl
  have host : HostSideKept s' u :=
    ⟨part Fixed.rateInUse, part Fixed.framer, part Fixed.restart, part Fixed.replies, part Fixed.tx, part Fixed.dipFlag⟩
  have setup_u : u.setup = s.setup := by rw [show u.setup = (setCount s' b n).setup from part Fixed.setup, made]; rfl
  have lines_u : u.lines = s.lines := by rw [show u.lines = (setCount s' b n).lines from part Fixed.lines, made]; rfl
  have store_u : u.store = s.store := by rw [show u.store = (setCount s' b n).store from part Fixed.store, made]; rfl
  have cap_u : u.cap = s.cap := by rw [show u.cap = (setCount s' b n).cap from part Fixed.cap, made]; rfl
  have counts_u : u.svc.counts = s.svc.counts.put b n := by
    have same : u.svc.counts = (setCount s' b n).svc.counts := part Fixed.counts
    rw [same, made]; rfl
  rw [made] at accepts host
  obtain ⟨t, runs, answered, same⟩ := exec_of_accepted (c := .setServiceCount tag (.fields ⟨b.val + 1, n⟩)) taking rfl accepts host
  obtain ⟨setup', lines', cap', store', _, svc', acct', _⟩ := fixed_of_answered same
  have designated (d : BankId) : designatedIn t d = designatedIn u d := designatedIn_congr setup' acct' d
  refine ⟨t, bankViews u, runs, setup'.trans setup_u, lines'.trans lines_u, store'.trans store_u, cap'.trans cap_u,
    by rw [svc', counts_u, Table.put_at_same], fun d other => by rw [svc', counts_u, Table.put_at_other _ _ _ _ other], answered, rfl,
    fun d => by rw [bankViews_get, svc', designated, setup_u], ?_⟩
  · rw [designated]
    exact service

end Sys2Proof.Proofs.Counts
end
section
/-! PROOFS. The tests of R56 on a reply, and the status that a valid one carries (Table 4-2). -/

namespace Sys2Proof.Proofs.Cars

open Sys2Proof.Machine Sys2Proof.Safety Sys2Proof.Proofs.Upkeep Sys2Proof.Proofs.IndicationLines Sys2Proof.Proofs.Ends
  Sys2Proof.Proofs.Account

/-! ## Fields of two bits -/

theorem getLsbD_eq_div (b : Byte) (i : Nat) : b.getLsbD i = decide (b.toNat / 2 ^ i % 2 = 1) := by
  rw [BitVec.getLsbD, Nat.testBit_eq_decide_div_mod_eq]

theorem two_bits (b : Byte) (i : Nat) : (b >>> i).toNat % 4
    = (if b.getLsbD i then 1 else 0) + (if b.getLsbD (i + 1) then 2 else 0) := by
  have half : b.toNat / 2 ^ (i + 1) = b.toNat / 2 ^ i / 2 := by rw [Nat.pow_succ, Nat.div_div_eq_div_mul]
  rw [BitVec.toNat_ushiftRight, Nat.shiftRight_eq_div_pow, getLsbD_eq_div, getLsbD_eq_div, half]
  simp only [decide_eq_true_eq]
  split <;> split <;> omega

theorem motionOf_eq (b : Byte) : motionOf b = if b.getLsbD 4 then (if b.getLsbD 3 then .decelerating else .atSpeed)
    else (if b.getLsbD 3 then .accelerating else .stopped) := by
  unfold motionOf
  rw [two_bits]
  cases b.getLsbD 3 <;> cases b.getLsbD 4 <;> rfl

theorem doorOf_eq (b : Byte) : doorOf b = if b.getLsbD 6 then (if b.getLsbD 5 then .closing else .opened)
    else (if b.getLsbD 5 then .opening else .closed) := by
  unfold doorOf
  rw [two_bits]
  cases b.getLsbD 5 <;> cases b.getLsbD 6 <;> rfl

/-! ## The authority -/

theorem authorityOf_eq (r : CarReply) : authorityOf r.authority = authorityIn r := by
  unfold authorityOf authorityIn
  generalize r.authority.toNat = n
  match n with
  | 0 => rfl
  | 1 => rfl
  | 2 => rfl
  | 3 => rfl
  | 4 => rfl
  | _ + 5 => rfl

theorem authorityIn_isSome_iff (r : CarReply) : (authorityIn r).isSome = true ↔ r.authority.toNat ≤ 4 := by
  unfold authorityIn
  rw [Option.isSome_iff_ne_none, ne_eq, List.getElem?_eq_none_iff, Nat.not_le]
  exact Nat.lt_succ_iff

/-! ## Validity -/

/-- The status that a reply with this authority carries (Table 4-2). -/
def carried (r : CarReply) (a : Authority) : CarStatus where
  floor := r.floor.toNat
  between := r.bits.getLsbD 0
  atSpeed := r.bits.getLsbD 1
  fault := if r.bits.getLsbD 2 then some r.fault else none
  motion := motionOf r.bits
  door := doorOf r.bits
  load := if r.bits.getLsbD 7 then none else some r.load.toNat
  authority := a

theorem statusOf_eq {r : CarReply} {a : Authority} (authority : authorityIn r = some a) (floor : r.floor.toNat ≤ 199) :
    statusOf r = some (carried r a) := by
  simp only [statusOf, authorityOf_eq, authority, floor, if_true]
  rfl

theorem statusOf_isSome_iff (r : CarReply) : (statusOf r).isSome = true ↔ r.floor.toNat ≤ 199 ∧ r.authority.toNat ≤ 4 := by
  rw [← authorityIn_isSome_iff]
  cases authority : authorityIn r with
  | none => simp [statusOf, authorityOf_eq, authority]
  | some a =>
    by_cases floor : r.floor.toNat ≤ 199
    · simp [statusOf_eq authority floor, floor]
    · simp [statusOf, authorityOf_eq, authority, floor]

theorem verdictSuits_iff (q : Request) (v : Verdict) : verdictSuits q v = true ↔ (q = .poll ↔ v = .none) := by
  cases q with
  | poll => simp [verdictSuits]
  | command cmd => simp [verdictSuits]

/-- The tests of R56 are those of `ValidReply`. -/
theorem replyValid_iff (s : State) (x : Exchange) (r : CarReply) :
    replyValid (profile s x.car).drop x.request r = true ↔ ValidReply s x r := by
  simp only [replyValid, Bool.and_eq_true, beq_iff_eq, verdictSuits_iff, statusOf_isSome_iff, and_assoc]
  rfl

theorem exists_status {s : State} {x : Exchange} {r : CarReply} (valid : ValidReply s x r) :
    ∃ a, authorityIn r = some a ∧ statusOf r = some (carried r a) := by
  obtain ⟨_, _, _, _, _, floor, authority⟩ := valid
  obtain ⟨a, here⟩ := Option.isSome_iff_exists.1 ((authorityIn_isSome_iff r).2 authority)
  exact ⟨a, here, statusOf_eq here floor⟩

/-- A valid reply is taken, with the status it carries (R57). -/
theorem exec_of_valid {s : State} {k : Link} {x : Exchange} {r : CarReply} {old : CarRecord} {a : Authority}
    (out : (linkLine s k).exchange = some x) (valid : ValidReply s x r) (had : record s x.car = some old)
    (authority : authorityIn r = some a) :
    exec (.carReply k r) s = .next (completeWith
      (handReply (begin (endExchange s k x.car)) x.car old (isFirstContact s x.car old) x.request r.verdict (carried r a))
      (declinedStop x.car x.request r.verdict)) := by
  have carries : statusOf r = some (carried r a) := by
    obtain ⟨b, here, carries⟩ := exists_status valid
    rw [Option.some.inj (authority.symm.trans here)]
    exact carries
  show Host.Outcome.next (receiveReply s k r) = _
  simp only [receiveReply, out, (replyValid_iff s x r).2 valid, if_true, takeReply, had, carries]

/-- Any other reply is discarded (R54, R56). -/
theorem receiveReply_of_invalid {s : State} {k : Link} {r : CarReply}
    (invalid : (linkLine s k).exchange = none ∨ ∃ x, (linkLine s k).exchange = some x ∧ ¬ ValidReply s x r) : receiveReply s k r = s := by
  obtain none | ⟨x, out, not_valid⟩ := invalid
  · simp only [receiveReply, none]
  · have fails : replyValid (profile s x.car).drop x.request r = false := by
      rw [← Bool.not_eq_true, replyValid_iff]
      exact not_valid
    simp only [receiveReply, out, fails] <;> rfl

/-! ## What is recorded (R35, R36) -/

theorem fixed_endExchange (s : State) (k : Link) (c : CarId) : (endExchange s k c).fixed = s.fixed := by
  have lines : (setLinkLine s k { linkLine s k with exchange := none }).fixed = s.fixed := by cases k <;> rfl
  exact closed_countCar (closed_fixed _) (by exact lines)

theorem record_countCar (s : State) (c d : CarId) : record (countCar s c) d = record s d := by
  unfold countCar
  split <;> rfl

theorem record_setLinkLine (s : State) (k : Link) (l : LinkLine) (d : CarId) : record (setLinkLine s k l) d = record s d := by
  cases k <;> rfl

theorem record_endExchange_same (s : State) (k : Link) (c : CarId) :
    record (endExchange s k c) c = (record s c).map (fun r => { r with linkStatus := .inContact }) := by
  rw [endExchange, record_countCar, record_alterCar_same, record_alterLink, record_setLinkLine]

theorem record_endExchange_other (s : State) (k : Link) {c d : CarId} (other : d ≠ c) : record (endExchange s k c) d = record s d := by
  rw [endExchange, record_countCar, record_alterCar_other _ _ other, record_alterLink, record_setLinkLine]

/-- The record that a status leaves, before any rule acts (R35, R36). -/
def heard (s : State) (c : CarId) (x : CarStatus) (old : CarRecord) : CarRecord :=
  CarRecord.apply (profile s c) s.time x { old with linkStatus := .inContact }

theorem applyStatus_of_record {w : Work} {c : CarId} {x : CarStatus} {before : CarRecord} (had : record w.st c = some before) :
    applyStatus w c x = handOccupancy (w.up (fun s => reportPosition
      (alterCar s c (fun _ => before.apply (profile w.st c) w.st.time x)) c before (before.apply (profile w.st c) w.st.time x)))
      c before (before.apply (profile w.st c) w.st.time x) := by
  simp only [applyStatus, had]

theorem endExchange_time (s : State) (k : Link) (c : CarId) : (endExchange s k c).time = s.time :=
  congrArg Fixed.time (fixed_endExchange s k c)

theorem endExchange_profile (s : State) (k : Link) (c d : CarId) : profile (endExchange s k c) d = profile s d := by
  have setup : (endExchange s k c).setup = s.setup := congrArg Fixed.setup (fixed_endExchange s k c)
  unfold profile
  rw [setup]

/-- What the status says of the car stands when the event is over (R35, R36). -/
theorem sensed_of_reply {s : State} {k : Link} {x : Exchange} {old : CarRecord} {first : Bool} {v : Verdict} {status : CarStatus}
    {renew : Option CarId} (had : record s x.car = some old) :
    (record (completeWith (handReply (begin (endExchange s k x.car)) x.car old first x.request v status) renew) x.car).map
      CarRecord.sensed = some (heard s x.car status old).sensed := by
  have H := closed_sensed x.car (some (heard s x.car status old).sensed)
  have begun : record (begin (endExchange s k x.car)).st x.car = some { old with linkStatus := .inContact } := by
    show record (endExchange s k x.car) x.car = _
    rw [record_endExchange_same, had]
    rfl
  have new : CarRecord.apply (profile (begin (endExchange s k x.car)).st x.car) (begin (endExchange s k x.car)).st.time status
      { old with linkStatus := .inContact } = heard s x.car status old := by
    show CarRecord.apply (profile (endExchange s k x.car) x.car) (endExchange s k x.car).time _ _ = _
    rw [endExchange_profile, endExchange_time]
    rfl
  have applied : (record (applyStatus (begin (endExchange s k x.car)) x.car status).st x.car).map CarRecord.sensed
      = some (heard s x.car status old).sensed := by
    rw [applyStatus_of_record begun, new]
    refine closed_handOccupancy H (closed_reportPosition H ?_)
    show (record (alterCar _ x.car _) x.car).map _ = _
    rw [record_alterCar_same, begun]
    rfl
  refine closed_completeWith H (closed_handSheds H (closed_reportReply H (closed_judge H (closed_statusRules H applied))))

/-- Settles O19. -/
theorem carReplyRecorded : Obligations.CarReplyRecorded := by
  refine ⟨fun s k x r old out had valid => ?_, fun s k r invalid => ?_⟩
  · obtain ⟨a, authority, _⟩ := exists_status valid
    obtain ⟨t, made⟩ : ∃ t, t = completeWith (handReply (begin (endExchange s k x.car)) x.car old (isFirstContact s x.car old)
      x.request r.verdict (carried r a)) (declinedStop x.car x.request r.verdict) := ⟨_, rfl⟩
    have runs := exec_of_valid out valid had authority
    have fixed : t.fixed = s.fixed := by
      rw [made]
      exact (completeWith_fixed _ _).trans
        (closed_handReply (closed_fixed _) (fun {_ _} same => same) (fixed_endExchange s k x.car))
    obtain ⟨settings, host, cap⟩ := kept_of_fixed_eq fixed
    have sensed : (record t x.car).map CarRecord.sensed = some (heard s x.car (carried r a) old).sensed := by
      rw [made]; exact sensed_of_reply had
    obtain ⟨new, here, same⟩ := Option.map_eq_some_iff.1 sensed
    have part {α : Type} (f : CarRecord → α) : f new.sensed = f (heard s x.car (carried r a) old).sensed := congrArg f same
    refine ⟨t, new, by rw [runs, made], settings, host, cap, here, part CarRecord.floor, part CarRecord.between,
      (part CarRecord.motion).trans (congrArg some (motionOf_eq _)), (part CarRecord.door).trans (congrArg some (doorOf_eq _)),
      (part CarRecord.load).trans ?_, (part CarRecord.authority).trans authority.symm, part CarRecord.faultCode,
      part CarRecord.lastStatus, part CarRecord.holdOut, ?_⟩
    · show Option.map _ (if _ then _ else _) = _
      cases r.bits.getLsbD 7
      · rfl
      · rfl
    · have occupied : new.occupied = (heard s x.car (carried r a) old).occupied := part CarRecord.occupied
      rw [occupied]
      show (match (if r.bits.getLsbD 7 then none else some r.load.toNat : Option Nat) with
        | some l => decide ((profile s x.car).occupiedAt ≤ min l 125)
        | none => true) = true ↔ _
      cases r.bits.getLsbD 7 with
      | true => simp
      | false => simp
  · have discards := receiveReply_of_invalid invalid
    exact ⟨congrArg Host.Outcome.next discards, congrArg Host.Outcome.next discards⟩

end Sys2Proof.Proofs.Cars
end
section
/-! PROOFS. A valid reply once its status is applied (R35, R57), and the reply to a poll in WATCHING, which calls for nothing more. -/

namespace Sys2Proof.Proofs.Cars

open Sys2Proof.Machine Sys2Proof.Safety Sys2Proof.Proofs.Upkeep Sys2Proof.Proofs.IndicationLines Sys2Proof.Proofs.Ends
  Sys2Proof.Proofs.Account

/-! ## The exchange ended -/

/-- The plan once a car is counted in a census (R121). -/
def countedPlan (s : State) (c : CarId) : PlanCtl :=
  if s.plan.census = .inProgress then
    { s.plan with
      counted := s.plan.counted.put c true
      census := if allCounted s (s.plan.counted.put c true) then .complete else .inProgress }
  else s.plan

theorem countCar_eq (s : State) (c : CarId) : countCar s c = s.setPlan (countedPlan s c) := by
  unfold countCar countedPlan
  split <;> rfl

/-- The census fields alone differ. -/
theorem countedPlan_rest (s : State) (c : CarId) :
    countedPlan s c = { s.plan with counted := (countedPlan s c).counted, census := (countedPlan s c).census } := by
  unfold countedPlan
  split <;> rfl

theorem countedPlan_of_none {s : State} (c : CarId) (none : s.plan.census ≠ .inProgress) : countedPlan s c = s.plan := if_neg none

theorem countedPlan_counted {s : State} (c : CarId) (counting : s.plan.census = .inProgress) :
    (countedPlan s c).counted.at c = true := by
  rw [countedPlan, if_pos counting]
  exact Table.put_at_same _ _ _

/-- The link part of an exchange's end (R57, R63, R69). -/
def endedLink (s : State) (l : CarLink) : CarLink := { l with missed := 0, lastEnd := s.time, silentHold := none }

theorem time_setLinkLine (s : State) (k : Link) (l : LinkLine) : (setLinkLine s k l).time = s.time := by cases k <;> rfl

theorem carLink_endExchange_same (s : State) (k : Link) (c : CarId) : carLink (endExchange s k c) c = endedLink s (carLink s c) := by
  rw [endExchange, countCar_eq]
  show carLink (alterLink (setLinkLine s k _) c _) c = _
  rw [carLink_alterLink_same, carLink_setLinkLine, time_setLinkLine]
  rfl

theorem carLink_endExchange_other (s : State) (k : Link) {c d : CarId} (other : d ≠ c) : carLink (endExchange s k c) d = carLink s d := by
  rw [endExchange, countCar_eq]
  show carLink (alterLink (setLinkLine s k _) c _) d = _
  rw [carLink_alterLink_other _ _ other, carLink_setLinkLine]

theorem linkLine_endExchange_same (s : State) (k : Link) (c : CarId) : (linkLine (endExchange s k c) k).exchange = none := by
  rw [endExchange, countCar_eq]
  cases k <;> rfl

theorem linkLine_endExchange_other (s : State) {j k : Link} (c : CarId) (other : j ≠ k) : linkLine (endExchange s k c) j = linkLine s j := by
  rw [endExchange, countCar_eq]
  show linkLine (alterLink (setLinkLine s k _) c _) j = _
  rw [linkLine_alterLink, linkLine_setLinkLine_other other]

/-- Two states that differ in the links, the records, the report queue and the plan's controller alone. -/
def ReplySide (s t : State) : Prop := t = { s with cars := t.cars, link := t.link, port := t.port, plan := t.plan }

theorem ReplySide.trans {s t u : State} (h : ReplySide s t) (g : ReplySide t u) : ReplySide s u := by
  unfold ReplySide at *; rw [g, h]

theorem ReplySide.of_portOnly {s t : State} (h : PortOnly s t) : ReplySide s t := by
  unfold PortOnly at h; unfold ReplySide; rw [h]; rfl

theorem replySide_endExchange (s : State) (k : Link) (c : CarId) : ReplySide s (endExchange s k c) := by
  rw [endExchange, countCar_eq]
  cases k <;> rfl

theorem plan_endExchange (s : State) (k : Link) (c : CarId) : (endExchange s k c).plan = countedPlan s c := by
  rw [endExchange, countCar_eq]
  cases k <;> rfl

/-! ## The status applied -/

/-- The state once the exchange has ended and the status is recorded and its position reported. -/
def heardState (s : State) (k : Link) (c : CarId) (x : CarStatus) (old : CarRecord) : State :=
  reportPosition (alterCar (endExchange s k c) c (fun _ => heard s c x old)) c { old with linkStatus := .inContact } (heard s c x old)

theorem applyStatus_eq {s : State} {k : Link} {c : CarId} {old : CarRecord} (had : record s c = some old) (x : CarStatus) :
    applyStatus (begin (endExchange s k c)) c x
      = handOccupancy (begin (heardState s k c x old)) c { old with linkStatus := .inContact } (heard s c x old) := by
  have begun : record (begin (endExchange s k c)).st c = some { old with linkStatus := .inContact } := by
    show record (endExchange s k c) c = _
    rw [record_endExchange_same, had]
    rfl
  have new : CarRecord.apply (profile (begin (endExchange s k c)).st c) (begin (endExchange s k c)).st.time x
      { old with linkStatus := .inContact } = heard s c x old := by
    show CarRecord.apply (profile (endExchange s k c) c) (endExchange s k c).time _ _ = _
    rw [endExchange_profile, endExchange_time]
    rfl
  rw [applyStatus_of_record begun, new]
  rfl

section
variable (s : State) (k : Link) (c : CarId) (x : CarStatus) (old : CarRecord)

theorem portOnly_heardState :
    PortOnly (alterCar (endExchange s k c) c (fun _ => heard s c x old)) (heardState s k c x old) := portOnly_reportPosition _ _ _ _

theorem replySide_heardState : ReplySide s (heardState s k c x old) :=
  (replySide_endExchange s k c).trans
    ((show ReplySide (endExchange s k c) (alterCar (endExchange s k c) c (fun _ => heard s c x old)) from rfl).trans
      (.of_portOnly (portOnly_heardState s k c x old)))

theorem plan_heardState : (heardState s k c x old).plan = countedPlan s c := by
  rw [portOnly_heardState s k c x old]
  exact plan_endExchange s k c

theorem link_heardState : (heardState s k c x old).link = (endExchange s k c).link := by
  rw [portOnly_heardState s k c x old]
  rfl

theorem record_heardState_same {old : CarRecord} (had : record s c = some old) :
    record (heardState s k c x old) c = some (heard s c x old) := by
  rw [record_of_portOnly (portOnly_heardState s k c x old), record_alterCar_same, record_endExchange_same, had]
  rfl

theorem record_heardState_other {d : CarId} (other : d ≠ c) : record (heardState s k c x old) d = record s d := by
  rw [record_of_portOnly (portOnly_heardState s k c x old), record_alterCar_other _ _ other, record_endExchange_other _ _ other]

theorem carLink_heardState_same : carLink (heardState s k c x old) c = endedLink s (carLink s c) := by
  rw [← carLink_endExchange_same s k c]
  unfold carLink
  rw [link_heardState]

theorem carLink_heardState_other {d : CarId} (other : d ≠ c) : carLink (heardState s k c x old) d = carLink s d := by
  rw [← carLink_endExchange_other s k other]
  unfold carLink
  rw [link_heardState]

theorem linkLine_of_link {s t : State} (same : t.link = s.link) (k : Link) : linkLine t k = linkLine s k := by
  cases k <;> simp only [linkLine, same]

theorem linkLine_heardState_same : (linkLine (heardState s k c x old) k).exchange = none := by
  rw [linkLine_of_link (link_heardState s k c x old)]
  exact linkLine_endExchange_same s k c

theorem fixed_heardState : (heardState s k c x old).fixed = s.fixed :=
  closed_reportPosition (closed_fixed _) (fixed_endExchange s k c)

end

/-! ## A reply to a poll in WATCHING -/

theorem handOccupancy_of_other {w : Work} {c : CarId} {old new : CarRecord} (not_queued : old.state ≠ .queued)
    (not_staged : old.state ≠ .staged) : handOccupancy w c old new = w := by
  unfold handOccupancy
  split
  · rename_i state; exact absurd state not_queued
  · rename_i state; exact absurd state not_staged
  · rfl

theorem entrylessRules_of_watching {w : Work} (watching : w.st.plan.state = .watching) (c : CarId) (r : CarRecord) (changed : Bool) :
    entrylessRules w c r changed = unruled w := by
  simp [entrylessRules, watching, evaluates, adopts]

theorem handSheds_of_none {w : Work} (none : w.nt.sheds = []) : handSheds w = w := by
  obtain ⟨st, nt⟩ := w
  obtain ⟨rs, ss, sheds⟩ := nt
  cases none
  rfl

/-- The report of a reply queued, and nothing more. -/
theorem portOnly_reportReply (s : State) (c : CarId) (old : CarRecord) (rule : Option CarCause) (j : Judged) (decline : Option Decline) :
    PortOnly s (reportReply s c old rule j decline) := by
  unfold reportReply
  split
  · extract_lets cause
    split
    · exact portOnly_queueReport _ _
    · exact PortOnly.refl s
  · exact PortOnly.refl s

theorem isFirstContact_of_watching {s : State} {c : CarId} {r : CarRecord} (watching : s.plan.state = .watching) (idle : r.state = .idle) :
    isFirstContact s c r = false := by
  simp [isFirstContact, watching, idle]

theorem record_handOccupancy (w : Work) (c d : CarId) (old new : CarRecord) : record (handOccupancy w c old new).st d = record w.st d := by
  unfold handOccupancy
  split
  · split
    · unfold reorderItem
      split
      · split <;> rfl
      · rfl
    · rfl
  · split
    · unfold recomputeStaged
      split <;> rfl
    · rfl
  · rfl

theorem driven_reports {s t : State} (h : t = { s with link := t.link, inds := t.inds }) : t.port = s.port := by rw [h]

theorem granting_eq_false {s : State} (not_granting : ¬ Granting s) : granting s = false := by
  rw [← Bool.not_eq_true]
  intro grants
  simp only [granting, Bool.or_eq_true, beq_iff_eq] at grants
  exact not_granting grants

/-- An event in WATCHING with UTIL present ends with the arbiters and the lines, after a renewal where there is one. -/
theorem complete_of_watching_util {w : Work} (watching : w.st.plan.state = .watching) (util : effective w.st utilLine = .active)
    (renew : Option CarId) : completeWith w renew = driveLines (arbiters (renewFor w.st renew)) :=
  completeWith_of_resting (PlanMoves.planExit_watching watching util)
    (granting_eq_false (by rintro (state | state) <;> exact absurd (watching.symm.trans state) (by decide))) renew

theorem carLink_driven (s : State) (c : CarId) (renew : Option CarId) :
    carLink (driveLines (arbiters (renewFor s renew))) c = carLink (arbiters (renewFor s renew)) c := rfl

/-- What the arbiters never touch of a car's link. -/
theorem arbiters_counts (s : State) (c : CarId) : (carLink (arbiters s) c).missed = (carLink s c).missed
    ∧ (carLink (arbiters s) c).lastEnd = (carLink s c).lastEnd ∧ (carLink (arbiters s) c).silentHold = (carLink s c).silentHold
    ∧ (carLink (arbiters s) c).nextTag = (carLink s c).nextTag := by
  obtain same | ⟨cmd, _, sent, _⟩ := carLink_arbiters s c
  · rw [same]; exact ⟨rfl, rfl, rfl, rfl⟩
  · rw [sent]; exact ⟨rfl, rfl, rfl, rfl⟩

/-- Settles O20. -/
theorem watchingPollReply : Obligations.WatchingPollReply := by
  intro s k c r old watching util census out had idle valid
  obtain ⟨a, authority, _⟩ := exists_status valid
  have runs := exec_of_valid (x := ⟨c, .poll⟩) out valid had authority
  obtain ⟨h, made⟩ : ∃ h, h = heardState s k c (carried r a) old := ⟨_, rfl⟩
  have side : ReplySide s h := made ▸ replySide_heardState _ _ _ _ _
  have plan : h.plan = s.plan := by rw [made, plan_heardState, countedPlan_of_none c (by rw [census]; decide)]
  have rec_c : record h c = some (heard s c (carried r a) old) := by rw [made]; exact record_heardState_same s k c _ had
  have rec_d : ∀ d, d ≠ c → record h d = record s d := by rw [made]; exact fun d other => record_heardState_other s k c _ _ other
  have link : carLink h c = endedLink s (carLink s c) := by rw [made]; exact carLink_heardState_same _ _ _ _ _
  have fixed : h.fixed = s.fixed := by rw [made]; exact fixed_heardState _ _ _ _ _
  have applied : applyStatus (begin (endExchange s k c)) c (carried r a) = begin h := by
    rw [applyStatus_eq had, made]
    exact handOccupancy_of_other (by rw [show ({ old with linkStatus := LinkStatus.inContact } : CarRecord).state = .idle from idle]; decide)
      (by rw [show ({ old with linkStatus := LinkStatus.inContact } : CarRecord).state = .idle from idle]; decide)
  have ruled : statusRules (begin h) c old (isFirstContact s c old) (carried r a) = unruled (begin h) := by
    have here : record (begin h).st c = some (heard s c (carried r a) old) := rec_c
    have rules := entrylessRules_of_watching (w := begin h) (by rw [← watching, ← plan]; rfl) c (heard s c (carried r a) old)
    simp only [statusRules, here, isFirstContact_of_watching watching idle, idle, rules] <;> rfl
  have handed : handReply (begin (endExchange s k c)) c old (isFirstContact s c old) .poll r.verdict (carried r a)
      = begin (reportReply h c old none (noVerdict (begin h)) none) := by
    unfold handReply
    rw [applied, ruled]
    exact handSheds_of_none rfl
  obtain ⟨u, made_u⟩ : ∃ u, u = reportReply h c old none (noVerdict (begin h)) none := ⟨_, rfl⟩
  have port : PortOnly h u := by rw [made_u]; exact portOnly_reportReply _ _ _ _ _ _
  have fixed_u : u.fixed = s.fixed := by
    rw [← fixed, made_u]
    exact closed_reportReply (closed_fixed h.fixed) rfl
  have ends : completeWith (begin u) none = driveLines (arbiters u) := complete_of_watching_util
    (by show u.plan.state = _; rw [port]; exact (congrArg PlanCtl.state plan).trans watching)
    (by rw [← util]; exact effective_of_fixed fixed_u _) none
  have runs' : exec (.carReply k r) s = .next (driveLines (arbiters u)) := by
    rw [runs, handed, ← made_u, ← ends]
    rfl
  obtain ⟨t, driven, leaves⟩ := driven_eq u
  have fixed_t : t.fixed = s.fixed := by rw [← fixed_u, leaves]; rfl
  obtain ⟨settings, host, cap⟩ := kept_of_fixed_eq fixed_t
  have record_t : ∀ d, record t d = record h d := by
    intro d
    unfold record
    rw [leaves, port]
    rfl
  have link_t : t.link = (arbiters u).link := by rw [leaves]
  obtain ⟨missed, lastEnd, hold, _⟩ := arbiters_counts u c
  have link_u : carLink u c = endedLink s (carLink s c) := by rw [carLink_of_portOnly port, link]
  refine ⟨t, _, by rw [runs', driven], settings, host, ⟨?_, ?_, ?_, ?_, ?_⟩, cap, fun d other => (record_t d).trans (rec_d d other),
    (record_t c).trans rec_c, idle, rfl, rfl, rfl, rfl, ?_, ?_, ?_⟩
  · rw [leaves, port, side]; rfl
  · rw [leaves, port, side]; rfl
  · rw [leaves, port, side]; rfl
  · rw [leaves, port]; exact plan
  · rw [leaves, port, side]; rfl
  · rw [link_t]; exact missed.trans (by rw [link_u]; rfl)
  · rw [link_t]; exact lastEnd.trans (by rw [link_u]; rfl)
  · rw [link_t]; exact hold.trans (by rw [link_u]; rfl)

end Sys2Proof.Proofs.Cars
end
section
/-! PROOFS. A poll missed in WATCHING (R63, R66), and the silence declared at the threshold (R67). -/

namespace Sys2Proof.Proofs.Cars

open Sys2Proof.Machine Sys2Proof.Safety Sys2Proof.Proofs.Upkeep Sys2Proof.Proofs.IndicationLines Sys2Proof.Proofs.Ends
  Sys2Proof.Proofs.Account

/-! ## The exchange ended by a miss -/

/-- The link part of a missed exchange (R63, R66). -/
def missedLink (s : State) (l : CarLink) : CarLink := { l with missed := min 255 (l.missed + 1), lastEnd := s.time }

theorem carLink_endMissed_same (s : State) (k : Link) (c : CarId) : carLink (endMissed s k c) c = missedLink s (carLink s c) := by
  rw [endMissed, carLink_alterLink_same, carLink_setLinkLine, time_setLinkLine]
  rfl

theorem carLink_endMissed_other (s : State) (k : Link) {c d : CarId} (other : d ≠ c) : carLink (endMissed s k c) d = carLink s d := by
  rw [endMissed, carLink_alterLink_other _ _ other, carLink_setLinkLine]

theorem linkOnly_endMissed (s : State) (k : Link) (c : CarId) : LinkOnly s (endMissed s k c) :=
  (linkOnly_setLinkLine s k _).trans (linkOnly_alterLink _ c _)

theorem linkLine_endMissed_same (s : State) (k : Link) (c : CarId) : (linkLine (endMissed s k c) k).exchange = none := by
  rw [endMissed, linkLine_alterLink, linkLine_setLinkLine]

theorem linkLine_endMissed_other (s : State) {j k : Link} (c : CarId) (other : j ≠ k) : linkLine (endMissed s k c) j = linkLine s j := by
  rw [endMissed, linkLine_alterLink, linkLine_setLinkLine_other other]

theorem exec_missedExchange {s : State} {k : Link} {x : Exchange} (out : (linkLine s k).exchange = some x) (order : DropOrder) :
    exec (.missedExchange k order) s = .next (completeWith (handMiss (begin (endMissed s k x.car)) x order)
      (droppedStop (endMissed s k x.car) x)) := by
  show Host.Outcome.next (missExchange s k order) = _
  simp only [missExchange, out]

theorem fixed_of_linkOnly {s t : State} (h : LinkOnly s t) : t.fixed = s.fixed := by rw [h]; rfl

/-! ## Silence of an IDLE car -/

@[simp] theorem carLink_moveCar_other (s : State) {c d : CarId} (st : CarState) (other : d ≠ c) :
    carLink (moveCar s c st) d = carLink s d := by rw [moveCar, carLink_alterLink_other _ _ other, carLink_alterCar]

theorem carLink_moveCar_same (s : State) (c : CarId) (st : CarState) :
    carLink (moveCar s c st) c = (carLink s c).leaveSilent st := by rw [moveCar, carLink_alterLink_same, carLink_alterCar]

theorem carLink_emptySlot_same (s : State) (c : CarId) : carLink (emptySlot s c) c = { carLink s c with slot := none } := by
  rw [emptySlot, removeCommand, carLink_alterLink_same]
  unfold CarLink.dropIf
  split
  · rfl
  · rename_i slot
    cases link : carLink s c
    rw [link] at slot
    cases slot
    rfl

/-- The state once the silence of a car in contact without an entry is declared, before its report (R67). -/
def silencedState (s : State) (c : CarId) : State :=
  emptySlot (moveCar (clearPark (alterCar s c (fun r => { r with linkStatus := .silent })) c) c .absent) c

/-- An IDLE car's record once it is silent (R67). -/
def silenced (old : CarRecord) : CarRecord := { old with state := .absent, linkStatus := .silent, parkOut := false, failure := none }

theorem record_silencedState_same {s : State} {c : CarId} {old : CarRecord} (had : record s c = some old) :
    record (silencedState s c) c = some (silenced old) := by
  show record (moveCar (clearPark (alterCar s c _) c) c .absent) c = _
  rw [record_moveCar_same, clearPark, record_alterCar_same, record_alterCar_same, had]
  rfl

theorem record_silencedState_other (s : State) {c d : CarId} (other : d ≠ c) : record (silencedState s c) d = record s d := by
  show record (moveCar (clearPark (alterCar s c _) c) c .absent) d = _
  rw [record_moveCar_other _ _ other, clearPark, record_alterCar_other _ _ other, record_alterCar_other _ _ other]

theorem carLink_silencedState_same (s : State) (c : CarId) :
    carLink (silencedState s c) c = { carLink s c with slot := none, silentHold := none } := by
  rw [silencedState, carLink_emptySlot_same, carLink_moveCar_same]
  rfl

theorem carLink_silencedState_other (s : State) {c d : CarId} (other : d ≠ c) : carLink (silencedState s c) d = carLink s d := by
  rw [silencedState, emptySlot, removeCommand, carLink_alterLink_other _ _ other, carLink_moveCar_other _ _ other]
  rfl

/-- The CAR-STATE report of a silence. -/
def silenceRep (s : State) (c : CarId) (old : CarRecord) : CarStateReport where
  car := c
  before := old.state
  after := .absent
  cause := .silence
  authority := old.authority
  linkStatus := .silent
  occupied := old.occupied
  holdOut := old.holdOut
  attempts := old.attempts
  failure := none
  faultCode := old.faultCode
  decline := none
  permit := (entryOf s c).map (·.permit)

def silenceReport (s : State) (c : CarId) (old : CarRecord) : Report := .carState (silenceRep s c old)

theorem declareSilence_of_idle {s : State} {c : CarId} {old : CarRecord} (had : record s c = some old) (idle : old.state = .idle)
    (census : s.plan.census = .none) :
    declareSilence (begin s) c = begin (queueReport (silencedState s c) (silenceReport (silencedState s c) c old)) := by
  have counts : countCar (alterCar s c (fun r => { r with linkStatus := .silent })) c
      = alterCar s c (fun r => { r with linkStatus := .silent }) := by
    rw [countCar_eq, countedPlan_of_none]
    · rfl
    · show s.plan.census ≠ _
      rw [census]; decide
  have here : record (begin s).st c = some old := had
  have silent : silenceBy ((begin s).up (fun s => countCar (alterCar s c (fun r => { r with linkStatus := .silent })) c)) c .idle
      = begin (silencedState s c) := by
    show begin (emptySlot (moveCar (clearPark (countCar (alterCar s c _) c) c) c .absent) c) = _
    rw [counts]
    rfl
  have reported : reportCar (silencedState s c) c (some old) .silence none
      = queueReport (silencedState s c) (silenceReport (silencedState s c) c old) := by
    have changed : carChanged old (silenced old) = true := by simp [carChanged, silenced, idle]
    simp only [reportCar, record_silencedState_same had, changed, Bool.true_or, if_true] <;> rfl
  simp only [declareSilence, here, idle, silent]
  exact congrArg begin reported

/-- Settles O21. -/
theorem missedExchangeCounted : Obligations.MissedExchangeCounted := by
  intro s k order c old watching util census out had idle contact
  obtain ⟨h, made⟩ : ∃ h, h = endMissed s k c := ⟨_, rfl⟩
  have runs := exec_missedExchange (x := ⟨c, .poll⟩) out order
  have only : LinkOnly s h := made ▸ linkOnly_endMissed s k c
  have link_c : carLink h c = missedLink s (carLink s c) := by rw [made]; exact carLink_endMissed_same _ _ _
  have link_d : ∀ d, d ≠ c → carLink h d = carLink s d := by rw [made]; exact fun d other => carLink_endMissed_other _ _ other
  have had_h : record h c = some old := (record_of_linkOnly only c).trans had
  have threshold_h : h.setup = s.setup := by rw [only]; rfl
  rw [← made] at runs
  by_cases reaches : min 255 ((s.link.cars.at c).missed + 1) = s.setup.limits.silenceThreshold
  · obtain ⟨v, made_v⟩ : ∃ v, v = silencedState h c := ⟨_, rfl⟩
    obtain ⟨u, made_u⟩ : ∃ u, u = queueReport v (silenceReport v c old) := ⟨_, rfl⟩
    have handed : handMiss (begin h) ⟨c, .poll⟩ order = begin u := by
      have declares : ((carLink (begin h).st c).missed == (begin h).st.setup.limits.silenceThreshold) = true := by
        show ((carLink h c).missed == h.setup.limits.silenceThreshold) = true
        rw [link_c, threshold_h, beq_iff_eq]
        exact reaches
      have empties : ((stateOf (begin h).st c).map emptiesSlot).getD false = true := by
        show ((stateOf h c).map emptiesSlot).getD false = true
        rw [stateOf_eq_some had_h, idle]
        rfl
      have census_h : h.plan.census = .none := by rw [only]; exact census
      unfold handMiss
      simp only [declares, empties, if_true]
      rw [declareSilence_of_idle had_h idle census_h, made_u, made_v]
    have carSide_v : Capacity.CarSide h v := by rw [made_v]; rfl
    have side : Capacity.CarSide s u := by
      rw [made_u]
      exact (Capacity.CarSide.of_linkOnly only).trans (carSide_v.trans (.of_portOnly (portOnly_queueReport _ _)))
    have fixed_u : u.fixed = s.fixed := by
      rw [made_u, queueReport_fixed, ← fixed_of_linkOnly only, made_v]
      rfl
    have ends := complete_of_watching_util (w := begin u) (by show u.plan.state = _; rw [side]; exact watching)
      ((effective_of_fixed fixed_u _).trans util) none
    rw [handed] at runs
    obtain ⟨t, driven, leaves⟩ := driven_eq u
    have fixed_t : t.fixed = s.fixed := by rw [← fixed_u, leaves]; rfl
    obtain ⟨settings, host, cap⟩ := kept_of_fixed_eq fixed_t
    have record_t : ∀ d, record t d = record v d := by
      intro d
      unfold record
      rw [leaves, made_u]
      rfl
    have link_u : ∀ d, carLink u d = carLink v d := by intro d; rw [made_u]; rfl
    have counts : ∀ d, (carLink t d).missed = (carLink v d).missed ∧ (carLink t d).lastEnd = (carLink v d).lastEnd := by
      intro d
      have same : carLink t d = carLink (arbiters u) d := by unfold carLink; rw [leaves]
      obtain ⟨missed, lastEnd, _⟩ := arbiters_counts u d
      rw [same, missed, lastEnd, link_u]
      exact ⟨rfl, rfl⟩
    have link_v : carLink v c = { missedLink s (carLink s c) with slot := none, silentHold := none } := by
      rw [made_v, carLink_silencedState_same, link_c]
    have slot_t : (t.link.cars.at c).slot = none := by
      have same : carLink t c = carLink (arbiters u) c := by unfold carLink; rw [leaves]
      show (carLink t c).slot = none
      obtain stands | ⟨_, _, sent, _⟩ := carLink_arbiters u c
      · rw [same, stands, link_u, link_v]
      · rw [same, sent]
    refine ⟨t, ?_, settings, host, ⟨?_, ?_, ?_, ?_, ?_⟩, cap, ?_, ?_, fun d other => ⟨?_, ?_⟩, fun differs => absurd reaches differs,
      fun _ => ⟨?_, slot_t, silenceRep v c old, ?_, rfl, idle, rfl, rfl, rfl⟩⟩
    · rw [runs, ← driven]
      exact congrArg Host.Outcome.next ends
    · rw [leaves, side]
    · rw [leaves, side]
    · rw [leaves, side]
    · rw [leaves, side]
    · rw [leaves, side]
    · exact (counts c).1.trans (by rw [link_v]; rfl)
    · exact (counts c).2.trans (by rw [link_v]; rfl)
    · rw [record_t, made_v, record_silencedState_other h other, record_of_linkOnly only]
    · refine (counts d).1.trans ?_
      rw [made_v, carLink_silencedState_other h other, link_d d other]
      rfl
    · rw [record_t, made_v, record_silencedState_same had_h]
      rfl
    · have port : v.port = s.port := by
        rw [made_v]
        exact (show (silencedState h c).port = h.port from rfl).trans (by rw [only]; rfl)
      have placed : u.port = v.port.place (.carState (silenceRep v c old)) := by rw [made_u]; rfl
      rw [leaves]
      exact placed.trans (by rw [port])
  · have handed : handMiss (begin h) ⟨c, .poll⟩ order = begin h := by
      have declares : ((carLink (begin h).st c).missed == (begin h).st.setup.limits.silenceThreshold) = false := by
        show ((carLink h c).missed == h.setup.limits.silenceThreshold) = false
        rw [link_c, threshold_h, beq_eq_false_iff_ne]
        exact reaches
      unfold handMiss
      simp only [declares, Bool.false_eq_true, if_false]
      rfl
    have ends := complete_of_watching_util (w := begin h) (by show h.plan.state = _; rw [only]; exact watching)
      ((effective_of_fixed (fixed_of_linkOnly only) _).trans util) none
    rw [handed] at runs
    obtain ⟨t, driven, leaves⟩ := driven_eq h
    have fixed_t : t.fixed = s.fixed := by rw [← fixed_of_linkOnly only, leaves]; rfl
    obtain ⟨settings, host, cap⟩ := kept_of_fixed_eq fixed_t
    have counts : ∀ d, (carLink t d).missed = (carLink h d).missed ∧ (carLink t d).lastEnd = (carLink h d).lastEnd := by
      intro d
      have same : carLink t d = carLink (arbiters h) d := by unfold carLink; rw [leaves]
      obtain ⟨missed, lastEnd, _⟩ := arbiters_counts h d
      rw [same, missed, lastEnd]
      exact ⟨rfl, rfl⟩
    refine ⟨t, ?_, settings, host, ⟨?_, ?_, ?_, ?_, ?_⟩, cap, ?_, ?_, fun d other => ⟨?_, ?_⟩, fun _ => ⟨?_, ?_⟩,
      fun same => absurd same reaches⟩
    · rw [runs, ← driven]
      exact congrArg Host.Outcome.next ends
    · rw [leaves, only]; rfl
    · rw [leaves, only]; rfl
    · rw [leaves, only]; rfl
    · rw [leaves, only]; rfl
    · rw [leaves, only]; rfl
    · exact (counts c).1.trans (by rw [link_c]; rfl)
    · exact (counts c).2.trans (by rw [link_c]; rfl)
    · unfold record
      rw [leaves, only]
      rfl
    · refine (counts d).1.trans ?_
      rw [link_d d other]
      rfl
    · rw [leaves, only]; rfl
    · rw [leaves, only]; rfl

end Sys2Proof.Proofs.Cars
end
section
/-! PROOFS. How an event ends in RETURN and SERVICE while the spacing timer runs (R139): the plan may go from RETURN to SERVICE, cars may
be staged, and nothing is granted or designated. -/

namespace Sys2Proof.Proofs.Pause

open Sys2Proof.Machine Sys2Proof.Safety Sys2Proof.Proofs.Upkeep Sys2Proof.Proofs.IndicationLines Sys2Proof.Proofs.Ends
  Sys2Proof.Proofs.Account Sys2Proof.Proofs.Cars

/-! ## From RETURN to SERVICE -/

theorem carChanged_self (r : CarRecord) : carChanged r r = false := by simp [carChanged]

theorem reportCar_self (s : State) (c : CarId) (cause : CarCause) : reportCar s c (record s c) cause none = s := by
  unfold reportCar
  split
  · rename_i before now was is
    rw [was] at is
    cases is
    simp [carChanged_self]
  · rfl

/-- With no record changed there is nothing to report. -/
theorem reportChanged_self (s : State) (c : CarCause) : reportChanged s s.cars c = s := by
  have step : ∀ cars : List CarId, cars.foldl (fun acc d => reportCar acc d (s.cars.at d) c Option.none) s = s := by
    intro cars
    induction cars with
    | nil => rfl
    | cons d cars ih =>
      rw [List.foldl_cons]
      have stands : reportCar s d (s.cars.at d) c Option.none = s := reportCar_self s d c
      rw [stands, ih]
  exact step _

/-- The state as the plan enters SERVICE from RETURN (R114, R124). -/
def serviceState (s : State) : State :=
  recordRecovered ((queueReport s (planReport s .service .recovered)).setPlan { s.plan with state := .service, enteredAt := s.time })

theorem movedState_service {s : State} (returning : s.plan.state = .returning) :
    movedState s .service .recovered
      = (queueReport s (planReport s .service .recovered)).setPlan { s.plan with state := .service, enteredAt := s.time } := by
  unfold movedState
  simp only [returning, and_self, if_true]
  rfl

theorem transition_service {w : Work} (returning : w.st.plan.state = .returning) :
    transition w .service .recovered = (⟨serviceState w.st, w.nt⟩ : Work).noteBoth := by
  have moved : w.up (fun s => movedState s .service .recovered) = ⟨movedState w.st .service .recovered, w.nt⟩ := rfl
  rw [transition_eq, moved, movedState_service returning]
  show Work.up ⟨serviceState w.st, _⟩ (fun s => reportChanged s w.st.cars .plan) = _
  have same : reportChanged (serviceState w.st) w.st.cars .plan = serviceState w.st :=
    reportChanged_self (serviceState w.st) .plan
  unfold Work.up
  dsimp only
  rw [same]
  rfl

/-- In RETURN and SERVICE, while the generators stay, the one move is from RETURN to SERVICE, with queue and group empty (R113). -/
theorem planRun_of_granting {w : Work} (grants : Granting w.st) (stays : GeneratorStays w.st) : planRun w = w
    ∨ (w.st.ret.queue = [] ∧ w.st.ret.group = [] ∧ w.st.plan.state = .returning
      ∧ planRun w = (⟨serviceState w.st, w.nt⟩ : Work).noteBoth) := by
  by_cases done : w.st.plan.state = .returning ∧ w.st.ret.queue = [] ∧ w.st.ret.group = [] ∧ ∀ e ∈ w.st.acct.entries, e.kind ≠ .returning
  · obtain ⟨returning, queue, group, no_run⟩ := done
    obtain ⟨keeps, available⟩ := (generatorStays_iff w.st).1 stays
    have exits : planExit w.st = some (.service, .recovered) := by
      have none : anyReturnEntry w.st = false := (anyReturnEntry_eq_false_iff w.st).2 no_run
      simp [planExit, returning, keeps, available, queue, group, none]
    have moved := transition_service returning
    have stays' : GeneratorStays (transition w .service .recovered).st :=
      generatorStays_of_fixed (transition_fixed w .service .recovered) stays
    have rests : planExit (transition w .service .recovered).st = Option.none :=
      planExit_of_granting (.inr (transition_plan_state w _ _)) stays' fun state => by
        rw [transition_plan_state] at state
        cases state
    exact .inr ⟨queue, group, returning, by rw [planRun_of_exit exits rests, moved]⟩
  · refine .inl (planRun_of_noExit (planExit_of_granting grants stays fun returning ⟨queue, group, no_run⟩ => ?_))
    exact done ⟨returning, queue, group, no_run⟩

/-! ## What the grant work leaves while nothing is granted -/

/-- A state as the work of the granting blocks leaves it when they grant nothing: cars of the queue may have been staged, and the plan may
have gone from RETURN to SERVICE. -/
structure Granted (u v : State) : Prop where
  fixed : v.fixed = u.fixed
  acct : v.acct = u.acct
  hist : v.hist = u.hist
  svc : v.svc = u.svc
  plan : v.plan = { u.plan with state := v.plan.state, enteredAt := v.plan.enteredAt, outage := v.plan.outage }
  state : v.plan.state = u.plan.state ∨ (Granting u ∧ v.plan.state = .service)
  spacing : v.ret.spacing = u.ret.spacing
  seq : v.ret.nextSeq = u.ret.nextSeq
  queue : ∀ x ∈ v.ret.queue, x ∈ u.ret.queue
  group : ∀ x ∈ v.ret.group, x ∈ u.ret.group ∨ ∃ q ∈ u.ret.queue, q.car = x.car
  cars : ∀ d, (record v d = record u d ∧ carLink v d = carLink u d ∧ ∀ q ∈ u.ret.queue, q.car = d → q ∈ v.ret.queue)
    ∨ ((∃ q ∈ u.ret.queue, q.car = d) ∧ record v d = (record u d).map (CarRecord.goTo .staged)
      ∧ carLink v d = (carLink u d).leaveSilent .staged)
  lines : ∀ k, linkLine v k = linkLine u k
  reports : QueuedFirst u [] v

theorem Granted.refl (u : State) : Granted u u where
  fixed := rfl
  acct := rfl
  hist := rfl
  svc := rfl
  plan := rfl
  state := .inl rfl
  spacing := rfl
  seq := rfl
  queue _ mem := mem
  group _ mem := .inl mem
  cars _ := .inl ⟨rfl, rfl, fun _ mem _ => mem⟩
  lines _ := rfl
  reports := ⟨[], reportsQueued_refl u⟩

theorem goTo_goTo (r : CarRecord) (st : CarState) (settled : st ≠ .failed) : (r.goTo st).goTo st = r.goTo st := by
  simp [CarRecord.goTo, settled]

theorem leaveSilent_leaveSilent (l : CarLink) (st : CarState) : (l.leaveSilent st).leaveSilent st = l.leaveSilent st := by
  unfold CarLink.leaveSilent
  split <;> rfl

/-- The queue's car staged, its report apart (R140). -/
def stagedState (s : State) (x : QueueItem) : State :=
  moveCar (s.setRet { s.ret with
    queue := s.ret.queue.filter (fun y => y.car != x.car), group := s.ret.group ++ [⟨x.car, figuresFor s x.car⟩] }) x.car .staged

theorem stageCar_eq (s : State) (x : QueueItem) :
    stageCar s x = reportCar (stagedState s x) x.car (record s x.car) .grant none := rfl

theorem portOnly_stageCar (s : State) (x : QueueItem) : PortOnly (stagedState s x) (stageCar s x) := portOnly_reportCar _ _ _ _ _

theorem linkLine_of_portOnly {s t : State} (h : PortOnly s t) (k : Link) : linkLine t k = linkLine s k :=
  linkLine_of_link (by rw [h]; rfl) k

theorem granted_stageCar {u v : State} {x : QueueItem} (h : Granted u v) (mem : x ∈ u.ret.queue) : Granted u (stageCar v x) := by
  have port := portOnly_stageCar v x
  have ret : (stageCar v x).ret = { v.ret with
      queue := v.ret.queue.filter (fun y => y.car != x.car), group := v.ret.group ++ [⟨x.car, figuresFor v x.car⟩] } := by
    rw [port]; rfl
  have plan : (stageCar v x).plan = v.plan := by rw [port]; rfl
  refine ⟨?_, by rw [port]; exact h.acct, by rw [port]; exact h.hist, by rw [port]; exact h.svc, by rw [plan]; exact h.plan,
    by rw [plan]; exact h.state, by rw [ret]; exact h.spacing, by rw [ret]; exact h.seq, fun y here => ?_, fun y here => ?_,
    fun d => ?_, fun k => ?_, ?_⟩
  · rw [← h.fixed]
    exact closed_stageCar (closed_fixed _) rfl
  · rw [ret] at here
    exact h.queue y (List.mem_filter.1 here).1
  · rw [ret] at here
    rcases List.mem_append.1 here with there | new
    · exact h.group y there
    · rw [List.mem_singleton.1 new]
      exact .inr ⟨x, mem, rfl⟩
  · have record_d : record (stageCar v x) d = record (stagedState v x) d := record_of_portOnly port d
    have link_d : carLink (stageCar v x) d = carLink (stagedState v x) d := carLink_of_portOnly port d
    rw [record_d, link_d]
    by_cases here : d = x.car
    · subst here
      have staged : record (stagedState v x) x.car = (record v x.car).map (CarRecord.goTo .staged) := record_moveCar_same _ _ _
      have left : carLink (stagedState v x) x.car = (carLink v x.car).leaveSilent .staged := carLink_moveCar_same _ _ _
      refine .inr ⟨⟨x, mem, rfl⟩, ?_⟩
      rw [staged, left]
      rcases h.cars x.car with ⟨same, link, _⟩ | ⟨_, same, link⟩
      · rw [same, link]; exact ⟨rfl, rfl⟩
      · rw [same, link, leaveSilent_leaveSilent, Option.map_map]
        refine ⟨congrArg (fun f => (record u x.car).map f) (funext fun r => goTo_goTo r .staged (by decide)), rfl⟩
    · have same_d : record (stagedState v x) d = record v d := record_moveCar_other _ _ here
      have link_v : carLink (stagedState v x) d = carLink v d := carLink_moveCar_other _ _ here
      rw [same_d, link_v]
      rcases h.cars d with ⟨same, link, keeps⟩ | moved
      · refine .inl ⟨same, link, fun q queued car => ?_⟩
        rw [ret]
        exact List.mem_filter.2 ⟨keeps q queued car, bne_iff_ne.2 (by rw [car]; exact here)⟩
      · exact .inr moved
  · rw [linkLine_of_portOnly port, ← h.lines k]
    rfl
  · have staged : QueuedFirst u [] (stagedState v x) := (closed_queuedFirst u []).link ((closed_queuedFirst u []).car (fun _ => rfl)
      ((closed_queuedFirst u []).ret h.reports))
    exact closed_reportCar (closed_queuedFirst u []) staged

theorem granted_foldl {u : State} : ∀ {cars : List QueueItem} {v : State}, Granted u v → (∀ x ∈ cars, x ∈ u.ret.queue) →
    Granted u (cars.foldl stageCar v)
  | [], _, h, _ => h
  | x :: cars, v, h, listed => by
    rw [List.foldl_cons]
    exact granted_foldl (granted_stageCar h (listed x List.mem_cons_self)) fun y mem => listed y (List.mem_cons_of_mem _ mem)

theorem granted_stage (w : Work) : Granted w.st (stage w).st := by
  unfold stage
  split
  · exact granted_foldl (Granted.refl _) fun x mem => List.mem_of_mem_take mem
  · exact Granted.refl _

theorem granted_serviceState {s : State} (returning : s.plan.state = .returning) : Granted s (serviceState s) where
  fixed := queueReport_fixed s _
  acct := rfl
  hist := rfl
  svc := rfl
  plan := rfl
  state := .inr ⟨.inl returning, rfl⟩
  spacing := rfl
  seq := rfl
  queue _ mem := mem
  group _ mem := .inl mem
  cars _ := .inl ⟨rfl, rfl, fun _ mem _ => mem⟩
  lines _ := rfl
  reports := ⟨[planReport s .service .recovered], reportsQueued_of_port (reportsQueued_report (reportsQueued_refl s) _) rfl rfl⟩

/-! ## The work of the granting blocks -/

theorem spacing_not_isNone {s : State} (spaced : s.ret.spacing ≠ none) : s.ret.spacing.isNone = false := by
  rwa [← Bool.not_eq_true, Option.isNone_iff_eq_none]

theorem selectorWork_of_spaced {w : Work} (spaced : w.st.ret.spacing ≠ none) : selectorWork w = w := by
  simp [selectorWork, Counts.maySelect_of_spaced spaced]

theorem grantAttempt_of_spaced {w : Work} (spaced : w.st.ret.spacing ≠ none) : grantAttempt w = w := by
  simp [grantAttempt, mayAttempt, spacing_not_isNone spaced]

theorem sequencerWork_of_spaced {w : Work} (spaced : w.st.ret.spacing ≠ none) : sequencerWork w = w ∨ sequencerWork w = stage w := by
  unfold sequencerWork
  split
  · split
    · exact .inl (grantAttempt_of_spaced spaced)
    · have still : (stage w).st.ret.spacing ≠ none := by rw [(granted_stage w).spacing]; exact spaced
      have waits : (readiness (stage w).st).all = false := by
        simp [Readiness.all, readiness, spacing_not_isNone still]
      simp [waits]
  · exact .inl rfl

theorem stage_of_empty {w : Work} (queue : w.st.ret.queue = []) : stage w = w := by
  simp [stage, queue]

/-- While the spacing timer runs, the granting blocks grant and designate nothing (R136, R139, R156). -/
theorem granted_grantWork {w : Work} (grants : Granting w.st) (stays : GeneratorStays w.st) (spaced : w.st.ret.spacing ≠ none) :
    Granted w.st (grantWork w).st := by
  have ends : ∀ v : Work, v.st.ret.spacing ≠ none → planRun w = v →
      (grantWork w).st = v.st ∨ (grantWork w).st = (stage v).st := by
    intro v still runs
    have selects : ∀ x : Work, x.st.ret.spacing ≠ none → (if x.nt.ss then selectorWork x else x) = x := by
      intro x sp
      rw [selectorWork_of_spaced sp, ite_self]
    unfold grantWork
    rw [runs]
    dsimp only
    have staged : (stage v).st.ret.spacing ≠ none := by rw [(granted_stage v).spacing]; exact still
    split
    · obtain same | same := sequencerWork_of_spaced still
      · rw [same, selects v still]; exact .inl rfl
      · rw [same, selects _ staged]; exact .inr rfl
    · rw [selects v still]; exact .inl rfl
  obtain same | ⟨queue, _, returning, moved⟩ := planRun_of_granting grants stays
  · obtain done | done := ends w spaced same
    · rw [done]; exact Granted.refl _
    · rw [done]; exact granted_stage w
  · have empty : ((⟨serviceState w.st, w.nt⟩ : Work).noteBoth).st.ret.queue = [] := queue
    have base := granted_serviceState returning
    obtain done | done := ends ((⟨serviceState w.st, w.nt⟩ : Work).noteBoth) spaced moved
    · rw [done]; exact base
    · rw [done, stage_of_empty empty]; exact base

end Sys2Proof.Proofs.Pause
end
section
/-! PROOFS. One car's entry under the account's operations: entering, converting, releasing; what shedding never touches (R90, R94, R97,
R98). -/

namespace Sys2Proof.Proofs.Cars

open Sys2Proof.Machine Sys2Proof.Safety Sys2Proof.Proofs.Upkeep Sys2Proof.Proofs.IndicationLines Sys2Proof.Proofs.Ends
  Sys2Proof.Proofs.Account Sys2Proof.Proofs.Capacity

/-! ## What shedding never touches -/

/-- A car holds no entry that R97 would move: shedding leaves it (R101). -/
def Unmovable (s : State) (c : CarId) : Prop := ∀ e, entryOf s c = some e → e.movable = false

theorem entryOf_moveToStop_of_unmovable {w : Work} {c : CarId} (fast : Unmovable w.st c) (d : CarId) (cause : StopCause) :
    entryOf (moveToStop w d cause).st c = entryOf w.st c := by
  have changed : ∀ e, entryOf w.st d = some e → e.movable = true →
      entryOf (w.st.setAcct (w.st.acct.change d (Entry.toStop cause))) c = entryOf w.st c := by
    intro e found movable
    rw [entryOf_change (f := Entry.toStop cause) (fun _ => rfl), if_neg]
    rintro rfl
    rw [fast e found] at movable
    cases movable
  rcases moveToStop_cases w d cause with stands | ⟨e, found, movable, ⟨_, moved⟩ | ⟨_, moved⟩⟩
  · rw [stands]
  · rw [moved]; exact changed e found movable
  · rw [moved]; exact changed e found movable

theorem entryOf_shedAll_of_unmovable {w : Work} {c : CarId} (fast : Unmovable w.st c) (chosen : List Entry) :
    entryOf (shedAll w chosen).st c = entryOf w.st c :=
  closed_foldl (Q := fun v : Work => entryOf v.st c = entryOf w.st c)
    (fun v _ same => (entryOf_moveToStop_of_unmovable (w := v) (fun x found => fast x (same ▸ found)) _ _).trans same) rfl

theorem entryOf_shedDraw_of_unmovable {w : Work} {c : CarId} (fast : Unmovable w.st c) :
    entryOf (shedDraw w).1.st c = entryOf w.st c := by
  unfold shedDraw
  split
  · exact entryOf_shedAll_of_unmovable fast _
  · rfl

theorem entryOf_shedRegen_of_unmovable {w : Work} {c : CarId} (fast : Unmovable w.st c) :
    entryOf (shedRegen w).1.st c = entryOf w.st c := by
  unfold shedRegen
  split
  · exact entryOf_shedAll_of_unmovable fast _
  · rfl

theorem entryOf_settleAccount_of_unmovable {w : Work} {c : CarId} (fast : Unmovable w.st c) (eased : Bool) :
    entryOf (settleAccount w eased).st c = entryOf w.st c := by
  have draw : entryOf (shedDraw (flaggedWork w)).1.st c = entryOf w.st c := entryOf_shedDraw_of_unmovable (w := flaggedWork w) fast
  have regen : entryOf (shedRegen (shedDraw (flaggedWork w)).1).1.st c = entryOf w.st c :=
    (entryOf_shedRegen_of_unmovable fun e found => fast e (draw ▸ found)).trans draw
  rw [← regen]
  unfold entryOf
  rw [settleAccount_acct]
  rfl

/-! ## The table with an entry more or less -/

theorem entryOf_add_same {s : State} {e : Entry} (none : entryOf s e.car = none) :
    entryOf (s.setAcct (s.acct.add e)) e.car = some { e with permit := takenPermit s.acct } := by
  have here : (s.acct.entries ++ [{ e with permit := takenPermit s.acct }]).find? (fun x => x.car == e.car)
      = some { e with permit := takenPermit s.acct } := by
    rw [List.find?_append, show s.acct.entries.find? (fun x => x.car == e.car) = Option.none from none]
    simp
  exact here

theorem entryOf_add_other (s : State) {e : Entry} {d : CarId} (other : d ≠ e.car) : entryOf (s.setAcct (s.acct.add e)) d = entryOf s d := by
  have here : (s.acct.entries ++ [{ e with permit := takenPermit s.acct }]).find? (fun x => x.car == d)
      = s.acct.entries.find? (fun x => x.car == d) := by
    rw [List.find?_append]
    simp [Ne.symm other]
  exact here

theorem find?_eraseP_same {c : CarId} : ∀ {es : List Entry}, (es.map (·.car)).Nodup →
    (es.eraseP (fun e => e.car == c)).find? (fun e => e.car == c) = none
  | [], _ => rfl
  | e :: es, distinct => by
    obtain ⟨fresh, distinct⟩ := List.nodup_cons.1 distinct
    cases hit : e.car == c with
    | true =>
      rw [List.eraseP_cons_of_pos (p := fun e : Entry => e.car == c) hit, List.find?_eq_none]
      intro x mem same
      exact fresh (List.mem_map.2 ⟨x, mem, (beq_iff_eq.1 same).trans (beq_iff_eq.1 hit).symm⟩)
    | false =>
      rw [List.eraseP_cons_of_neg (by rw [hit]; decide), List.find?_cons, hit]
      exact find?_eraseP_same distinct

theorem find?_eraseP_other {c d : CarId} (other : d ≠ c) : ∀ es : List Entry,
    (es.eraseP (fun e => e.car == c)).find? (fun e => e.car == d) = es.find? (fun e => e.car == d)
  | [] => rfl
  | e :: es => by
    cases hit : e.car == c with
    | true =>
      have miss : (e.car == d) = false := beq_eq_false_iff_ne.2 fun same => other (same.symm.trans (beq_iff_eq.1 hit))
      rw [List.eraseP_cons_of_pos (p := fun e : Entry => e.car == c) hit, List.find?_cons, miss]
    | false =>
      rw [List.eraseP_cons_of_neg (by rw [hit]; decide), List.find?_cons, List.find?_cons, find?_eraseP_other other es]

theorem entryOf_remove_same {s : State} (cars : OneEntryPerCar s) (c : CarId) : entryOf (s.setAcct (s.acct.remove c)) c = none := by
  unfold entryOf
  rw [State.setAcct_acct, remove_entries]
  exact find?_eraseP_same cars

theorem entryOf_remove_other (s : State) {c d : CarId} (other : d ≠ c) : entryOf (s.setAcct (s.acct.remove c)) d = entryOf s d := by
  unfold entryOf
  rw [State.setAcct_acct, remove_entries]
  exact find?_eraseP_other other _

theorem remove_totals {s : State} {c : CarId} {e : Entry} (found : entryOf s c = some e) :
    (s.acct.remove c).kd = s.acct.kd - e.draw ∧ (s.acct.remove c).kr = s.acct.kr - e.regen := by
  have here : s.acct.entries.find? (fun e => e.car == c) = some e := found
  simp only [Account.remove, here, and_self]

/-! ## Steps of the account for one car -/

/-- Two states that differ in the account, the links, the reports, the history and the selector alone. -/
def AccountSide (s t : State) : Prop := t = { s with acct := t.acct, port := t.port, hist := t.hist, svc := t.svc, link := t.link }

theorem AccountSide.refl (s : State) : AccountSide s s := rfl

theorem AccountSide.trans {s t u : State} (h : AccountSide s t) (g : AccountSide t u) : AccountSide s u := by
  unfold AccountSide at *; rw [g, h]

theorem AccountSide.of_only {s t : State} (h : AccountOnly s t) : AccountSide s t := by
  unfold AccountOnly at h; unfold AccountSide; rw [h]

theorem AccountSide.of_linkOnly {s t : State} (h : LinkOnly s t) : AccountSide s t := by
  unfold LinkOnly at h; unfold AccountSide; rw [h]; rfl

theorem AccountSide.cars {s t : State} (h : AccountSide s t) : t.cars = s.cars := by rw [h]

theorem AccountSide.record {s t : State} (h : AccountSide s t) (d : CarId) : Machine.record t d = Machine.record s d := by
  unfold Machine.record
  rw [h.cars]

theorem AccountSide.plan {s t : State} (h : AccountSide s t) : t.plan = s.plan := by rw [h]

theorem AccountSide.ret {s t : State} (h : AccountSide s t) : t.ret = s.ret := by rw [h]

theorem AccountSide.setup {s t : State} (h : AccountSide s t) : t.setup = s.setup := by rw [h]

theorem AccountSide.time {s t : State} (h : AccountSide s t) : t.time = s.time := by rw [h]

theorem AccountSide.cap {s t : State} (h : AccountSide s t) : t.cap = s.cap := by rw [h]

/-- A designation ended with its entry (R155). -/
def undesignated (s : State) (c : CarId) (e : Entry) : State := if e.designates then endDesignation s c else s

theorem undesignated_svc (s : State) (c : CarId) (e : Entry) :
    undesignated s c e = s.setSvc { s.svc with records := (undesignated s c e).svc.records } := by
  unfold undesignated
  split <;> rfl

/-- The commands that belong to an entry being released (R59). -/
def ownCommands (e : Entry) (k : CmdKind) : Bool :=
  k == .stopNext || ((e.kind == .returning || e.kind == .service) && isGrantCommand k)

/-- The state with a car's entry taken out, before the event is completed in the account (R98). -/
def releasedState (s : State) (c : CarId) (e : Entry) : State :=
  (undesignated (removeCommand s c (ownCommands e)) c e).setAcct (s.acct.remove c)

theorem releaseEntry_eq {w : Work} {c : CarId} {e : Entry} (found : entryOf w.st c = some e) : ∃ nt : Notes,
    releaseEntry w c = settleAccount ⟨releasedState w.st c e, nt⟩ true ∧ nt.rs = w.nt.rs := by
  have own : (fun k => k == CmdKind.stopNext || ((e.kind == .returning || e.kind == .service) && isGrantCommand k)) = ownCommands e := rfl
  simp only [releaseEntry, found, own]
  unfold releasedState undesignated
  split
  · exact ⟨_, rfl, rfl⟩
  · exact ⟨_, rfl, rfl⟩

theorem accountSide_releasedState (s : State) (c : CarId) (e : Entry) : AccountSide s (releasedState s c e) := by
  unfold releasedState
  rw [undesignated_svc]
  rfl

theorem carLink_releasedState_same (s : State) (c : CarId) (e : Entry) :
    carLink (releasedState s c e) c = (carLink s c).dropIf (ownCommands e) := by
  unfold releasedState
  rw [undesignated_svc]
  exact carLink_alterLink_same s c _

theorem carLink_releasedState_other (s : State) {c d : CarId} (e : Entry) (other : d ≠ c) :
    carLink (releasedState s c e) d = carLink s d := by
  unfold releasedState
  rw [undesignated_svc]
  exact carLink_alterLink_other s _ other

theorem linkLine_releasedState (s : State) (c : CarId) (e : Entry) (k : Link) : linkLine (releasedState s c e) k = linkLine s k := by
  unfold releasedState
  rw [undesignated_svc]
  exact linkLine_alterLink s c _ k

theorem linkLine_settleAccount (w : Work) (eased : Bool) (k : Link) : linkLine (settleAccount w eased).st k = linkLine w.st k :=
  linkLine_of_link (settleAccount_link w eased) k

theorem carLink_settleAccount (w : Work) (eased : Bool) (c : CarId) : carLink (settleAccount w eased).st c = carLink w.st c := by
  unfold carLink
  rw [settleAccount_link]

/-- A release: the entry is gone, its obsolete commands are, and the totals fall by its reservations (R98, R59, R92). -/
structure Freed (w v : Work) (c : CarId) (e : Entry) : Prop where
  side : AccountSide w.st v.st
  entry : entryOf v.st c = none
  kd : v.st.acct.kd = w.st.acct.kd - e.draw
  kr : v.st.acct.kr = w.st.acct.kr - e.regen
  link : carLink v.st c = (carLink w.st c).dropIf (ownCommands e)
  links : ∀ d, d ≠ c → carLink v.st d = carLink w.st d
  lines : ∀ k, linkLine v.st k = linkLine w.st k
  permits : v.st.acct.entries.map (·.permit) = (w.st.acct.remove c).entries.map (·.permit)
  cars : OneEntryPerCar v.st
  totals : TotalsMatch v.st

theorem freed_releaseEntry {w : Work} {c : CarId} {e : Entry} (found : entryOf w.st c = some e) (cars : OneEntryPerCar w.st)
    (totals : TotalsMatch w.st) : Freed w (releaseEntry w c) c e := by
  obtain ⟨nt, released, _⟩ := releaseEntry_eq found
  have acct : (releasedState w.st c e).acct = w.st.acct.remove c := rfl
  have gone : entryOf (releasedState w.st c e) c = none := entryOf_remove_same cars c
  have fast : Unmovable (releasedState w.st c e) c := fun x here => by rw [gone] at here; cases here
  have sums : TotalsMatch (releasedState w.st c e) := summed_remove totals c
  obtain ⟨sums', kd, kr, _⟩ := flagsStand_settleAccount (w := ⟨releasedState w.st c e, nt⟩) sums true
  have one : ((releasedState w.st c e).acct.entries.map (·.car)).Nodup := by
    rw [acct, remove_entries]
    exact cars.sublist (List.eraseP_sublist.map _)
  rw [released]
  refine ⟨(accountSide_releasedState _ _ _).trans (.of_only (accountOnly_settleAccount _ _)),
    (entryOf_settleAccount_of_unmovable fast true).trans gone, kd.trans (remove_totals found).1, kr.trans (remove_totals found).2,
    ?_, fun d other => ?_, fun k => ?_, ?_, ?_, sums'⟩
  · rw [carLink_settleAccount]; exact carLink_releasedState_same _ _ _
  · rw [carLink_settleAccount]; exact carLink_releasedState_other _ _ other
  · rw [linkLine_settleAccount]; exact linkLine_releasedState _ _ _ _
  · exact entries_settleAccount (g := fun x : Entry => x.permit) (fun _ _ => rfl) _ true
  · show ((settleAccount _ true).st.acct.entries.map (fun x : Entry => x.car)).Nodup
    rw [entries_settleAccount (g := fun x : Entry => x.car) (fun _ _ => rfl) _ true]
    exact one

/-- An entry entered without the tests (R94): STANDING or ADOPTED, with WORST figures. -/
theorem entryOf_enterUntested {w : Work} {c : CarId} (none : entryOf w.st c = none) (adopted : Bool) :
    entryOf (enterUntested w c adopted).st c
      = some { untestedEntry w.st c adopted with permit := takenPermit w.st.acct } := by
  have free : (entryOf w.st (untestedEntry w.st c adopted).car).isSome = false := by
    show (entryOf w.st c).isSome = false
    rw [none]; rfl
  have added : entryOf (w.up (fun s => s.setAcct (s.acct.add (untestedEntry w.st c adopted)))).st c
      = some { untestedEntry w.st c adopted with permit := takenPermit w.st.acct } := entryOf_add_same (e := untestedEntry w.st c adopted) none
  unfold enterUntested enterEntry
  rw [if_neg (by rw [free]; decide), entryOf_settleAccount_of_unmovable _ false, added]
  intro e found
  rw [added] at found
  rw [← Option.some.inj found]
  cases adopted <;> rfl

theorem accountSide_enterEntry (w : Work) (e : Entry) : AccountOnly w.st (enterEntry w e).st := by
  unfold enterEntry
  split
  · exact AccountOnly.refl _
  · exact AccountOnly.trans (show AccountOnly w.st (w.up (fun s => s.setAcct (s.acct.add e))).st from rfl) (accountOnly_settleAccount _ _)

theorem enterEntry_link (w : Work) (e : Entry) : (enterEntry w e).st.link = w.st.link := by
  rw [accountSide_enterEntry w e]

end Sys2Proof.Proofs.Cars
end
section
/-! PROOFS. From the rules' work on one car to the completed event: the other cars' shed entries handed on, the work of the granting
blocks where they rest, the arbiters. -/

namespace Sys2Proof.Proofs.Cars

open Sys2Proof.Machine Sys2Proof.Safety Sys2Proof.Proofs.Upkeep Sys2Proof.Proofs.IndicationLines Sys2Proof.Proofs.Ends
  Sys2Proof.Proofs.Account Sys2Proof.Proofs.Capacity Sys2Proof.Proofs.Pause

/-! ## What is done for other cars -/

/-- Two states that differ in reports and in the records and links of cars other than one. -/
structure Apart (v u : State) (c : CarId) : Prop where
  side : CarSide v u
  record : record u c = record v c
  link : carLink u c = carLink v c
  lines : ∀ k, linkLine u k = linkLine v k

theorem Apart.refl (v : State) (c : CarId) : Apart v v c := ⟨CarSide.refl v, rfl, rfl, fun _ => rfl⟩

theorem Apart.trans {v u t : State} {c : CarId} (h : Apart v u c) (g : Apart u t c) : Apart v t c :=
  ⟨h.side.trans g.side, g.record.trans h.record, g.link.trans h.link, fun k => (g.lines k).trans (h.lines k)⟩

theorem Apart.of_portOnly {v u : State} (h : PortOnly v u) (c : CarId) : Apart v u c :=
  ⟨.of_portOnly h, record_of_portOnly h c, carLink_of_portOnly h c, linkLine_of_portOnly h⟩

theorem apart_alterLink (v : State) {c d : CarId} (f : CarLink → CarLink) (other : c ≠ d) : Apart v (alterLink v d f) c :=
  ⟨rfl, rfl, carLink_alterLink_other v f other, linkLine_alterLink v d f⟩

theorem apart_placeCommand (v : State) {c d : CarId} (k : CmdKind) (target permit : Option Nat) (other : c ≠ d) :
    Apart v (placeCommand v d k target permit) c := by
  unfold placeCommand
  split
  · exact apart_alterLink v _ other
  · exact Apart.refl v c

theorem linkLine_alterCar (v : State) (d : CarId) (f : CarRecord → CarRecord) (k : Link) : linkLine (alterCar v d f) k = linkLine v k := by
  cases k <;> rfl

theorem linkLine_moveCar (v : State) (d : CarId) (st : CarState) (k : Link) : linkLine (moveCar v d st) k = linkLine v k := by
  rw [moveCar, linkLine_alterLink, linkLine_alterCar]

theorem apart_moveCar (v : State) {c d : CarId} (st : CarState) (other : c ≠ d) : Apart v (moveCar v d st) c :=
  ⟨rfl, record_moveCar_other v st other, carLink_moveCar_other v st other, linkLine_moveCar v d st⟩

/-- A car holds no shed entry, so that nothing is handed on for it (R100). -/
def Unshed (s : State) (c : CarId) : Prop := ∀ e, entryOf s c = some e → e.isShed = false

theorem apart_stopShed (v : State) {c d : CarId} (other : c ≠ d) : Apart v (stopShed v d) c := by
  have placed : Apart v (place v d .stopNext) c := apart_placeCommand v .stopNext none none other
  unfold stopShed
  extract_lets s1
  split
  · split
    · exact placed
    · exact (placed.trans (apart_moveCar _ .stopping other)).trans (.of_portOnly (portOnly_reportCar _ _ _ _ _) c)
  · exact placed

theorem apart_handShed {v : State} {c : CarId} (unshed : Unshed v c) (d : CarId) : Apart v (handShed v d) c := by
  unfold handShed
  split
  · rename_i e found
    split
    · rename_i shed
      by_cases here : c = d
      · subst here
        rw [unshed e found] at shed
        cases shed
      · exact apart_stopShed v here
    · exact Apart.refl v c
  · exact Apart.refl v c

theorem apart_handSheds {w : Work} {c : CarId} (unshed : Unshed w.st c) : Apart w.st (handSheds w).st c := by
  have step : ∀ (cars : List CarId) (v : State), Unshed v c → Apart v (cars.foldl handShed v) c := by
    intro cars
    induction cars with
    | nil => exact fun v _ => Apart.refl v c
    | cons d cars ih =>
      intro v unshed
      have first := apart_handShed unshed d
      rw [List.foldl_cons]
      refine first.trans (ih _ fun e found => unshed e ?_)
      rw [← found]
      exact (entryOf_of_acct (by rw [first.side]) c).symm
  exact step _ _ unshed

/-! ## How the event ends -/

/-- Nothing is granted as an event ends: no exit is open outside RETURN and SERVICE, or the spacing timer runs in them (R139). -/
def Calm (s : State) : Prop :=
  (planExit s = none ∧ granting s = false) ∨ (Granting s ∧ GeneratorStays s ∧ s.ret.spacing ≠ none)

/-- The states in which the event's links and lines have been completed. -/
theorem ended_completeWith {w : Work} (calm : Calm w.st) (renew : Option CarId) : ∃ v, Granted w.st v ∧ completeWith w renew
    = { v with link := (arbiters (renewFor v renew)).link, inds := (completeWith w renew).inds } := by
  obtain ⟨exits, rests⟩ | ⟨grants, stays, spaced⟩ := calm
  · refine ⟨w.st, Granted.refl _, ?_⟩
    rw [completeWith_of_resting exits rests]
    exact arbiters_driven w.st renew
  · exact ⟨_, granted_grantWork grants stays spaced, arbiters_driven _ renew⟩

/-! ## The links when the arbiters have chosen -/

/-- A car's link and line when the event is over, from those before the arbiters chose. -/
structure LinkEnd (x t : State) (c : CarId) : Prop where
  waits : ∀ cmd, (carLink x c).slot = some cmd → Waits x t c cmd
  emptied : (carLink x c).slot = none → (carLink t c).slot = none
  silent : NoneOut x c → (carLink x c).slot = none → NoCommand x t c
  nextTag : (carLink t c).nextTag = (carLink x c).nextTag

theorem linkEnd_of_arbiters {x t : State} (link : t.link = (arbiters x).link) (c : CarId) : LinkEnd x t c := by
  have car : carLink t c = carLink (arbiters x) c := by unfold carLink; rw [link]
  have line : ∀ k, linkLine t k = linkLine (arbiters x) k := linkLine_of_link link
  obtain ⟨_, _, _, tag⟩ := arbiters_counts x c
  refine ⟨fun cmd slot => ?_, fun slot => ?_, fun out slot => ?_, by rw [car, tag]⟩
  · obtain same | ⟨cmd', slot', sent, exchange⟩ := carLink_arbiters x c
    · left
      show (carLink t c).slot = some cmd
      rw [car, same, slot]
    · right
      rw [slot] at slot'
      cases slot'
      refine ⟨?_, by rw [line]; exact exchange⟩
      show (carLink t c).slot = none
      rw [car, sent]
  · obtain same | ⟨_, _, sent, _⟩ := carLink_arbiters x c
    · rw [car, same, slot]
    · rw [car, sent]
  · obtain ⟨out', slot'⟩ := noneOut_arbiters out slot
    refine ⟨by show (carLink t c).slot = none; rw [car, slot'], fun y exchange here => out' y ?_ here⟩
    rw [← exchange, line]
    rw [linkOnly_arbiters x]
    rfl

theorem waits_congr {s x t : State} {c : CarId} {cmd : Command} (setup : x.setup = s.setup) (h : Waits x t c cmd) : Waits s t c cmd := by
  unfold Waits profile at *
  rw [← setup]
  exact h

theorem noCommand_congr {s x t : State} {c : CarId} (setup : x.setup = s.setup) (h : NoCommand x t c) : NoCommand s t c := by
  unfold NoCommand profile at *
  rw [← setup]
  exact h

/-! ## A command placed -/

/-- A new command waits in a car's slot: with the tag and time of the state before the event (R55, R58). -/
def Placed (s u : State) (c : CarId) (k : CmdKind) (permit : Option Nat) : Prop :=
  (carLink u c).slot = some ⟨k, none, (carLink s c).nextTag, s.time, 0, permit⟩
    ∧ (carLink u c).nextTag = nextTag (carLink s c).nextTag

theorem placed_place {s v : State} {c : CarId} {k : CmdKind} {permit : Option Nat} (enrols : (profile v c).enrolled = true)
    (may : mayPlace v.plan.state k = true) (tag : (carLink v c).nextTag = (carLink s c).nextTag) (time : v.time = s.time) :
    Placed s (placeCommand v c k none permit) c k permit := by
  have placed : carLink (placeCommand v c k none permit) c
      = { carLink v c with slot := some ⟨k, none, (carLink v c).nextTag, v.time, 0, permit⟩, nextTag := nextTag (carLink v c).nextTag } := by
    have can : (enrolled v c && mayPlace v.plan.state k) = true := by
      rw [may, Bool.and_true]; exact enrols
    rw [placeCommand, if_pos can, carLink_alterLink_same]
  unfold Placed
  rw [placed, tag, time]
  exact ⟨rfl, rfl⟩

theorem Placed.of_link {s u v : State} {c : CarId} {k : CmdKind} {permit : Option Nat} (h : Placed s u c k permit)
    (slot : (carLink v c).slot = (carLink u c).slot) (tag : (carLink v c).nextTag = (carLink u c).nextTag) : Placed s v c k permit :=
  ⟨slot.trans h.1, tag.trans h.2⟩

theorem leaveSilent_slot (l : CarLink) (st : CarState) : (l.leaveSilent st).slot = l.slot ∧ (l.leaveSilent st).nextTag = l.nextTag := by
  unfold CarLink.leaveSilent
  split <;> exact ⟨rfl, rfl⟩

theorem Placed.moveCar {s u : State} {c : CarId} {k : CmdKind} {permit : Option Nat} (h : Placed s u c k permit) (st : CarState) :
    Placed s (moveCar u c st) c k permit :=
  h.of_link (by rw [carLink_moveCar_same, (leaveSilent_slot _ _).1]) (by rw [carLink_moveCar_same, (leaveSilent_slot _ _).2])

theorem slotted_of_placed {s x t : State} {c : CarId} {k : CmdKind} {permit : Option Nat} (ends : LinkEnd x t c) (h : Placed s x c k permit)
    (setup : x.setup = s.setup) : Slotted s t c k permit := by
  refine ⟨waits_congr setup (ends.waits _ h.1), ?_⟩
  show (carLink t c).nextTag = _
  rw [ends.nextTag, h.2]
  rfl

/-! ## The completed event, as it stands for one car -/

/-- The completed event at one car, from the state `v` that the rules made for it. -/
structure Outcome (v t : State) (c : CarId) : Prop where
  fixed : t.fixed = v.fixed
  acct : t.acct = v.acct
  hist : t.hist = v.hist
  svc : t.svc = v.svc
  plan : t.plan = { v.plan with state := t.plan.state, enteredAt := t.plan.enteredAt, outage := t.plan.outage }
  spacing : t.ret.spacing = v.ret.spacing
  seq : t.ret.nextSeq = v.ret.nextSeq
  queue : ∀ x ∈ t.ret.queue, x ∈ v.ret.queue
  group : ∀ x ∈ t.ret.group, x ∈ v.ret.group ∨ ∃ q ∈ v.ret.queue, q.car = x.car
  record : (record t c = record v c ∧ ∀ q ∈ v.ret.queue, q.car = c → q ∈ t.ret.queue)
    ∨ ((∃ q ∈ v.ret.queue, q.car = c) ∧ Machine.record t c = (Machine.record v c).map (CarRecord.goTo .staged))
  link : LinkEnd v t c

theorem LinkEnd.congr {x y t : State} {c : CarId} (h : LinkEnd x t c) (setup : x.setup = y.setup)
    (slot : (carLink x c).slot = (carLink y c).slot) (tag : (carLink x c).nextTag = (carLink y c).nextTag)
    (lines : ∀ k, linkLine x k = linkLine y k) : LinkEnd y t c where
  waits cmd here := waits_congr setup (h.waits cmd (slot.trans here))
  emptied here := h.emptied (slot.trans here)
  silent out here := noCommand_congr setup (h.silent (fun z exchange => out z (by
    rw [← lines]
    unfold profile at *
    rw [← setup]
    exact exchange)) (slot.trans here))
  nextTag := h.nextTag.trans tag

/-- What the rules made for a car stands when the event is over; a car of the queue may have been staged. -/
theorem outcome_completeWith {v : State} {w : Work} {c : CarId} (apart : Apart v w.st c) (fixed : w.st.fixed = v.fixed) (calm : Calm w.st) : Outcome v (completeWith w none) c := by
  obtain ⟨x, granted, leaves⟩ := ended_completeWith calm none
  obtain ⟨t, made⟩ : ∃ t, t = completeWith w none := ⟨_, rfl⟩
  have ret : w.st.ret = v.ret := by rw [apart.side]
  have ret_t : t.ret = x.ret := by rw [made, leaves]
  have cars_t : Machine.record t c = Machine.record x c := by
    unfold Machine.record
    rw [made, leaves]
  have plan_t : t.plan = x.plan := by rw [made, leaves]
  have ends : LinkEnd x t c := linkEnd_of_arbiters (by rw [made, leaves]; rfl) c
  have setup : x.setup = v.setup := by
    have parts : x.fixed = v.fixed := granted.fixed.trans fixed
    exact congrArg Fixed.setup parts
  have lines : ∀ k, linkLine x k = linkLine v k := fun k => (granted.lines k).trans (apart.lines k)
  rw [← made]
  refine ⟨?_, ?_, ?_, ?_, ?_, ?_, ?_, fun y mem => ?_, fun y mem => ?_, ?_, ?_⟩
  · rw [← fixed, made]
    exact completeWith_fixed _ _
  · rw [made, leaves]
    exact granted.acct.trans (by rw [apart.side])
  · rw [made, leaves]
    exact granted.hist.trans (by rw [apart.side])
  · rw [made, leaves]
    exact granted.svc.trans (by rw [apart.side])
  · rw [plan_t]
    have plan : w.st.plan = v.plan := by rw [apart.side]
    rw [← plan]
    exact granted.plan
  · rw [ret_t, granted.spacing, ret]
  · rw [ret_t, granted.seq, ret]
  · rw [ret_t] at mem
    rw [← ret]
    exact granted.queue y mem
  · rw [ret_t] at mem
    rw [← ret]
    exact granted.group y mem
  · rw [cars_t, ret_t, ← ret, ← apart.record]
    rcases granted.cars c with ⟨same, _, keeps⟩ | ⟨queued, staged, _⟩
    · exact .inl ⟨same, keeps⟩
    · exact .inr ⟨queued, staged⟩
  · rcases granted.cars c with ⟨_, link, _⟩ | ⟨_, _, link⟩
    · have same : carLink x c = carLink v c := link.trans apart.link
      exact ends.congr setup (by rw [same]) (by rw [same]) lines
    · have same : carLink x c = (carLink v c).leaveSilent .staged := by rw [link, apart.link]
      exact ends.congr setup (by rw [same, (leaveSilent_slot _ _).1]) (by rw [same, (leaveSilent_slot _ _).2]) lines

end Sys2Proof.Proofs.Cars
end
section
/-! PROOFS. The silent hold expiry (R70): the entry released, the slot emptied, the car FAILED. -/

namespace Sys2Proof.Proofs.Cars

open Sys2Proof.Machine Sys2Proof.Safety Sys2Proof.Proofs.Upkeep Sys2Proof.Proofs.IndicationLines Sys2Proof.Proofs.Ends
  Sys2Proof.Proofs.Account Sys2Proof.Proofs.Capacity Sys2Proof.Proofs.Pause

/-! ## Facts of a completed event -/

theorem Outcome.entry {v t : State} {c : CarId} (h : Outcome v t c) (d : CarId) : entryOf t d = entryOf v d := entryOf_of_acct h.acct d

theorem Outcome.record_of_not_queued {v t : State} {c : CarId} (h : Outcome v t c) (away : ∀ q ∈ v.ret.queue, q.car ≠ c) :
    Machine.record t c = Machine.record v c := by
  rcases h.record with ⟨same, _⟩ | ⟨⟨q, queued, car⟩, _⟩
  · exact same
  · exact absurd car (away q queued)

theorem granting_of_plan {s t : State} (plan : t.plan.state = s.plan.state) (grants : Granting s) : Granting t := by
  unfold Granting
  rw [plan]
  exact grants

theorem calm_of_spaced {s t : State} (plan : t.plan.state = s.plan.state) (fixed : t.fixed = s.fixed) (spacing : t.ret.spacing = s.ret.spacing)
    (grants : Granting s) (stays : GeneratorStays s) (spaced : s.ret.spacing ≠ none) : Calm t :=
  .inr ⟨granting_of_plan plan grants, generatorStays_of_fixed fixed stays, by rw [spacing]; exact spaced⟩

theorem eraseP_car_eq_filter {c : CarId} : ∀ {es : List Entry}, (es.map (·.car)).Nodup →
    es.eraseP (fun e => e.car == c) = es.filter (fun e => e.car != c)
  | [], _ => rfl
  | e :: es, distinct => by
    obtain ⟨fresh, distinct⟩ := List.nodup_cons.1 distinct
    by_cases hit : e.car = c
    · rw [List.eraseP_cons_of_pos (p := fun e : Entry => e.car == c) (beq_iff_eq.2 hit), List.filter_cons_of_neg (by simp [hit])]
      refine (List.filter_eq_self.2 fun x mem => bne_iff_ne.2 fun same => fresh ?_).symm
      exact List.mem_map.2 ⟨x, mem, same.trans hit.symm⟩
    · rw [List.eraseP_cons_of_neg (by simp [hit]), List.filter_cons_of_pos (p := fun e : Entry => e.car != c) (bne_iff_ne.2 hit), eraseP_car_eq_filter distinct]

/-! ## The expiry -/

/-- The state once the silent hold's expiry has released the entry and failed the car. -/
def expiredState (s : State) (c : CarId) : State := (expireHold (begin s) c).st

/-- The car FAILED with reason SILENT (R70). -/
def failedSilent (old : CarRecord) : CarRecord := { old with state := .failed, failure := some .silent }

theorem record_failCar (s : State) (c : CarId) (why : FailReason) :
    record (failCar s c why) c = (record s c).map (fun r => { r with state := .failed, failure := some why }) := by
  rw [failCar, record_alterCar_same, record_moveCar_same, Option.map_map]
  rfl

theorem portOnly_expiredState (s : State) (c : CarId) :
    PortOnly (failCar (emptySlot (releaseEntry (begin s) c).st c) c .silent) (expiredState s c) := portOnly_reportCar _ _ _ _ _

theorem holdDue_of_due {s : State} {c : CarId} {old : CarRecord} {expiry : Time} (had : record s c = some old) (silent : old.state = .silent)
    (stands : (s.link.cars.at c).silentHold = some expiry) (due : Due s.time expiry) : holdDue s c = true := by
  have hold : (carLink s c).silentHold = some expiry := stands
  simp [holdDue, stateOf_eq_some had, silent, hold, timerDue_of_due due]

/-- Settles O29. -/
theorem silentHoldFails : Obligations.SilentHoldFails := by
  intro s c old e expiry spacing grants stays totals cars had silent found stands due running away
  have freed := freed_releaseEntry (w := begin s) found cars totals
  obtain ⟨f, made_f⟩ : ∃ f, f = (releaseEntry (begin s) c).st := ⟨_, rfl⟩
  obtain ⟨v, made⟩ : ∃ v, v = expiredState s c := ⟨_, rfl⟩
  obtain ⟨w, made_w⟩ : ∃ w, w = handSheds (expireHold (begin s) c) := ⟨_, rfl⟩
  obtain ⟨t, made_t⟩ : ∃ t, t = complete w := ⟨_, rfl⟩
  have side : AccountSide s f := made_f ▸ freed.side
  have port : PortOnly (failCar (emptySlot f c) c .silent) v := by rw [made, made_f]; exact portOnly_expiredState s c
  have acct : v.acct = f.acct := by rw [port]; rfl
  have plan : v.plan = s.plan := by rw [port]; exact side.plan
  have ret : v.ret = s.ret := by rw [port]; exact side.ret
  have gone : entryOf v c = none := (entryOf_of_acct acct c).trans (made_f ▸ freed.entry)
  have fixed : v.fixed = s.fixed := by
    rw [made]
    exact closed_reportCar (closed_fixed _) (closed_failCar (closed_fixed _) (closed_emptySlot (closed_fixed _)
      (closed_releaseEntry (closed_fixed _) rfl)))
  have apart : Apart v w.st c := by
    rw [made, made_w]
    exact apart_handSheds (w := expireHold (begin s) c) fun x here => absurd ((made ▸ gone).symm.trans here) (by simp)
  have fixed_w : w.st.fixed = v.fixed := by
    rw [fixed, made_w]
    exact closed_handSheds (closed_fixed _) (show (expiredState s c).fixed = s.fixed from made ▸ fixed)
  have calm : Calm w.st := calm_of_spaced (by rw [apart.side]; exact congrArg PlanCtl.state plan) (fixed_w.trans fixed)
    (by rw [apart.side]; exact congrArg Returns.spacing ret) grants stays (by rw [running]; simp)
  have outcome : Outcome v t c := made_t ▸ outcome_completeWith apart fixed_w calm
  have here : record v c = some (failedSilent old) := by
    have before : record f c = some old := (side.record c).trans had
    rw [record_of_portOnly port, record_failCar]
    show (record f c).map _ = _
    rw [before]
    rfl
  have slot : (carLink v c).slot = none := by
    have moved : carLink v c = (carLink (emptySlot f c) c).leaveSilent .failed := by
      rw [carLink_of_portOnly port, failCar, carLink_alterCar, carLink_moveCar_same]
    rw [moved, (leaveSilent_slot _ _).1, carLink_emptySlot_same]
  have runs : exec (.silentHoldExpiry c) s = .next t := by
    rw [made_t, made_w]
    exact if_pos (holdDue_of_due had silent stands due)
  obtain ⟨settings, host, cap⟩ := kept_of_fixed_eq (outcome.fixed.trans fixed)
  refine ⟨t, failedSilent old, runs, settings, host, cap, (outcome.entry c).trans gone, ?_, ?_, ?_,
    (outcome.record_of_not_queued (by rw [ret]; exact away)).trans here, rfl, rfl, rfl, rfl, outcome.link.emptied slot⟩
  · rw [outcome.acct, acct, made_f]; exact freed.kd
  · rw [outcome.acct, acct, made_f]; exact freed.kr
  · rw [outcome.acct, acct, made_f, freed.permits]
    show ((s.acct.remove c).entries.map _) = _
    rw [remove_entries, eraseP_car_eq_filter cars]

end Sys2Proof.Proofs.Cars
end
section
/-! PROOFS. The steps by which the Car Table moves one car: HOLD, PARK, FAILED, DEFERRED, adoption (R39, R40, R43). -/

namespace Sys2Proof.Proofs.Cars

open Sys2Proof.Machine Sys2Proof.Safety Sys2Proof.Proofs.Upkeep Sys2Proof.Proofs.IndicationLines Sys2Proof.Proofs.Ends
  Sys2Proof.Proofs.Account Sys2Proof.Proofs.Capacity Sys2Proof.Proofs.Pause

/-! ## Readings of a record -/

theorem underLocal_iff (r : CarRecord) : underLocal r = true ↔ Local r.authority := by
  unfold underLocal Local
  cases r.authority with
  | none => simp
  | some a => cases a <;> simp [isLocal]

theorem outOfOrder_iff (r : CarRecord) : outOfOrder r = true ↔ r.authority = some .outOfOrder := by simp [outOfOrder]

theorem levelAt_eq (s : State) (c : CarId) (r : CarRecord) : levelAt r (profile s c).recallFloor = atHome s c r := by
  rw [Bool.eq_iff_iff, levelAt, atHome, Bool.and_eq_true, beq_iff_eq, beq_iff_eq, decide_eq_true_iff]

theorem isStopped_iff (r : CarRecord) : isStopped r = true ↔ r.motion = some .stopped := by simp [isStopped]

theorem isMoving_iff (r : CarRecord) : isMoving r = true ↔ ∃ m, r.motion = some m ∧ m ≠ .stopped := by
  unfold isMoving
  cases r.motion with
  | none => simp
  | some m => cases m <;> simp

/-! ## The frame of a step -/

/-- A step that moves one car: the fixed part, the plan, queue and group, and the other records stand. -/
structure Moved (s v : State) (c : CarId) : Prop where
  fixed : v.fixed = s.fixed
  plan : v.plan = s.plan
  ret : v.ret = s.ret
  others : ∀ d, d ≠ c → record v d = record s d

theorem Moved.refl (s : State) (c : CarId) : Moved s s c := ⟨rfl, rfl, rfl, fun _ _ => rfl⟩

theorem Moved.trans {s u v : State} {c : CarId} (h : Moved s u c) (g : Moved u v c) : Moved s v c :=
  ⟨g.fixed.trans h.fixed, g.plan.trans h.plan, g.ret.trans h.ret, fun d other => (g.others d other).trans (h.others d other)⟩

theorem moved_moveCar (s : State) (c : CarId) (st : CarState) : Moved s (moveCar s c st) c :=
  ⟨rfl, rfl, rfl, fun _ other => record_moveCar_other s st other⟩

theorem moved_alterCar (s : State) (c : CarId) (f : CarRecord → CarRecord) : Moved s (alterCar s c f) c :=
  ⟨rfl, rfl, rfl, fun _ other => record_alterCar_other s f other⟩

theorem moved_of_linkOnly {s v : State} (h : LinkOnly s v) (c : CarId) : Moved s v c :=
  ⟨fixed_of_linkOnly h, by rw [h]; rfl, by rw [h]; rfl, fun d _ => record_of_linkOnly h d⟩

theorem moved_of_account {s v : State} (h : AccountSide s v) (fixed : v.fixed = s.fixed) (c : CarId) : Moved s v c :=
  ⟨fixed, h.plan, h.ret, fun d _ => h.record d⟩

theorem Moved.setup {s v : State} {c : CarId} (h : Moved s v c) : v.setup = s.setup := congrArg Fixed.setup h.fixed

theorem Moved.time {s v : State} {c : CarId} (h : Moved s v c) : v.time = s.time := congrArg Fixed.time h.fixed

/-! ## HOLD, PARK, FAILED -/

theorem acct_place (s : State) (c : CarId) (k : CmdKind) : (place s c k).acct = s.acct := by
  rw [carSide_place s c k]

/-- A car moved to a state with a command placed (R40). -/
structure Steered (s v : State) (c : CarId) (k : CmdKind) (f : CarRecord → CarRecord) : Prop where
  moved : Moved s v c
  acct : v.acct = s.acct
  record : record v c = (record s c).map f
  placed : (profile s c).enrolled = true → mayPlace s.plan.state k = true → Placed s v c k none

theorem steered_moveCar (s : State) (c : CarId) (k : CmdKind) (st : CarState) :
    Steered s (moveCar (place s c k) c st) c k (CarRecord.goTo st) where
  moved := (moved_of_linkOnly (linkOnly_placeCommand s c k none none) c).trans (moved_moveCar _ c st)
  acct := acct_place s c k
  record := by rw [record_moveCar_same, record_place]
  placed enrols may := (placed_place enrols may rfl rfl).moveCar st

theorem steered_holdAs (s : State) (c : CarId) (st : CarState) : Steered s (holdAs s c st) c .hold (CarRecord.goTo st) :=
  steered_moveCar s c .hold st

theorem Steered.alter {s v : State} {c : CarId} {k : CmdKind} {f : CarRecord → CarRecord} (h : Steered s v c k f)
    (g : CarRecord → CarRecord) : Steered s (alterCar v c g) c k (g ∘ f) where
  moved := h.moved.trans (moved_alterCar v c g)
  acct := h.acct
  record := by rw [record_alterCar_same, h.record, Option.map_map]
  placed enrols may := h.placed enrols may

/-- The record of a car sent to park (R40, step 4). -/
def parkForm (r : CarRecord) : CarRecord := { r with state := .idle, failure := none, parkOut := true }

theorem steered_parkCar (s : State) (c : CarId) : Steered s (parkCar s c) c .park parkForm :=
  (steered_moveCar s c .park .idle).alter _

/-- The record of a car that has failed (R40, step 3). -/
def failForm (why : FailReason) (r : CarRecord) : CarRecord := { r with state := .failed, failure := some why }

theorem steered_failCar (s : State) (c : CarId) (why : FailReason) :
    Steered s (failCar (place s c .hold) c why) c .hold (failForm why) :=
  (steered_moveCar s c .hold .failed).alter _

/-! ## STANDING and ADOPTED entries (R39, R43, R94) -/

theorem fixed_enterUntested (w : Work) (c : CarId) (adopted : Bool) : (enterUntested w c adopted).st.fixed = w.st.fixed :=
  closed_enterUntested (closed_fixed _) rfl

theorem moved_enterUntested (w : Work) (c : CarId) (adopted : Bool) : Moved w.st (enterUntested w c adopted).st c :=
  moved_of_account (.of_only (accountSide_enterEntry w _)) (fixed_enterUntested w c adopted) c

/-- A car entered with an entry that no test was asked for, and moved to its state (R94). -/
structure Entered (s v : State) (c : CarId) (adopted : Bool) (f : CarRecord → CarRecord) : Prop where
  moved : Moved s v c
  entry : ∃ n, entryOf v c = some { untestedEntry s c adopted with permit := n }
  record : record v c = (record s c).map f

theorem Entered.unshed {s v : State} {c : CarId} {adopted : Bool} {f : CarRecord → CarRecord} (h : Entered s v c adopted f) : Unshed v c := by
  intro e found
  obtain ⟨n, here⟩ := h.entry
  rw [here] at found
  rw [← Option.some.inj found]
  cases adopted <;> rfl

theorem Entered.stood {s v : State} {c : CarId} {f : CarRecord → CarRecord} (h : Entered s v c false f) : Stood s v c := by
  obtain ⟨n, here⟩ := h.entry
  exact ⟨_, here, rfl, rfl, rfl, rfl⟩

theorem entered_deferCar {w : Work} {c : CarId} (none : entryOf w.st c = none) :
    Entered w.st (deferCar w c).st c false (CarRecord.goTo .deferred) where
  moved := (moved_enterUntested w c false).trans (moved_moveCar _ c .deferred)
  entry := ⟨_, entryOf_enterUntested none false⟩
  record := by
    show Machine.record (moveCar _ c .deferred) c = _
    rw [record_moveCar_same]
    have same : Machine.record (enterUntested w c false).st c = Machine.record w.st c := (AccountSide.of_only (accountSide_enterEntry w _)).record c
    rw [same]

theorem entered_adoptCar {w : Work} {c : CarId} (none : entryOf w.st c = none) :
    Entered w.st (adoptCar w c).st c true (CarRecord.goTo .stopping)
      ∧ ((profile w.st c).enrolled = true → mayPlace w.st.plan.state .stopNext = true → Placed w.st (adoptCar w c).st c .stopNext Option.none) := by
  have first := moved_enterUntested w c true
  have steered := steered_moveCar (enterUntested w c true).st c .stopNext .stopping
  refine ⟨⟨first.trans steered.moved, ⟨_, (entryOf_of_acct steered.acct c).trans (entryOf_enterUntested none true)⟩, ?_⟩,
    fun enrols may => ?_⟩
  · have same : record (enterUntested w c true).st c = record w.st c := (AccountSide.of_only (accountSide_enterEntry w _)).record c
    exact steered.record.trans (by rw [same])
  · have link : carLink (enterUntested w c true).st c = carLink w.st c := by
      unfold carLink
      rw [show (enterUntested w c true).st.link = w.st.link from enterEntry_link w _]
    have placed := steered.placed (by unfold profile at *; rw [first.setup]; exact enrols) (by rw [first.plan]; exact may)
    unfold Placed at *
    rw [link, first.time] at placed
    exact placed

end Sys2Proof.Proofs.Cars
end
section
/-! PROOFS. The evaluation rule in full (R40): one case per step, and what it leaves of the car when the event is over. -/

namespace Sys2Proof.Proofs.Cars

open Sys2Proof.Machine Sys2Proof.Safety Sys2Proof.Proofs.Upkeep Sys2Proof.Proofs.IndicationLines Sys2Proof.Proofs.Ends
  Sys2Proof.Proofs.Account Sys2Proof.Proofs.Capacity Sys2Proof.Proofs.Pause

/-- The state to which the evaluation rule takes a car with this record (R40). -/
def evaluatedState (s : State) (c : CarId) (r : CarRecord) : CarState :=
  evaluationState s r.authority r.holdOut r.attempts (atHome s c r)

/-- The record as the steps find it: out of the retransfer-cancelled set and with PARK outstanding clear (R40, R127). -/
def openState (s : State) (c : CarId) : State := setCancelled (clearPark s c) c false

/-- An item of a car newly queued (R132). -/
structure NewItem (s v : State) (c : CarId) (r : CarRecord) (front : Bool) (x : QueueItem) : Prop where
  car : x.car = c
  front : x.front = front
  cls : x.cls = (profile s c).returnClass
  seq : x.seq = s.ret.nextSeq
  passed : x.passed = 0
  occupied : x.occupied = r.occupied
  queue : ∀ y, y ∈ v.ret.queue ↔ y = x ∨ y ∈ s.ret.queue
  group : v.ret.group = s.ret.group

/-- A record that a rule has moved on: the state, the failure reason and PARK outstanding alone may differ. -/
def Kin (r new : CarRecord) : Prop := new = { r with state := new.state, failure := new.failure, parkOut := new.parkOut }

/-- The evaluation rule has taken a car with the record `r` to its state. -/
structure Evaled (s v : State) (c : CarId) (r : CarRecord) (front : Bool) : Prop where
  fixed : v.fixed = s.fixed
  plan : v.plan = { s.plan with cancelled := s.plan.cancelled.put c false }
  spacing : v.ret.spacing = s.ret.spacing
  others : ∀ d, d ≠ c → record v d = record s d
  record : ∃ new, record v c = some new ∧ new.attempts = r.attempts ∧ new.state = evaluatedState s c r ∧ new.occupied = r.occupied
    ∧ (evaluatedState s c r = .failed → new.failure = some .attempts) ∧ (evaluatedState s c r = .idle → new.parkOut = true) ∧ Kin r new
  stood : evaluatedState s c r = .deferred → Stood s v c
  hold : (profile s c).enrolled = true → evaluatedState s c r = .held ∨ evaluatedState s c r = .failed → Placed s v c .hold none
  park : (profile s c).enrolled = true → evaluatedState s c r = .idle → Placed s v c .park none
  acct : evaluatedState s c r ≠ .deferred → v.acct = s.acct
  unshed : Unshed v c
  still : evaluatedState s c r ≠ .queued → v.ret = s.ret
  queued : evaluatedState s c r = .queued → ∃ x, NewItem s v c r front x

/-! ## The steps -/

theorem record_openState {s : State} {c : CarId} {r : CarRecord} (had : record s c = some r) :
    record (openState s c) c = some { r with parkOut := false } := by
  show record (clearPark s c) c = _
  rw [clearPark, record_alterCar_same, had]
  rfl

theorem stood_congr {s u v : State} {c : CarId} (setup : u.setup = s.setup) (h : Stood u v c) : Stood s v c := by
  unfold Stood profile at *
  rw [← setup]
  exact h

theorem placed_congr {s u v : State} {c : CarId} {k : CmdKind} (link : u.link = s.link) (time : u.time = s.time)
    (h : Placed u v c k none) : Placed s v c k none := by
  unfold Placed carLink at *
  rw [← link, ← time]
  exact h

theorem unshed_of_no_entry {s v : State} {c : CarId} (none : entryOf s c = none) (acct : v.acct = s.acct) : Unshed v c := by
  intro e found
  rw [entryOf_of_acct acct, none] at found
  cases found

/-- A step that moves the car on from the opened record, with no change of the queue. -/
theorem evaled_of_moved {s v : State} {c : CarId} {r : CarRecord} {front : Bool} {st : CarState} (state : evaluatedState s c r = st)
    (moved : Moved (openState s c) v c) (not_queued : st ≠ .queued) (unshed : Unshed v c)
    (rec : ∃ new, record v c = some new ∧ new.attempts = r.attempts ∧ new.state = st ∧ new.occupied = r.occupied
      ∧ (st = .failed → new.failure = some .attempts) ∧ (st = .idle → new.parkOut = true) ∧ Kin r new)
    (stood : st = .deferred → Stood s v c)
    (hold : (profile s c).enrolled = true → st = .held ∨ st = .failed → Placed s v c .hold none)
    (park : (profile s c).enrolled = true → st = .idle → Placed s v c .park none) (acct : st ≠ .deferred → v.acct = s.acct) : Evaled s v c r front where
  fixed := moved.fixed
  plan := moved.plan
  spacing := by rw [moved.ret]; rfl
  others d other := (moved.others d other).trans (record_alterCar_other s _ other)
  record := by rw [state]; exact rec
  stood := by rw [state]; exact stood
  hold := by rw [state]; exact hold
  park := by rw [state]; exact park
  acct := by rw [state]; exact acct
  unshed := unshed
  still _ := moved.ret
  queued := by rw [state]; exact fun queued => absurd queued not_queued

theorem evaluationState_of_local {s : State} {a : Option Authority} (h : Local a) (holdOut : Bool) (attempts : Nat) (home : Bool) :
    evaluationState s a holdOut attempts home = .deferred := if_pos h

theorem evaluationState_of_held {s : State} {a : Option Authority} {holdOut : Bool} (not_local : ¬ Local a)
    (h : a = some .outOfOrder ∨ holdOut = true) (attempts : Nat) (home : Bool) :
    evaluationState s a holdOut attempts home = .held := (if_neg not_local).trans (if_pos h)

theorem evaluationState_of_free {s : State} {a : Option Authority} {holdOut : Bool} (not_local : ¬ Local a)
    (free : ¬ (a = some .outOfOrder ∨ holdOut = true)) (attempts : Nat) (home : Bool) :
    evaluationState s a holdOut attempts home
      = if s.setup.limits.attempts ≤ attempts then .failed else if home = true then .idle else .queued :=
  (if_neg not_local).trans (if_neg free)

section
variable {w : Work} {c : CarId} {r : CarRecord} (had : record w.st c = some r) (claim : Bool)
include had

theorem evaluateFull_local (h : Local r.authority) :
    evaluateFull w c claim = deferCar (w.up (fun s => openState s c)) c := by
  have now : underLocal r = true := (underLocal_iff r).2 h
  simp only [evaluateFull, had, now, if_true]
  rfl

theorem evaluateFull_held (not_local : ¬ Local r.authority) (h : r.authority = some .outOfOrder ∨ r.holdOut = true) :
    evaluateFull w c claim = w.up (fun s => holdAs (openState s c) c .held) := by
  have now : underLocal r = false := by rw [← Bool.not_eq_true, underLocal_iff]; exact not_local
  have held : (outOfOrder r || r.holdOut) = true := by rw [Bool.or_eq_true, outOfOrder_iff]; exact h
  simp only [evaluateFull, had, now, held, Bool.false_eq_true, if_false, if_true]
  rfl

theorem evaluateFull_free (not_local : ¬ Local r.authority) (free : ¬ (r.authority = some .outOfOrder ∨ r.holdOut = true)) :
    evaluateFull w c claim =
      if w.st.setup.limits.attempts ≤ r.attempts then w.up (fun s => failCar (place (openState s c) c .hold) c .attempts)
      else if atHome w.st c r then w.up (fun s => parkCar (openState s c) c)
      else (enqueue (w.up (fun s => openState s c)) c (claim || w.st.plan.cancelled.at c)).up (fun s => moveCar s c .queued) := by
  have now : underLocal r = false := by rw [← Bool.not_eq_true, underLocal_iff]; exact not_local
  have held : (outOfOrder r || r.holdOut) = false := by rw [← Bool.not_eq_true, Bool.or_eq_true, outOfOrder_iff]; exact free
  simp only [evaluateFull, had, now, held, Bool.false_eq_true, if_false, ← levelAt_eq]
  rfl

end

/-- The state with a car enqueued, before it is moved to QUEUED (R132). -/
def enqueuedState (s : State) (c : CarId) (front : Bool) : State := (enqueue (begin s) c front).st

theorem enqueue_st (w : Work) (c : CarId) (front : Bool) : (enqueue w c front).st = enqueuedState w.st c front := rfl

theorem mem_insertBy {α : Type} {before : α → α → Bool} {x y : α} {l : List α} : y ∈ insertBy before x l ↔ y = x ∨ y ∈ l := by
  rw [(Shedding.perm_insertBy before x l).mem_iff, List.mem_cons]

theorem newItem_enqueued {s v : State} {c : CarId} {r : CarRecord} (had : record s c = some r) (front : Bool)
    (ret : v.ret = (enqueuedState s c front).ret) : ∃ x, NewItem s v c r front x := by
  refine ⟨⟨c, (profile s c).returnClass, front, r.occupied, s.ret.nextSeq, 0⟩, rfl, rfl, rfl, rfl, rfl, rfl, fun y => ?_, by rw [ret]; rfl⟩
  have item : (enqueuedState s c front).ret.queue = insertBy (queueBefore (s.ret.nextSeq + 1))
      ⟨c, (profile s c).returnClass, front, ((record s c).map (·.occupied)).getD true, s.ret.nextSeq, 0⟩ s.ret.queue := rfl
  rw [ret, item, mem_insertBy, had]
  rfl

theorem newItem_of_open {s v : State} {c : CarId} {r : CarRecord} {front : Bool} {x : QueueItem}
    (h : NewItem (openState s c) v c { r with parkOut := false } front x) : NewItem s v c r front x :=
  ⟨h.car, h.front, h.cls, h.seq, h.passed, h.occupied, h.queue, h.group⟩

/-- A car queued by the evaluation rule (R40, step 5). -/
theorem evaled_queued {s : State} {c : CarId} {r : CarRecord} (had : record s c = some r) (none : entryOf s c = none) (front : Bool)
    (state : evaluatedState s c r = .queued) : Evaled s (moveCar (enqueuedState (openState s c) c front) c .queued) c r front := by
  obtain ⟨x, item⟩ := newItem_enqueued (v := enqueuedState (openState s c) c front) (record_openState had) front rfl
  obtain ⟨q, made⟩ : ∃ q, q = enqueuedState (openState s c) c front := ⟨_, rfl⟩
  have fixed : q.fixed = s.fixed := by rw [made]; rfl
  have plan : q.plan = { s.plan with cancelled := s.plan.cancelled.put c false } := by rw [made]; rfl
  have spacing : q.ret.spacing = s.ret.spacing := by rw [made]; rfl
  have acct : q.acct = s.acct := by rw [made]; rfl
  have here : record q c = some { r with parkOut := false } := by rw [made]; exact record_openState had
  have others : ∀ d, d ≠ c → record q d = record s d := by
    intro d other
    rw [made]
    exact record_alterCar_other s _ other
  rw [← made] at item ⊢
  have moved := moved_moveCar q c .queued
  exact {
    fixed := moved.fixed.trans fixed
    plan := moved.plan.trans plan
    spacing := spacing
    others := fun d other => (moved.others d other).trans (others d other)
    record := ⟨_, (record_moveCar_same _ _ _).trans (congrArg _ here), rfl, by rw [state]; rfl, rfl, by rw [state]; simp, by rw [state]; simp, rfl⟩
    stood := by rw [state]; simp
    hold := by rw [state]; simp
    park := by rw [state]; simp
    acct := fun _ => acct
    unshed := unshed_of_no_entry none acct
    still := fun other => absurd state other
    queued := fun _ => ⟨x, newItem_of_open ⟨item.car, item.front, item.cls, item.seq, item.passed, item.occupied, item.queue, item.group⟩⟩ }

/-- The evaluation rule in full (R40). -/
theorem evaled_evaluateFull {w : Work} {c : CarId} {r : CarRecord} (had : record w.st c = some r) (none : entryOf w.st c = none)
    (grants : Granting w.st) (claim : Bool) :
    Evaled w.st (evaluateFull w c claim).st c r (claim || w.st.plan.cancelled.at c) := by
  have opened := record_openState had
  have none' : entryOf (openState w.st c) c = Option.none := none
  have may : ∀ k, mayPlace (openState w.st c).plan.state k = true := by
    intro k
    show mayPlace w.st.plan.state k = true
    rcases grants with state | state <;> rw [state] <;> rfl
  by_cases isLocal : Local r.authority
  · rw [evaluateFull_local had claim isLocal]
    have entered := entered_deferCar (w := w.up (fun s => openState s c)) none'
    refine evaled_of_moved (st := .deferred) (evaluationState_of_local isLocal _ _ _) entered.moved (by decide) entered.unshed
      ⟨_, entered.record.trans (congrArg _ opened), rfl, rfl, rfl, (by simp), (by simp), rfl⟩ (fun _ => stood_congr rfl entered.stood)
      (by simp) (by simp) (by simp)
  by_cases held : r.authority = some .outOfOrder ∨ r.holdOut = true
  · rw [evaluateFull_held had claim isLocal held]
    have steered := steered_holdAs (openState w.st c) c .held
    refine evaled_of_moved (st := .held) (evaluationState_of_held isLocal held _ _) steered.moved (by decide)
      (unshed_of_no_entry none' steered.acct) ⟨_, steered.record.trans (congrArg _ opened), rfl, rfl, rfl, (by simp), (by simp), rfl⟩
      (by simp) (fun enrols _ => placed_congr rfl rfl (steered.placed enrols (may _))) (by simp) (fun _ => steered.acct)
  have state : evaluatedState w.st c r = if w.st.setup.limits.attempts ≤ r.attempts then .failed
      else if atHome w.st c r = true then .idle else .queued := evaluationState_of_free isLocal held _ _
  rw [evaluateFull_free had claim isLocal held]
  by_cases used : w.st.setup.limits.attempts ≤ r.attempts
  · rw [if_pos used] at state ⊢
    have steered := steered_failCar (openState w.st c) c .attempts
    refine evaled_of_moved state steered.moved (by decide)
      (unshed_of_no_entry none' steered.acct) ⟨_, steered.record.trans (congrArg _ opened), rfl, rfl, rfl, (fun _ => rfl), (by simp), rfl⟩
      (by simp) (fun enrols _ => placed_congr rfl rfl (steered.placed enrols (may _))) (by simp) (fun _ => steered.acct)
  rw [if_neg used] at state ⊢
  by_cases home : atHome w.st c r = true
  · rw [if_pos home] at state ⊢
    have steered := steered_parkCar (openState w.st c) c
    refine evaled_of_moved state steered.moved (by decide)
      (unshed_of_no_entry none' steered.acct) ⟨_, steered.record.trans (congrArg _ opened), rfl, rfl, rfl, (by simp), (fun _ => rfl), rfl⟩
      (by simp) (by simp) (fun enrols _ => placed_congr rfl rfl (steered.placed enrols (may _))) (fun _ => steered.acct)
  · rw [if_neg home] at state ⊢
    exact evaled_queued had none _ state

theorem evaluate_of_granting {w : Work} (grants : Granting w.st) (c : CarId) (claim : Bool) : evaluate w c claim = evaluateFull w c claim := by
  rcases grants with state | state <;> simp only [evaluate, state]

/-! ## When the event is over -/

/-- What became of an evaluated car by the end of the event: nothing more, or it was queued and then staged (R140). -/
theorem record_of_outcome {u v t : State} {c : CarId} {r : CarRecord} {front : Bool} (evaled : Evaled u v c r front) (outcome : Outcome v t c)
    (away : ∀ x ∈ u.ret.queue, x.car ≠ c) :
    (record t c = record v c ∧ ∀ q ∈ v.ret.queue, q.car = c → q ∈ t.ret.queue)
      ∨ (evaluatedState u c r = .queued ∧ record t c = (record v c).map (CarRecord.goTo .staged)) := by
  rcases outcome.record with same | ⟨⟨q, mem, car⟩, staged⟩
  · exact .inl same
  · refine .inr ⟨?_, staged⟩
    by_contra other
    rw [evaled.still other] at mem
    exact away q mem car

/-- A car queued by the evaluation, and not staged by the end of the event, has its new item (R132). -/
theorem item_of_outcome {u v t : State} {c : CarId} {r : CarRecord} {front : Bool} (evaled : Evaled u v c r front) (outcome : Outcome v t c)
    (away : ∀ x ∈ u.ret.queue, x.car ≠ c) (queued : (record t c).map (·.state) = some .queued) :
    ∃ x ∈ t.ret.queue, NewItem u v c r front x := by
  obtain ⟨new, had, _, state, _⟩ := evaled.record
  rcases record_of_outcome evaled outcome away with ⟨same, keeps⟩ | ⟨_, staged⟩
  · rw [same, had] at queued
    obtain ⟨x, item⟩ := evaled.queued (state.symm.trans (Option.some.inj queued))
    exact ⟨x, keeps x ((item.queue x).2 (.inl rfl)) item.car, item⟩
  · rw [staged, had] at queued
    cases queued

/-- The evaluation's result stands when the event is over; a queued car may have been staged (R40, R140). -/
theorem evaluated_of_outcome {s u v t : State} {c : CarId} {r : CarRecord} {front : Bool} (evaled : Evaled u v c r front)
    (outcome : Outcome v t c) (setup : u.setup = s.setup) (time : u.time = s.time) (tag : (carLink u c).nextTag = (carLink s c).nextTag)
    (enrols : (profile u c).enrolled = true) (away : ∀ x ∈ u.ret.queue, x.car ≠ c) :
    Evaluated s t c r.authority r.holdOut r.attempts (atHome u c r) := by
  obtain ⟨new, had, attempts, state, occupied, failed, idle, _⟩ := evaled.record
  have state_s : evaluationState s r.authority r.holdOut r.attempts (atHome u c r) = evaluatedState u c r := by
    unfold evaluatedState evaluationState
    rw [setup]
  have setup_v : v.setup = s.setup := (congrArg Fixed.setup evaled.fixed).trans setup
  have placed : ∀ k, Placed u v c k none → Slotted s t c k none := by
    intro k h
    have from_s : Placed s v c k none := by
      unfold Placed at *
      rw [← tag, ← time]
      exact h
    exact slotted_of_placed outcome.link from_s setup_v
  have stood : Stood u v c → Stood s t c := by
    rintro ⟨e, found, rest⟩
    refine stood_congr setup ⟨e, (outcome.entry c).trans found, rest⟩
  rcases record_of_outcome evaled outcome away with ⟨same, _⟩ | ⟨was, staged⟩
  · refine ⟨new, same.trans had, attempts, ?_, ?_, ?_, ?_, ?_, ?_⟩
    · rw [state_s]; exact fun _ => state
    · rw [state_s]; exact fun queued => .inl (state.trans queued)
    · exact fun deferred => stood (evaled.stood (state.symm.trans deferred))
    · exact fun held => placed _ (evaled.hold enrols (.inl (state.symm.trans held)))
    · exact fun lost => ⟨failed (state.symm.trans lost), placed _ (evaled.hold enrols (.inr (state.symm.trans lost)))⟩
    · exact fun home => ⟨idle (state.symm.trans home), placed _ (evaled.park enrols (state.symm.trans home))⟩
  · have now : record t c = some (new.goTo .staged) := by rw [staged, had]; rfl
    refine ⟨new.goTo .staged, now, attempts, ?_, ?_, ?_, ?_, ?_, ?_⟩
    · rw [state_s, was]; exact fun other => absurd rfl other
    · exact fun _ => .inr (.inl rfl)
    · intro h; cases h
    · intro h; cases h
    · intro h; cases h
    · intro h; cases h

end Sys2Proof.Proofs.Cars
end
section
/-! PROOFS. The end of an event that the rules made for one car: its report, the shed entries handed on, the granting blocks, the arbiters. -/

namespace Sys2Proof.Proofs.Cars

open Sys2Proof.Machine Sys2Proof.Safety Sys2Proof.Proofs.Upkeep Sys2Proof.Proofs.IndicationLines Sys2Proof.Proofs.Ends
  Sys2Proof.Proofs.Account Sys2Proof.Proofs.Capacity Sys2Proof.Proofs.Pause

/-! ## From the rules' state to the end -/

theorem planExit_of_carSide {v u : State} (side : CarSide v u) : planExit u = planExit v := by
  rw [side]
  rfl

theorem granting_of_carSide {v u : State} (side : CarSide v u) : granting u = granting v := by
  rw [side]
  rfl

theorem generatorStays_of_carSide {v u : State} (side : CarSide v u) (stays : GeneratorStays v) : GeneratorStays u := by
  rw [side]
  exact stays

theorem calm_of_carSide {v u : State} (side : CarSide v u) (calm : Calm v) : Calm u := by
  rcases calm with ⟨exits, rests⟩ | ⟨grants, stays, spaced⟩
  · exact .inl ⟨(planExit_of_carSide side).trans exits, (granting_of_carSide side).trans rests⟩
  · exact .inr ⟨granting_of_plan (by rw [side]) grants, generatorStays_of_carSide side stays, by rw [side]; exact spaced⟩

/-- Handing the shed entries on spares a car: nothing is handed on, or the car holds no shed entry (R100). -/
def Spared (nt : Notes) (y : State) (c : CarId) : Prop := nt.sheds = [] ∨ Unshed y c

/-- Its report queued and the shed entries handed on, a car that is spared is as the rules left it. -/
theorem apart_of_report {y v : State} {nt : Notes} {c : CarId} (port : PortOnly y v) (spared : Spared nt y c) :
    Apart y (handSheds ⟨v, nt⟩).st c := by
  have queued : Apart y v c := .of_portOnly port c
  rcases spared with none | unshed
  · rw [handSheds_of_none (w := ⟨v, nt⟩) none]
    exact queued
  · exact queued.trans (apart_handSheds (w := ⟨v, nt⟩) fun e found => unshed e ((entryOf_of_acct (by rw [port]; rfl) c).symm.trans found))

/-- What the rules made for a car, its report queued, stands when the event is over. -/
theorem outcome_of_report {y v : State} {nt : Notes} {c : CarId} (port : PortOnly y v) (fixed : v.fixed = y.fixed) (spared : Spared nt y c)
    (calm : Calm y) : Outcome y (complete (handSheds ⟨v, nt⟩)) c := by
  have apart := apart_of_report port spared
  exact outcome_completeWith apart ((closed_handSheds (closed_fixed v.fixed) rfl).trans fixed) (calm_of_carSide apart.side calm)

/-- A report queued after others stands when the event is over (R38). -/
theorem carReported_of_report {s v : State} {nt : Notes} {c : CarId} {before after : CarState} {cause : CarCause} {decline : Option Decline}
    {renew : Option CarId} (reported : CarReported s v c before after cause decline) :
    CarReported s (completeWith (handSheds ⟨v, nt⟩) renew) c before after cause decline := by
  have H := closed_reported s fun r => ∃ rep, r = .carState rep ∧ rep.car = c ∧ rep.before = before ∧ rep.after = after
    ∧ rep.cause = cause ∧ rep.decline = decline
  have here : ∃ earlier rep later, ReportsQueued s v (earlier ++ rep :: later) ∧ ∃ rep', rep = Report.carState rep' ∧ rep'.car = c
      ∧ rep'.before = before ∧ rep'.after = after ∧ rep'.cause = cause ∧ rep'.decline = decline := by
    obtain ⟨earlier, rep, later, queued, holds⟩ := reported
    exact ⟨earlier, _, later, queued, rep, rfl, holds⟩
  obtain ⟨earlier, _, later, queued, rep, rfl, holds⟩ := closed_completeWith (w := handSheds ⟨v, nt⟩) (renew := renew) H (closed_handSheds (w := ⟨v, nt⟩) H here)
  exact ⟨earlier, rep, later, queued, holds⟩

/-- The car's report, queued after those of the rules before it. -/
theorem carReported_queueReport {s y : State} {c : CarId} {old new : CarRecord} {cause : CarCause} {decline : Option Decline}
    (earlier : QueuedFirst s [] y) : CarReported s (queueReport y (carReport y c old new cause decline)) c old.state new.state cause decline := by
  obtain ⟨rest, queued⟩ := earlier
  exact ⟨rest, _, [], reportsQueued_report queued _, rfl, rfl, rfl, rfl, rfl⟩

theorem carReported_reportCar {s y : State} {c : CarId} {old new : CarRecord} {cause : CarCause} {decline : Option Decline}
    (earlier : QueuedFirst s [] y) (had : record y c = some new) (changed : old.state ≠ new.state ∨ decline.isSome = true) :
    CarReported s (reportCar y c (some old) cause decline) c old.state new.state cause decline := by
  have reports : (carChanged old new || decline.isSome) = true := by
    rcases changed with moved | declined
    · have differs : (old.state != new.state) = true := bne_iff_ne.2 moved
      simp [carChanged, differs]
    · rw [declined, Bool.or_true]
  simp only [reportCar, had, reports, if_true]
  exact carReported_queueReport earlier

/-! ## An event of the account that leaves no overcommit -/

/-- With neither total above its limit nothing is shed (R100). -/
theorem settleAccount_acct_of_fits {w : Work} (draw : w.st.acct.kd ≤ w.st.cap.c) (regen : w.st.acct.kr ≤ w.st.cap.sink) (eased : Bool) :
    (settleAccount w eased).st.acct
      = { w.st.acct with drawOver := false, regenOver := false, drawExhausted := false, regenExhausted := false } := by
  have flag_d : (flaggedWork w).st.acct.drawOver = false := decide_eq_false (Nat.not_lt.2 draw)
  have flag_r : (flaggedWork w).st.acct.regenOver = false := decide_eq_false (Nat.not_lt.2 regen)
  have first : shedDraw (flaggedWork w) = (flaggedWork w, noRun) := by simp [shedDraw, flag_d]
  have second : shedRegen (flaggedWork w) = (flaggedWork w, noRun) := by simp [shedRegen, flag_r]
  rw [settleAccount_acct, notedState, shedBoth, runsOf, first]
  dsimp only
  rw [second]
  show ({ (w.st.acct.flagged w.st.cap.c w.st.cap.sink) with drawExhausted := false, regenExhausted := false } : Machine.Account) = _
  unfold Account.flagged
  rw [decide_eq_false (Nat.not_lt.2 draw), decide_eq_false (Nat.not_lt.2 regen)]

theorem entryOf_settleAccount_of_fits {w : Work} (draw : w.st.acct.kd ≤ w.st.cap.c) (regen : w.st.acct.kr ≤ w.st.cap.sink) (eased : Bool)
    (d : CarId) : entryOf (settleAccount w eased).st d = entryOf w.st d := by
  unfold entryOf
  rw [settleAccount_acct_of_fits draw regen eased]

/-! ## A step (R95) -/

theorem change_found {a : Account} {c : CarId} {e : Entry} (found : a.entries.find? (fun e => e.car == c) = some e) (f : Entry → Entry) :
    (a.change c f).kd = a.kd - e.draw + (f e).draw ∧ (a.change c f).kr = a.kr - e.regen + (f e).regen := by
  simp only [Account.change, found, and_self]

/-- A run's reservation for regeneration is in the total, so that a step leaves it (R92, R95). -/
theorem step_totals {s : State} {c : CarId} {e : Entry} {run : Nat} (totals : TotalsMatch s) (found : entryOf s c = some e)
    (has : e.runDraw = some run) : (s.acct.change c Entry.toRun).kd = s.acct.kd - e.draw + run ∧ (s.acct.change c Entry.toRun).kr = s.acct.kr := by
  obtain ⟨kd, kr⟩ := change_found (a := s.acct) found Entry.toRun
  have low : e.regen ≤ s.acct.kr := by
    rw [totals.2]
    exact List.le_sum_of_mem (List.mem_map.2 ⟨e, entryOf_mem found, rfl⟩)
  refine ⟨by rw [kd]; simp [Entry.toRun, has], by rw [kr]; show s.acct.kr - e.regen + e.regen = _; omega⟩

end Sys2Proof.Proofs.Cars
end
section
/-! PROOFS. The evaluation rule in the middle of an event (R40), with an entry released before it (R98) or without. -/

namespace Sys2Proof.Proofs.Cars

open Sys2Proof.Machine Sys2Proof.Safety Sys2Proof.Proofs.Upkeep Sys2Proof.Proofs.IndicationLines Sys2Proof.Proofs.Ends
  Sys2Proof.Proofs.Account Sys2Proof.Proofs.Capacity Sys2Proof.Proofs.Pause

/-- A state in the middle of an event of one car: what the ends of the rules read of the state before the event is as it was. -/
structure Near (s u : State) (c : CarId) : Prop where
  fixed : u.fixed = s.fixed
  spacing : u.ret.spacing = s.ret.spacing
  seq : u.ret.nextSeq = s.ret.nextSeq
  state : u.plan.state = s.plan.state
  tag : (carLink u c).nextTag = (carLink s c).nextTag
  reports : QueuedFirst s [] u

/-- The same with the retransfer-cancelled set as it was, which the evaluation reads (R127). -/
structure Midway (s u : State) (c : CarId) : Prop extends Near s u c where
  cancelled : u.plan.cancelled = s.plan.cancelled

theorem Midway.refl (s : State) (c : CarId) : Midway s s c := ⟨⟨rfl, rfl, rfl, rfl, rfl, ⟨[], reportsQueued_refl s⟩⟩, rfl⟩

theorem Near.setup {s u : State} {c : CarId} (h : Near s u c) : u.setup = s.setup := congrArg Fixed.setup h.fixed

theorem Near.time {s u : State} {c : CarId} (h : Near s u c) : u.time = s.time := congrArg Fixed.time h.fixed

theorem Near.cap {s u : State} {c : CarId} (h : Near s u c) : u.cap = s.cap := congrArg Fixed.cap h.fixed

theorem Near.profile {s u : State} {c : CarId} (h : Near s u c) (d : CarId) : profile u d = profile s d := by
  unfold Machine.profile
  rw [h.setup]

theorem Near.granting {s u : State} {c : CarId} (h : Near s u c) (grants : Granting s) : Granting u := granting_of_plan h.state grants

theorem Near.calm {s u : State} {c : CarId} (h : Near s u c) (grants : Granting s) (stays : GeneratorStays s)
    (spaced : s.ret.spacing ≠ none) : Calm u :=
  calm_of_spaced h.state h.fixed h.spacing grants stays spaced

theorem nextTag_dropIf (l : CarLink) (p : CmdKind → Bool) : (l.dropIf p).nextTag = l.nextTag := by
  unfold CarLink.dropIf
  split
  · split <;> rfl
  · rfl

theorem Midway.release {s : State} {w : Work} {c : CarId} {e : Entry} (h : Midway s w.st c) (freed : Freed w (releaseEntry w c) c e) :
    Midway s (releaseEntry w c).st c where
  fixed := closed_releaseEntry (closed_fixed _) h.fixed
  spacing := by rw [freed.side.ret]; exact h.spacing
  seq := by rw [freed.side.ret]; exact h.seq
  state := by rw [freed.side.plan]; exact h.state
  cancelled := by rw [freed.side.plan]; exact h.cancelled
  tag := by rw [freed.link, nextTag_dropIf]; exact h.tag
  reports := closed_releaseEntry (closed_queuedFirst s []) h.reports

theorem queuedFirst_of_port {s u v : State} {rs : List Report} (h : QueuedFirst s rs u) (port : v.port = u.port) : QueuedFirst s rs v := by
  obtain ⟨rest, queued⟩ := h
  exact ⟨rest, reportsQueued_of_port queued (by rw [port]) (by rw [port])⟩

theorem Midway.alterCar {s u : State} {c : CarId} (h : Midway s u c) (f : CarRecord → CarRecord) : Midway s (alterCar u c f) c :=
  ⟨⟨h.fixed, h.spacing, h.seq, h.state, h.tag, queuedFirst_of_port h.reports rfl⟩, h.cancelled⟩

theorem atHome_of_setup {s u : State} (setup : u.setup = s.setup) (c : CarId) (r : CarRecord) : atHome u c r = atHome s c r := by
  unfold atHome Machine.profile
  rw [setup]

theorem evaluatedState_of_setup {s u : State} (setup : u.setup = s.setup) (c : CarId) (r : CarRecord) :
    evaluatedState u c r = evaluationState s r.authority r.holdOut r.attempts (atHome s c r) := by
  unfold evaluatedState evaluationState
  rw [atHome_of_setup setup, setup]

/-- A car queued anew, with its front mark (R132). -/
def QueuedAnew (s t : State) (c : CarId) (front : Bool) : Prop :=
  (record t c).map (·.state) = some .queued → ∃ x ∈ t.ret.queue, x.car = c ∧ x.front = front ∧ x.cls = (profile s c).returnClass
    ∧ x.seq = s.ret.nextSeq ∧ x.passed = 0 ∧ (record t c).map (·.occupied) = some x.occupied

/-- The evaluation rule at the end of an event in RETURN or SERVICE that grants nothing. -/
structure Judgement (s u v t : State) (c : CarId) (r : CarRecord) (front : Bool) : Prop where
  fixed : t.fixed = s.fixed
  evaluated : (profile s c).enrolled = true → Evaluated s t c r.authority r.holdOut r.attempts (atHome s c r)
  record : ∃ new, record t c = some new ∧ new.attempts = r.attempts
  acct : ¬ Local r.authority → t.acct = u.acct
  queued : QueuedAnew s t c front
  cancelled : t.plan.cancelled.at c = false
  reports : QueuedFirst s [] v
  state : (Machine.record v c).map (·.state) = some (evaluationState s r.authority r.holdOut r.attempts (atHome s c r))
  kin : ∀ new, Machine.record v c = some new → Kin r new
  outcome : Outcome v t c
  queue : ∀ x ∈ t.ret.queue, x.car = c → x.seq = s.ret.nextSeq
  waits : (Machine.record t c).map (·.state) = (Machine.record v c).map (·.state) ∨ (Machine.record t c).map (·.state) = some .staged

theorem plan_cancelled_put (p : PlanCtl) (c : CarId) : ({ p with cancelled := p.cancelled.put c false } : PlanCtl).cancelled.at c = false :=
  Table.put_at_same _ _ _

theorem evaluationState_ne_deferred {s : State} {a : Option Authority} (h : ¬ Local a) (holdOut : Bool) (attempts : Nat) (home : Bool) :
    evaluationState s a holdOut attempts home ≠ .deferred := by
  by_cases held : a = some .outOfOrder ∨ holdOut = true
  · rw [evaluationState_of_held h held]
    decide
  · rw [evaluationState_of_free h held]
    split
    · decide
    · split <;> decide

theorem Evaled.calm {s u v : State} {c : CarId} {r : CarRecord} {front : Bool} (h : Evaled u v c r front) (mid : Midway s u c)
    (grants : Granting s) (stays : GeneratorStays s) (spaced : s.ret.spacing ≠ none) : Calm v :=
  calm_of_spaced (by rw [h.plan]; exact mid.state) (h.fixed.trans mid.fixed) (h.spacing.trans mid.spacing) grants stays spaced

theorem QueuedAnew.of_item {s u v t : State} {c : CarId} {r : CarRecord} {front : Bool} (mid : Midway s u c) (evaled : Evaled u v c r front)
    (outcome : Outcome v t c) (item : (record t c).map (·.state) = some .queued → ∃ x ∈ t.ret.queue, NewItem u v c r front x) :
    QueuedAnew s t c front := by
  intro queued
  obtain ⟨x, mem, new⟩ := item queued
  refine ⟨x, mem, new.car, new.front, ?_, by rw [new.seq, mid.seq], new.passed, ?_⟩
  · rw [new.cls, mid.profile]
  · obtain ⟨made, had, _, _, occupied, _⟩ := evaled.record
    rw [new.occupied, ← occupied]
    rcases outcome.record with ⟨same, _⟩ | ⟨_, staged⟩
    · rw [same, had]; rfl
    · rw [staged, had]; rfl

/-- The evaluation rule (R40) in the middle of an event that grants nothing leaves a car that is spared, and nothing to grant. -/
theorem calm_evaluate {s : State} {u : Work} {c : CarId} {r : CarRecord} (mid : Midway s u.st c) (grants : Granting s) (stays : GeneratorStays s)
    (spaced : s.ret.spacing ≠ none) (none : entryOf u.st c = none) (had : record u.st c = some r) (claim : Bool) :
    Unshed (evaluate u c claim).st c ∧ Calm (evaluate u c claim).st := by
  rw [evaluate_of_granting (mid.granting grants)]
  have evaled := evaled_evaluateFull had none (mid.granting grants) claim
  exact ⟨evaled.unshed, evaled.calm mid grants stays spaced⟩

/-- The evaluation rule (R40) in the middle of an event, when the event is over. -/
theorem judgement {s : State} {u : Work} {c : CarId} {r : CarRecord} (mid : Midway s u.st c) (grants : Granting s)
    (away : ∀ x ∈ u.st.ret.queue, x.car ≠ c) (none : entryOf u.st c = none) (had : record u.st c = some r) (claim : Bool) {t : State}
    (outcome : Outcome (evaluate u c claim).st t c) :
    Judgement s u.st (evaluate u c claim).st t c r (claim || s.plan.cancelled.at c) := by
  have reports : QueuedFirst s [] (evaluate u c claim).st := closed_evaluate (closed_queuedFirst s []) mid.reports
  have evaled := evaled_evaluateFull had none (mid.granting grants) claim
  rw [← evaluate_of_granting (mid.granting grants), mid.cancelled] at evaled
  obtain ⟨v, made⟩ : ∃ v, v = (evaluate u c claim).st := ⟨_, rfl⟩
  rw [← made] at evaled reports outcome ⊢
  have full := fun enrols => evaluated_of_outcome evaled outcome mid.setup mid.time mid.tag enrols away
  have item := item_of_outcome evaled outcome away
  have home := atHome_of_setup mid.setup c r
  have state := evaluatedState_of_setup mid.setup c r
  refine ⟨outcome.fixed.trans (evaled.fixed.trans mid.fixed), fun enrols => home ▸ (full (by rw [mid.profile]; exact enrols)), ?_, fun not_local => ?_,
    .of_item mid evaled outcome item, ?_, reports, ?_, fun new is => ?_, outcome, fun x mem car => ?_, ?_⟩
  · obtain ⟨new, here, attempts, _⟩ := evaled.record
    rcases outcome.record with ⟨same, _⟩ | ⟨_, staged⟩
    · exact ⟨new, same.trans here, attempts⟩
    · exact ⟨new.goTo .staged, by rw [staged, here]; rfl, attempts⟩
  · exact outcome.acct.trans (evaled.acct (by rw [state]; exact evaluationState_ne_deferred not_local _ _ _))
  · rw [outcome.plan, evaled.plan]
    exact plan_cancelled_put _ _
  · obtain ⟨new, here, _, is, _⟩ := evaled.record
    rw [here]
    exact congrArg some (is.trans state)
  · obtain ⟨made, here, _, _, _, _, _, kin⟩ := evaled.record
    rw [here] at is
    rw [← Option.some.inj is]
    exact kin
  · have inside := outcome.queue x mem
    by_cases queued : evaluatedState u.st c r = .queued
    · obtain ⟨y, new⟩ := evaled.queued queued
      rcases (new.queue x).1 inside with rfl | old
      · rw [new.seq, mid.seq]
      · exact absurd car (away x old)
    · rw [evaled.still queued] at inside
      exact absurd car (away x inside)
  · rcases outcome.record with ⟨same, _⟩ | ⟨_, staged⟩
    · exact .inl (by rw [same])
    · obtain ⟨new, here, _⟩ := evaled.record
      exact .inr (by rw [staged, here]; rfl)

end Sys2Proof.Proofs.Cars
end
section
/-! PROOFS. The start window's expiry (R96): the step of a moving car, the lapse for a SILENT one, the end of the run for a stopped one. -/

namespace Sys2Proof.Proofs.Cars

open Sys2Proof.Machine Sys2Proof.Safety Sys2Proof.Proofs.Upkeep Sys2Proof.Proofs.IndicationLines Sys2Proof.Proofs.Ends
  Sys2Proof.Proofs.Account Sys2Proof.Proofs.Capacity Sys2Proof.Proofs.Pause

/-- A RETURN entry in START phase whose window has been reached (R96). -/
structure WindowReached (s : State) (c : CarId) (e : Entry) (win : StartWindow) : Prop where
  found : entryOf s c = some e
  kind : e.kind = .returning
  phase : e.phase = .start
  window : e.window = some win
  lapsed : win.lapsed = false
  due : Due s.time win.expiry

theorem exec_of_windowReached {s : State} {c : CarId} {e : Entry} {win : StartWindow} (h : WindowReached s c e win) :
    exec (.startWindowExpiry c) s = .next (complete (handSheds (expireWindow (begin s) c))) := by
  have now : reached s.time win.expiry = true := by simpa [timerDue] using timerDue_of_due h.due
  exact if_pos (by simp [windowDue, h.found, h.window, h.lapsed, Entry.starting, h.kind, h.phase, now])

section
variable {s : State} {c : CarId} {old : CarRecord} (had : record s c = some old)
include had

theorem expireWindow_moving (moving : isMoving old = true) : expireWindow (begin s) c = (stepEntry (begin s) c).up (fun v =>
    reportCar (if old.state = .starting then moveCar v c .running else v) c (some old) .step none) := by
  have here : record (begin s).st c = some old := had
  simp only [expireWindow, here, moving, if_true]

theorem expireWindow_silent (stopped : isMoving old = false) (silent : old.linkStatus = .silent) :
    expireWindow (begin s) c = begin (s.setAcct (s.acct.change c lapseWindow)) := by
  have here : record (begin s).st c = some old := had
  simp only [expireWindow, here, stopped, silent, reduceCtorEq, Bool.false_eq_true, if_false]
  rfl

theorem expireWindow_stopped (stopped : isMoving old = false) (heard : old.linkStatus = .inContact) :
    expireWindow (begin s) c = (startExpired (begin s) c).up (fun v => reportCar v c (some old) .stop none) := by
  have here : record (begin s).st c = some old := had
  simp only [expireWindow, here, stopped, heard, Bool.false_eq_true, if_true, if_false]

end

/-! ## The step of a moving car -/

theorem entryOf_toRun {s : State} {c : CarId} {e : Entry} {run : Nat} (found : entryOf s c = some e) (has : e.runDraw = some run) :
    entryOf (s.setAcct (s.acct.change c Entry.toRun)) c = some (runForm e run) := by
  rw [entryOf_change (f := Entry.toRun) (fun _ => rfl), if_pos rfl, found]
  simp [Entry.toRun, runForm, has]

/-- An entry stepped where the step leaves no overcommit (R95). -/
theorem entryOf_stepEntry_of_fits {w : Work} {c : CarId} {e : Entry} {run : Nat} (totals : TotalsMatch w.st)
    (found : entryOf w.st c = some e) (has : e.runDraw = some run) (draw : w.st.acct.kd - e.draw + run ≤ w.st.cap.c)
    (regen : w.st.acct.kr ≤ w.st.cap.sink) : entryOf (stepEntry w c).st c = some (runForm e run)
      ∧ (stepEntry w c).st.acct.kd = w.st.acct.kd - e.draw + run ∧ (stepEntry w c).st.acct.kr = w.st.acct.kr := by
  obtain ⟨kd, kr⟩ := step_totals totals found has
  obtain ⟨u, made⟩ : ∃ u : Work, u = w.up (fun s => s.setAcct (s.acct.change c Entry.toRun)) := ⟨_, rfl⟩
  have draw_u : u.st.acct.kd ≤ u.st.cap.c := by rw [made]; exact kd ▸ draw
  have regen_u : u.st.acct.kr ≤ u.st.cap.sink := by rw [made]; exact kr ▸ regen
  have entry : entryOf u.st c = some (runForm e run) := by rw [made]; exact entryOf_toRun found has
  have acct := settleAccount_acct_of_fits draw_u regen_u true
  unfold stepEntry
  rw [← made, entryOf_settleAccount_of_fits draw_u regen_u, acct]
  refine ⟨entry, ?_, ?_⟩
  · rw [made]; exact kd
  · rw [made]; exact kr

theorem accountSide_stepEntry (w : Work) (c : CarId) : AccountOnly w.st (stepEntry w c).st :=
  AccountOnly.trans (show AccountOnly w.st (w.up (fun s => s.setAcct (s.acct.change c Entry.toRun))).st from rfl) (accountOnly_settleAccount _ _)

/-- A car STARTING moved to RUNNING (R42). -/
theorem record_runningFrom {v : State} {c : CarId} {old : CarRecord} (had : record v c = some old) :
    record (if old.state = .starting then moveCar v c .running else v) c
      = some (if old.state = .starting then old.goTo .running else old) := by
  split
  · rw [record_moveCar_same, had]; rfl
  · exact had

theorem carSide_runningFrom (v : State) (c : CarId) (old : CarRecord) :
    CarSide v (if old.state = .starting then moveCar v c .running else v) := by
  split
  · exact carSide_moveCar v c .running
  · exact CarSide.refl v

theorem windowStep {s : State} {c : CarId} {old : CarRecord} {e : Entry} {win : StartWindow} {run : Nat} {spacing : Time}
    (window : WindowReached s c e win) (grants : Granting s) (stays : GeneratorStays s) (totals : TotalsMatch s)
    (had : record s c = some old) (has : e.runDraw = some run) (running : s.ret.spacing = some spacing)
    (away : ∀ x ∈ s.ret.queue, x.car ≠ c) (moving : isMoving old = true) (draw : s.acct.kd - e.draw + run ≤ s.cap.c)
    (regen : s.acct.kr ≤ s.cap.sink) :
    ∃ t new, exec (.startWindowExpiry c) s = .next t ∧ SettingsKept s t ∧ HostSideKept s t ∧ t.cap = s.cap
      ∧ entryOf t c = some { e with phase := .run, draw := run, window := none }
      ∧ t.acct.kd = s.acct.kd - e.draw + run ∧ t.acct.kr = s.acct.kr ∧ record t c = some new
      ∧ new.state = (if old.state = .starting then .running else old.state) ∧ new.attempts = old.attempts := by
  obtain ⟨entry, kd, kr⟩ := entryOf_stepEntry_of_fits (w := begin s) totals window.found has draw regen
  obtain ⟨u, made⟩ : ∃ u, u = (stepEntry (begin s) c).st := ⟨_, rfl⟩
  have side : AccountOnly s u := made ▸ accountSide_stepEntry (begin s) c
  have fixed_u : u.fixed = s.fixed := made ▸ closed_stepEntry (w := begin s) (closed_fixed _) rfl
  rw [← made] at entry kd kr
  obtain ⟨y, made_y⟩ : ∃ y, y = if old.state = .starting then moveCar u c .running else u := ⟨_, rfl⟩
  have had_u : record u c = some old := ((AccountSide.of_only side).record c).trans had
  have moved : CarSide u y := made_y ▸ carSide_runningFrom u c old
  have had_y := made_y ▸ record_runningFrom had_u
  have fixed_y : y.fixed = u.fixed := by
    rw [made_y]
    split
    · exact closed_moveCar (closed_fixed _) rfl
    · rfl
  have acct : y.acct = u.acct := by rw [moved]
  have entry_y : entryOf y c = some (runForm e run) := (entryOf_of_acct acct c).trans entry
  have unshed : Unshed y c := fun x found => by
    rw [entry_y] at found
    rw [← Option.some.inj found]
    rfl
  have ret : y.ret = s.ret := by rw [moved, side]
  have calm : Calm y := calm_of_spaced (by rw [moved, side]) (fixed_y.trans fixed_u) (by rw [ret]) grants stays (by rw [running]; simp)
  obtain ⟨t, made_t⟩ : ∃ t, t = complete (handSheds (expireWindow (begin s) c)) := ⟨_, rfl⟩
  have outcome : Outcome y t c := by
    have := outcome_of_report (v := reportCar y c (some old) .step none) (nt := (stepEntry (begin s) c).nt) (portOnly_reportCar _ _ _ _ _)
      (closed_reportCar (closed_fixed _) rfl) (.inr unshed) calm
    rw [made_t, expireWindow_moving had moving, Work.up, ← made, ← made_y]
    exact this
  obtain ⟨settings, host, cap⟩ := kept_of_fixed_eq (outcome.fixed.trans (fixed_y.trans fixed_u))
  refine ⟨t, _, by rw [exec_of_windowReached window, made_t], settings, host, cap, (outcome.entry c).trans entry_y, ?_, ?_,
    (outcome.record_of_not_queued (by rw [ret]; exact away)).trans had_y, ?_, ?_⟩
  · rw [outcome.acct, acct]; exact kd
  · rw [outcome.acct, acct]; exact kr
  · split <;> rfl
  · split <;> rfl

/-! ## The lapse for a SILENT car -/

theorem marks_lapseWindow : Marks lapseWindow := fun _ => ⟨rfl, rfl, rfl, rfl⟩

theorem windowLapse {s : State} {c : CarId} {old : CarRecord} {e : Entry} {win : StartWindow} (window : WindowReached s c e win)
    (grants : Granting s) (stays : GeneratorStays s) (totals : TotalsMatch s) (had : record s c = some old) (stopped : isMoving old = false)
    (silent : old.linkStatus = .silent) :
    ∃ t, exec (.startWindowExpiry c) s = .next t ∧ SettingsKept s t ∧ HostSideKept s t ∧ t.cap = s.cap
      ∧ t.ret = s.ret ∧ t.svc = s.svc ∧ t.plan = s.plan ∧ t.hist = s.hist ∧ t.cars = s.cars
      ∧ entryOf t c = some { e with window := some { win with lapsed := true } }
      ∧ t.acct = { s.acct with entries := t.acct.entries } ∧ (∀ d, d ≠ c → entryOf t d = entryOf s d) := by
  obtain ⟨u, made⟩ : ∃ u, u = s.setAcct (s.acct.change c lapseWindow) := ⟨_, rfl⟩
  have marked : Marked s u c lapseWindow := marked_of_change totals marks_lapseWindow (by rw [made]; rfl)
  have entry : entryOf u c = some (lapseWindow e) := by rw [marked.entry, window.found]; rfl
  have fixed : u.fixed = s.fixed := by rw [made]; rfl
  have exits : planExit u = none := planExit_of_run grants stays (by rw [made]; rfl) fixed entry window.kind
  have runs : exec (.startWindowExpiry c) s = .next (driveLines (arbiters u)) := by
    rw [exec_of_windowReached window, expireWindow_silent had stopped silent, handSheds_of_none rfl, ← made,
      complete_of_unnoted exits rfl rfl]
    rfl
  obtain ⟨t, driven, leaves⟩ := driven_eq u
  have fixed_t : t.fixed = s.fixed := by rw [← fixed, leaves]; rfl
  obtain ⟨settings, host, cap⟩ := kept_of_fixed_eq fixed_t
  have acct : t.acct = u.acct := by rw [leaves]
  refine ⟨t, by rw [runs, driven], settings, host, cap, by rw [leaves, made]; rfl, by rw [leaves, made]; rfl, by rw [leaves, made]; rfl,
    by rw [leaves, made]; rfl, by rw [leaves, made]; rfl, ?_, by rw [acct]; exact marked.rest,
    fun d other => (entryOf_of_acct acct d).trans (marked.others d other)⟩
  rw [entryOf_of_acct acct, entry]
  simp [lapseWindow, window.window]

/-! ## The end of the run for a stopped car -/

theorem record_consumeAttempt {v : State} {c : CarId} {r : CarRecord} (had : record v c = some r) :
    record (consumeAttempt v c) c = some { r with attempts := min 5 (r.attempts + 1) } := by
  rw [consumeAttempt, record_alterCar_same, had]
  rfl

theorem Midway.consumeAttempt {s u : State} {c : CarId} (h : Midway s u c) : Midway s (consumeAttempt u c) c := h.alterCar _

theorem windowEnds {s : State} {c : CarId} {old : CarRecord} {e : Entry} {win : StartWindow} (window : WindowReached s c e win)
    (grants : Granting s) (stays : GeneratorStays s) (totals : TotalsMatch s) (cars : OneEntryPerCar s) (had : record s c = some old)
    (spaced : s.ret.spacing ≠ none) (away : ∀ x ∈ s.ret.queue, x.car ≠ c) (stopped : isMoving old = false)
    (heard : old.linkStatus = .inContact) :
    ∃ t u v, exec (.startWindowExpiry c) s = .next t
      ∧ Judgement s u v t c { old with attempts := min 5 (old.attempts + 1) } (false || s.plan.cancelled.at c)
      ∧ u.acct.kd = s.acct.kd - e.draw ∧ u.acct.kr = s.acct.kr - e.regen ∧ entryOf u c = none := by
  have freed := freed_releaseEntry (w := begin s) window.found cars totals
  obtain ⟨u, made⟩ : ∃ u : Work, u = (releaseEntry (begin s) c).up (fun v => consumeAttempt v c) := ⟨_, rfl⟩
  have mid : Midway s u.st c := made ▸ ((Midway.refl s c).release (w := begin s) freed).consumeAttempt
  have had_u : record u.st c = some { old with attempts := min 5 (old.attempts + 1) } := by
    rw [made]
    exact record_consumeAttempt ((freed.side.record c).trans had)
  have none : entryOf u.st c = Option.none := by rw [made]; exact freed.entry
  have ret : u.st.ret = s.ret := by rw [made]; exact freed.side.ret
  obtain ⟨unshed, calm⟩ := calm_evaluate mid grants stays spaced none had_u false
  have outcome := outcome_of_report (nt := (evaluate u c false).nt) (portOnly_reportCar (evaluate u c false).st c (some old) .stop Option.none)
    (closed_reportCar (closed_fixed _) rfl) (.inr unshed) calm
  refine ⟨_, u.st, _, ?_, judgement mid grants (by rw [ret]; exact away) none had_u false outcome, ?_, ?_, none⟩
  · rw [exec_of_windowReached window, expireWindow_stopped had stopped heard, startExpired, ← made]
    rfl
  · rw [made]; exact freed.kd
  · rw [made]; exact freed.kr

theorem isMoving_of_stopped {r : CarRecord} (stopped : r.motion = some .stopped) : isMoving r = false := by
  rw [← Bool.not_eq_true, isMoving_iff]
  rintro ⟨m, here, moving⟩
  rw [stopped] at here
  exact moving (Option.some.inj here).symm

/-- Settles O35. -/
theorem startWindowExpires : Obligations.StartWindowExpires := by
  intro s c old e win run spacing grants stays totals cars had found kind phase stands fresh due has running away
  have window : WindowReached s c e win := ⟨found, kind, phase, stands, fresh, due⟩
  refine ⟨fun m motion moving draw regen => ?_, fun stopped silent => ?_, fun stopped heard authority free left most home => ?_⟩
  · exact windowStep window grants stays totals had has running away ((isMoving_iff old).2 ⟨m, motion, moving⟩) draw regen
  · exact windowLapse window grants stays totals had (isMoving_of_stopped stopped) silent
  · have spaced : s.ret.spacing ≠ none := by rw [running]; simp
    obtain ⟨t, u, v, runs, judged, kd, kr, gone⟩ := windowEnds window grants stays totals cars had spaced away (isMoving_of_stopped stopped) heard
    obtain ⟨settings, host, cap⟩ := kept_of_fixed_eq judged.fixed
    have not_local : ¬ Local old.authority := by rw [authority]; simp [Local]
    have acct := judged.acct not_local
    have attempts : min 5 (old.attempts + 1) = old.attempts + 1 := by omega
    have not_home : atHome s c old = false := decide_eq_false home
    have queues : evaluationState s old.authority old.holdOut (min 5 (old.attempts + 1)) (atHome s c old) = .queued := by
      rw [evaluationState_of_free not_local (by rw [authority, free]; simp), attempts, if_neg (by omega), not_home]
      rfl
    obtain ⟨new, here, used⟩ := judged.record
    refine ⟨t, new, runs, settings, host, cap, ?_, by rw [acct]; exact kd, by rw [acct]; exact kr, here, used.trans attempts, ?_⟩
    · exact (entryOf_of_acct acct c).trans gone
    · have state := judged.state
      rcases judged.waits with same | staged
      · rw [state, here] at same
        exact .inl ((Option.some.inj same).trans queues)
      · rw [here] at staged
        exact .inr (Option.some.inj staged)

end Sys2Proof.Proofs.Cars
end
section
/-! PROOFS. A valid reply from the status recorded to the report queued (R35, R38, R57). -/

namespace Sys2Proof.Proofs.Cars

open Sys2Proof.Machine Sys2Proof.Safety Sys2Proof.Proofs.Upkeep Sys2Proof.Proofs.IndicationLines Sys2Proof.Proofs.Ends
  Sys2Proof.Proofs.Account Sys2Proof.Proofs.Capacity Sys2Proof.Proofs.Pause

/-! ## What a status says -/

section
variable (s : State) (c : CarId) (r : CarReply) (a : Authority) (old : CarRecord)

theorem isStopped_heard_iff : isStopped (heard s c (carried r a) old) = true ↔ StoppedIn r := by
  rw [isStopped_iff]
  show some (motionOf r.bits) = some Motion.stopped ↔ _
  rw [motionOf_eq]
  unfold StoppedIn
  cases r.bits.getLsbD 3 <;> cases r.bits.getLsbD 4 <;> simp

theorem isMoving_heard : isMoving (heard s c (carried r a) old) = !isStopped (heard s c (carried r a) old) := by
  show isMoving { (heard s c (carried r a) old) with motion := some (motionOf r.bits) } = _
  unfold isMoving isStopped
  show (match some (motionOf r.bits) with | some .stopped => false | some _ => true | none => false) = !(some (motionOf r.bits) == some .stopped)
  cases motionOf r.bits <;> rfl

theorem levelAt_heard (floor : Nat) : levelAt (heard s c (carried r a) old) floor = levelIn r floor := by
  show ((some r.floor.toNat == some floor) && (some (r.bits.getLsbD 0) == some false)) = (decide (r.floor.toNat = floor) && !r.bits.getLsbD 0)
  rw [Bool.eq_iff_iff]
  cases r.bits.getLsbD 0 <;> simp

theorem atHome_heard : atHome s c (heard s c (carried r a) old) = levelIn r (profile s c).recallFloor := by
  rw [← levelAt_eq, levelAt_heard]

end

/-! ## The state in which the rules find the reply -/

/-- A reply once its status is recorded and a change of occupancy has been handed on (R35, R36). -/
def heardWork (s : State) (k : Link) (c : CarId) (x : CarStatus) (old : CarRecord) : Work :=
  handOccupancy (begin (heardState s k c x old)) c { old with linkStatus := .inContact } (heard s c x old)

theorem heardWork_of_other {s : State} (k : Link) (c : CarId) (x : CarStatus) {old : CarRecord} (not_queued : old.state ≠ .queued)
    (not_staged : old.state ≠ .staged) : heardWork s k c x old = begin (heardState s k c x old) :=
  handOccupancy_of_other not_queued not_staged

/-- A work with a change of the queue and the group alone: neither the spacing timer nor the counter moves. -/
structure RetOnly (w v : Work) : Prop where
  st : v.st = w.st.setRet v.st.ret
  spacing : v.st.ret.spacing = w.st.ret.spacing
  seq : v.st.ret.nextSeq = w.st.ret.nextSeq
  sheds : v.nt.sheds = w.nt.sheds

theorem RetOnly.refl (w : Work) : RetOnly w w := ⟨rfl, rfl, rfl, rfl⟩

theorem retOnly_handOccupancy (w : Work) (c : CarId) (old new : CarRecord) : RetOnly w (handOccupancy w c old new) := by
  unfold handOccupancy
  split
  · split
    · unfold reorderItem
      split
      · split <;> exact ⟨rfl, rfl, rfl, rfl⟩
      · exact RetOnly.refl w
    · exact RetOnly.refl w
  · split
    · unfold recomputeStaged
      split
      · exact ⟨rfl, rfl, rfl, rfl⟩
      · exact RetOnly.refl w
    · exact RetOnly.refl w
  · exact RetOnly.refl w

theorem reports_endExchange (s : State) (k : Link) (c : CarId) : (endExchange s k c).port = s.port := by
  rw [endExchange, countCar_eq]
  cases k <;> rfl

section
variable (s : State) (k : Link) (c : CarId) (x : CarStatus) (old : CarRecord)

theorem retOnly_heardWork : RetOnly (begin (heardState s k c x old)) (heardWork s k c x old) := retOnly_handOccupancy _ _ _ _

theorem reports_heardState : QueuedFirst s [] (heardState s k c x old) :=
  closed_reportPosition (closed_queuedFirst s []) (queuedFirst_of_port ⟨[], reportsQueued_refl s⟩ (reports_endExchange s k c))

theorem midway_heardWork : Midway s (heardWork s k c x old).st c := by
  have ret := retOnly_heardWork s k c x old
  have side := replySide_heardState s k c x old
  have rest := countedPlan_rest s c
  have plan : (heardWork s k c x old).st.plan = countedPlan s c := by rw [ret.st]; exact plan_heardState s k c x old
  have stands : (heardState s k c x old).ret = s.ret := by rw [side]
  refine ⟨⟨?_, ?_, ?_, ?_, ?_, ?_⟩, ?_⟩
  · rw [ret.st]; exact fixed_heardState s k c x old
  · exact ret.spacing.trans (congrArg Returns.spacing stands)
  · exact ret.seq.trans (congrArg Returns.nextSeq stands)
  · rw [plan, rest]
  · rw [ret.st]
    show (carLink (heardState s k c x old) c).nextTag = _
    rw [carLink_heardState_same]
    rfl
  · rw [ret.st]; exact queuedFirst_of_port (reports_heardState s k c x old) rfl
  · rw [plan, rest]

theorem acct_heardWork : (heardWork s k c x old).st.acct = s.acct := by
  rw [(retOnly_heardWork s k c x old).st]
  show (heardState s k c x old).acct = _
  rw [replySide_heardState s k c x old]

theorem svc_heardWork : (heardWork s k c x old).st.svc = s.svc := by
  rw [(retOnly_heardWork s k c x old).st]
  show (heardState s k c x old).svc = _
  rw [replySide_heardState s k c x old]

theorem plan_heardWork : (heardWork s k c x old).st.plan = countedPlan s c := by
  rw [(retOnly_heardWork s k c x old).st]
  exact plan_heardState s k c x old

theorem carLink_heardWork : carLink (heardWork s k c x old).st c = endedLink s (carLink s c) := by
  rw [(retOnly_heardWork s k c x old).st]
  exact carLink_heardState_same s k c x old

theorem lines_heardWork : (linkLine (heardWork s k c x old).st k).exchange = none := by
  rw [(retOnly_heardWork s k c x old).st]
  exact linkLine_heardState_same s k c x old

theorem record_heardWork {old : CarRecord} (had : record s c = some old) : record (heardWork s k c x old).st c = some (heard s c x old) := by
  rw [(retOnly_heardWork s k c x old).st]
  exact record_heardState_same s k c x had

theorem sheds_heardWork : (heardWork s k c x old).nt.sheds = [] := (retOnly_heardWork s k c x old).sheds

end

theorem entryOf_heardWork (s : State) (k : Link) (c : CarId) (x : CarStatus) (old : CarRecord) (d : CarId) :
    entryOf (heardWork s k c x old).st d = entryOf s d := entryOf_of_acct (acct_heardWork s k c x old) d

theorem ret_heardWork_of_other {s : State} (k : Link) (c : CarId) (x : CarStatus) {old : CarRecord} (not_queued : old.state ≠ .queued)
    (not_staged : old.state ≠ .staged) : (heardWork s k c x old).st.ret = s.ret := by
  rw [heardWork_of_other k c x not_queued not_staged]
  show (heardState s k c x old).ret = _
  rw [replySide_heardState s k c x old]

/-! ## The reply taken -/

/-- The rules' work on a reply. -/
def ruledBy (s : State) (k : Link) (c : CarId) (x : CarStatus) (old : CarRecord) : Ruled :=
  statusRules (heardWork s k c x old) c old (isFirstContact s c old) x

/-- A valid reply: the rules, the verdict, the report, the shed entries, the completion (R35, R38, R57). -/
theorem exec_of_reply {s : State} {k : Link} {x : Exchange} {r : CarReply} {old : CarRecord} {a : Authority} (replies : Replies s k x r old)
    (authority : authorityIn r = some a) {ruled : Ruled} (rules : ruledBy s k x.car (carried r a) old = ruled) {j : Judged}
    (judges : judge ruled.work x.car x.request r.verdict = j) : exec (.carReply k r) s = .next (completeWith
      (handSheds ⟨reportReply j.work.st x.car old ruled.cause j (declineOf x.request r.verdict), j.work.nt⟩)
      (declinedStop x.car x.request r.verdict)) := by
  obtain ⟨out, valid, _, had⟩ := replies
  rw [exec_of_valid out valid had authority, handReply, applyStatus_eq had]
  show Host.Outcome.next (completeWith (handSheds ((judge (ruledBy s k x.car (carried r a) old).work x.car x.request r.verdict).work.up _)) _) = _
  rw [rules, judges]
  subst rules judges
  rfl

/-- A reply to a poll. -/
theorem exec_of_poll {s : State} {k : Link} {c : CarId} {r : CarReply} {old : CarRecord} {a : Authority} (replies : Replies s k ⟨c, .poll⟩ r old)
    (authority : authorityIn r = some a) {ruled : Ruled} (rules : ruledBy s k c (carried r a) old = ruled) :
    exec (.carReply k r) s = .next (complete
      (handSheds ⟨reportReply ruled.work.st c old ruled.cause (noVerdict ruled.work) none, ruled.work.nt⟩)) :=
  exec_of_reply (x := ⟨c, .poll⟩) replies authority rules (j := noVerdict ruled.work) rfl

/-! ## The report of a reply (R38) -/

theorem fixed_reportReply (s : State) (c : CarId) (old : CarRecord) (rule : Option CarCause) (j : Judged) (decline : Option Decline) :
    (reportReply s c old rule j decline).fixed = s.fixed := closed_reportReply (closed_fixed _) rfl

theorem carReported_reportReply {s y : State} {c : CarId} {old new : CarRecord} {rule : Option CarCause} {j : Judged}
    {decline : Option Decline} (earlier : QueuedFirst s [] y) (had : record y c = some new)
    (reports : old.state ≠ new.state ∨ old.authority ≠ new.authority ∨ decline.isSome = true ∨ j.always = true) :
    CarReported s (reportReply y c old rule j decline) c old.state new.state (replyCause old new j.cause rule decline.isSome) decline := by
  have queues : (carChanged old new || decline.isSome || j.always) = true := by
    rcases reports with moved | changed | declined | always
    · have differs : (old.state != new.state) = true := bne_iff_ne.2 moved
      simp [carChanged, differs]
    · have differs : (old.authority != new.authority) = true := bne_iff_ne.2 changed
      simp [carChanged, differs]
    · simp [declined]
    · simp [always]
  simp only [reportReply, had, queues, if_true]
  exact carReported_queueReport earlier

theorem replyCause_of_moved {old new : CarRecord} (moved : old.state ≠ new.state) (rule : CarCause) (declined : Bool) :
    replyCause old new none (some rule) declined = rule := by
  have differs : (old.state != new.state) = true := bne_iff_ne.2 moved
  simp [replyCause, differs]

theorem replyCause_of_stayed {old new : CarRecord} (stayed : old.state = new.state) (link : old.linkStatus = new.linkStatus)
    (attempts : old.attempts = new.attempts) (rule : CarCause) : replyCause old new none (some rule) false = .status := by
  simp [replyCause, stayed, link, attempts]

end Sys2Proof.Proofs.Cars
end
section
/-! PROOFS. Adoption and the SETTLING form of the evaluation rule (R39, R40, R43), and what stands of them when the event is over. -/

namespace Sys2Proof.Proofs.Cars

open Sys2Proof.Machine Sys2Proof.Safety Sys2Proof.Proofs.Upkeep Sys2Proof.Proofs.IndicationLines Sys2Proof.Proofs.Ends
  Sys2Proof.Proofs.Account Sys2Proof.Proofs.Capacity Sys2Proof.Proofs.Pause

/-! ## An event that ends outside RETURN and SERVICE -/

/-- No exit of the plan state is open, and the plan does not grant. -/
def Rests (s : State) : Prop := planExit s = none ∧ granting s = false

theorem Rests.calm {s : State} (h : Rests s) : Calm s := .inl h

theorem granting_eq_false_of {s : State} {p : PlanState} (state : s.plan.state = p) (returning : p ≠ .returning) (service : p ≠ .service) :
    granting s = false :=
  granting_eq_false (by rintro (is | is) <;> rw [state] at is <;> contradiction)

theorem rests_watching {s : State} (state : s.plan.state = .watching) (util : effective s utilLine = .active) : Rests s :=
  ⟨PlanMoves.planExit_watching state util, granting_eq_false_of state (by decide) (by decide)⟩

theorem rests_outage {s : State} (state : s.plan.state = .outage) (util : effective s utilLine = .inactive)
    (off : ∀ n, (s.cap.sets.at n).status = .offline) : Rests s := by
  refine ⟨(planExit_eq_none_iff s).2 ?_, granting_eq_false_of state (by decide) (by decide)⟩
  unfold NoExit
  simp [state, util, off]

theorem rests_settling {s : State} (state : s.plan.state = .settling) (stays : GeneratorStays s) (unsettled : s.cap.settle ≠ none) : Rests s := by
  refine ⟨(planExit_eq_none_iff s).2 ?_, granting_eq_false_of state (by decide) (by decide)⟩
  unfold NoExit
  simp [state, stays, unsettled]

theorem rests_restoring {s : State} (state : s.plan.state = .restoring) (retx : effective s retxLine = .active)
    (util : effective s utilLine = .inactive) (available : ∃ n, (s.cap.sets.at n).status ≠ .offline) : Rests s := by
  refine ⟨(planExit_eq_none_iff s).2 ?_, granting_eq_false_of state (by decide) (by decide)⟩
  unfold NoExit
  obtain ⟨n, not_off⟩ := available
  simp only [state, util, retx, reduceCtorEq, false_imp_iff, true_imp_iff, true_and]
  exact ⟨n, not_off⟩

theorem Near.effective {s u : State} {c : CarId} (h : Near s u c) (l : LineId) : Machine.effective u l = Machine.effective s l :=
  effective_of_fixed h.fixed l

theorem Near.stays {s u : State} {c : CarId} (h : Near s u c) (stays : GeneratorStays s) : GeneratorStays u :=
  generatorStays_of_fixed h.fixed stays

theorem rests_of_carSide {v u : State} (side : CarSide v u) (rests : Rests v) : Rests u :=
  ⟨(planExit_of_carSide side).trans rests.1, (granting_of_carSide side).trans rests.2⟩

/-- What the rules made of the event, where it ends outside RETURN and SERVICE: the records of the car, the queue and the plan stand. -/
theorem rested_of_report {y v : State} {nt : Notes} {c : CarId} (port : PortOnly y v) (spared : Spared nt y c) (rests : Rests y) :
    record (complete (handSheds ⟨v, nt⟩)) c = record y c ∧ (complete (handSheds ⟨v, nt⟩)).ret = y.ret
      ∧ (complete (handSheds ⟨v, nt⟩)).plan = y.plan := by
  have apart := apart_of_report port spared
  obtain ⟨exits, idle⟩ := rests_of_carSide apart.side rests
  have ends := completeWith_of_resting exits idle none
  obtain ⟨t, driven, leaves⟩ := driven_eq (handSheds ⟨v, nt⟩).st
  have made : complete (handSheds ⟨v, nt⟩) = t := ends.trans driven
  rw [made, ← apart.record]
  refine ⟨?_, ?_, ?_⟩
  · unfold record; rw [leaves]
  · rw [leaves, apart.side]
  · rw [leaves, apart.side]

/-! ## Adoption -/

/-- A moving car adopted by its authority (R39, R43). -/
def adopt (w : Work) (c : CarId) (r : CarRecord) : Work := if underLocal r then deferCar w c else adoptCar w c

/-- What an adoption makes of the car. -/
structure AdoptedBy (u v : State) (c : CarId) (r : CarRecord) : Prop where
  moved : Moved u v c
  unshed : Unshed v c
  record : record v c = some (r.goTo (adoptedState r.authority))
  stood : Local r.authority → Stood u v c
  placed : ¬ Local r.authority → (profile u c).enrolled = true → mayPlace u.plan.state .stopNext = true → Placed u v c .stopNext none
  entry : ¬ Local r.authority → ∃ n, entryOf v c = some { untestedEntry u c true with permit := n }

theorem adoptedState_of_local {a : Option Authority} (h : Local a) : adoptedState a = .deferred := if_pos h

theorem adoptedState_of_not_local {a : Option Authority} (h : ¬ Local a) : adoptedState a = .stopping := if_neg h

theorem adoptedBy_adopt {w : Work} {c : CarId} {r : CarRecord} (had : record w.st c = some r) (none : entryOf w.st c = none) :
    AdoptedBy w.st (adopt w c r).st c r := by
  unfold adopt
  by_cases isLocal : Local r.authority
  · rw [if_pos ((underLocal_iff r).2 isLocal)]
    have entered := entered_deferCar none
    refine ⟨entered.moved, entered.unshed, ?_, fun _ => entered.stood, fun other => absurd isLocal other, fun other => absurd isLocal other⟩
    rw [entered.record, had, adoptedState_of_local isLocal]
    rfl
  · rw [if_neg (fun now => isLocal ((underLocal_iff r).1 now))]
    obtain ⟨entered, placed⟩ := entered_adoptCar none
    refine ⟨entered.moved, entered.unshed, ?_, fun now => absurd now isLocal, fun _ => placed, fun _ => entered.entry⟩
    rw [entered.record, had, adoptedState_of_not_local isLocal]
    rfl

theorem slotted_of_midway {s u v t : State} {c : CarId} {k : CmdKind} (mid : Near s u c) (placed : Placed u v c k none) (outcome : Outcome v t c)
    (fixed : v.fixed = u.fixed) : Slotted s t c k none := by
  refine slotted_of_placed outcome.link ?_ (congrArg Fixed.setup (fixed.trans mid.fixed))
  unfold Placed at *
  rw [← mid.tag, ← mid.time]
  exact placed

theorem stood_of_midway {s u v t : State} {c : CarId} (mid : Near s u c) (stood : Stood u v c) (outcome : Outcome v t c) : Stood s t c := by
  obtain ⟨e, found, rest⟩ := stood
  exact stood_congr mid.setup ⟨e, (outcome.entry c).trans found, rest⟩

/-- An adoption stands when the event is over. -/
theorem adopted_of_outcome {s u v t : State} {c : CarId} {r : CarRecord} (mid : Near s u c) (adopted : AdoptedBy u v c r)
    (outcome : Outcome v t c) (same : record t c = record v c) (enrols : (profile s c).enrolled = true)
    (may : mayPlace s.plan.state .stopNext = true) : Adopted s t c r.authority := by
  refine ⟨_, same.trans adopted.record, fun isLocal => ⟨adoptedState_of_local isLocal, stood_of_midway mid (adopted.stood isLocal) outcome⟩,
    fun not_local => ⟨adoptedState_of_not_local not_local, ?_, ?_⟩⟩
  · exact slotted_of_midway mid (adopted.placed not_local (by rw [mid.profile]; exact enrols) (by rw [mid.state]; exact may)) outcome
      adopted.moved.fixed
  · obtain ⟨n, found⟩ := adopted.entry not_local
    refine ⟨_, (outcome.entry c).trans found, rfl, rfl, rfl, ?_, ?_⟩
    · exact congrArg (fun p => (worstFigures p).draw) (mid.profile c)
    · exact congrArg (fun p => (worstFigures p).regen) (mid.profile c)

/-! ## The SETTLING form -/

/-- The state to which the SETTLING form takes a car (R40). -/
def settledInto (r : CarRecord) : CarState :=
  if underLocal r then .deferred else if outOfOrder r || r.holdOut then .held else .idle

/-- What the SETTLING form makes of the car. -/
structure SettledBy (u v : State) (c : CarId) (r : CarRecord) : Prop where
  moved : Moved u v c
  unshed : Unshed v c
  record : record v c = some ({ r with parkOut := false }.goTo (settledInto r))
  stood : Local r.authority → Stood u v c
  placed : ¬ Local r.authority → (profile u c).enrolled = true → mayPlace u.plan.state .hold = true → Placed u v c .hold none
  acct : ¬ Local r.authority → v.acct = u.acct

theorem record_clearPark {s : State} {c : CarId} {r : CarRecord} (had : record s c = some r) :
    record (clearPark s c) c = some { r with parkOut := false } := by
  rw [clearPark, record_alterCar_same, had]
  rfl

theorem evaluateSettling_eq {w : Work} {c : CarId} {r : CarRecord} (had : record w.st c = some r) : evaluateSettling w c
    = if underLocal r then deferCar (w.up (fun s => clearPark s c)) c
      else w.up (fun s => holdAs (clearPark s c) c (if outOfOrder r || r.holdOut then .held else .idle)) := by
  simp only [evaluateSettling, had]
  split
  · rfl
  · split <;> rfl

theorem settledBy_evaluateSettling {w : Work} {c : CarId} {r : CarRecord} (had : record w.st c = some r) (none : entryOf w.st c = none) :
    SettledBy w.st (evaluateSettling w c).st c r := by
  have open_moved : Moved w.st (clearPark w.st c) c := moved_alterCar _ c _
  have opened := record_clearPark had
  have none' : entryOf (clearPark w.st c) c = Option.none := none
  rw [evaluateSettling_eq had]
  cases now : underLocal r with
  | true =>
    have into : settledInto r = .deferred := if_pos now
    have isLocal := (underLocal_iff r).1 now
    have entered := entered_deferCar (w := w.up (fun s => clearPark s c)) none'
    exact ⟨open_moved.trans entered.moved, entered.unshed, by rw [into]; exact entered.record.trans (congrArg _ opened), fun _ => stood_congr rfl entered.stood,
      fun other => absurd isLocal other, fun other => absurd isLocal other⟩
  | false =>
    have isLocal : ¬ Local r.authority := fun h => by rw [(underLocal_iff r).2 h] at now; cases now
    have into : settledInto r = if outOfOrder r || r.holdOut then .held else .idle := if_neg (by rw [now]; decide)
    have steered := steered_holdAs (clearPark w.st c) c (if outOfOrder r || r.holdOut then .held else .idle)
    exact ⟨open_moved.trans steered.moved, unshed_of_no_entry none' steered.acct, by rw [into]; exact steered.record.trans (congrArg _ opened),
      fun now => absurd now isLocal, fun _ enrols may => placed_congr rfl rfl (steered.placed enrols may), fun _ => steered.acct⟩

theorem settledInto_of_local {r : CarRecord} (h : Local r.authority) : settledInto r = .deferred := if_pos ((underLocal_iff r).2 h)

theorem settledInto_of_held {r : CarRecord} (not_local : ¬ Local r.authority) (h : r.authority = some .outOfOrder ∨ r.holdOut = true) :
    settledInto r = .held := by
  rw [settledInto, if_neg (fun now => not_local ((underLocal_iff r).1 now)), if_pos (by rw [Bool.or_eq_true, outOfOrder_iff]; exact h)]

theorem settledInto_of_free {r : CarRecord} (sequencer : r.authority = some .sequencer) (free : r.holdOut = false) : settledInto r = .idle := by
  simp [settledInto, underLocal, isLocal, outOfOrder, sequencer, free]

end Sys2Proof.Proofs.Cars
end
section
/-! PROOFS. First contact (R39): what a reply makes of an ABSENT car, or in SETTLING of an IDLE one not yet counted, by plan state. -/

namespace Sys2Proof.Proofs.Cars

open Sys2Proof.Machine Sys2Proof.Safety Sys2Proof.Proofs.Upkeep Sys2Proof.Proofs.IndicationLines Sys2Proof.Proofs.Ends
  Sys2Proof.Proofs.Account Sys2Proof.Proofs.Capacity Sys2Proof.Proofs.Pause

/-! ## How a reply to a poll ends -/

/-- What a poll's reply leaves whatever the rules made of it, and the report that they brought. -/
structure Told (s y t : State) (c : CarId) (old : CarRecord) (cause : Option CarCause) : Prop where
  settings : SettingsKept s t
  host : HostSideKept s t
  cap : t.cap = s.cap
  reported : ∀ (new : CarRecord) (rule : CarCause), record y c = some new → old.state ≠ new.state → cause = some rule →
    CarReported s t c old.state new.state rule none
  changed : ∀ (new : CarRecord) (rule : CarCause), record y c = some new → old.authority ≠ new.authority → old.linkStatus = new.linkStatus →
    old.attempts = new.attempts → cause = some rule →
    CarReported s t c old.state new.state (if old.state = new.state then .status else rule) none

/-- The end of a poll's reply, from the state `y` that the rules made of it. -/
structure PollEnd (s y t : State) (c : CarId) (old : CarRecord) (cause : Option CarCause) : Prop extends Told s y t c old cause where
  outcome : Outcome y t c
  rested : Rests y → record t c = record y c ∧ t.ret = y.ret ∧ t.plan = y.plan

theorem fixed_ruledBy (s : State) (k : Link) (c : CarId) (x : CarStatus) (old : CarRecord) : (ruledBy s k c x old).work.st.fixed = s.fixed :=
  closed_statusRules (closed_fixed _) (midway_heardWork s k c x old).fixed

theorem told {s : State} {k : Link} {c : CarId} {old : CarRecord} {x : CarStatus} {ruled : Ruled} (rules : ruledBy s k c x old = ruled) :
    Told s ruled.work.st (complete (handSheds ⟨reportReply ruled.work.st c old ruled.cause (noVerdict ruled.work) none, ruled.work.nt⟩)) c old
      ruled.cause := by
  have earlier : QueuedFirst s [] ruled.work.st := by
    rw [← rules]
    exact closed_statusRules (closed_queuedFirst s []) (midway_heardWork s k c x old).reports
  have fixed : (complete (handSheds ⟨reportReply ruled.work.st c old ruled.cause (noVerdict ruled.work) none, ruled.work.nt⟩)).fixed = s.fixed := by
    have kept : (reportReply ruled.work.st c old ruled.cause (noVerdict ruled.work) none).fixed = s.fixed := by
      rw [fixed_reportReply, ← rules]
      exact fixed_ruledBy s k c x old
    exact (completeWith_fixed _ _).trans (closed_handSheds (w := ⟨_, _⟩) (closed_fixed _) kept)
  obtain ⟨settings, host, cap⟩ := kept_of_fixed_eq fixed
  have stands : ∀ (new : CarRecord), record ruled.work.st c = some new → old.state ≠ new.state ∨ old.authority ≠ new.authority →
      CarReported s (complete (handSheds ⟨reportReply ruled.work.st c old ruled.cause (noVerdict ruled.work) none, ruled.work.nt⟩)) c old.state
        new.state (replyCause old new none ruled.cause false) none := fun new had differs =>
    carReported_of_report (carReported_reportReply (rule := ruled.cause) (j := noVerdict ruled.work) (decline := none) earlier had
      (differs.imp id .inl))
  refine ⟨settings, host, cap, fun new rule had moved is => ?_, fun new rule had changed link attempts is => ?_⟩
  · have reported := stands new had (.inl moved)
    rw [is, replyCause_of_moved moved] at reported
    exact is ▸ reported
  · have reported := stands new had (.inr changed)
    rw [is] at reported
    by_cases stayed : old.state = new.state
    · rw [if_pos stayed]
      rw [replyCause_of_stayed stayed link attempts] at reported
      exact is ▸ reported
    · rw [if_neg stayed]
      rw [replyCause_of_moved stayed] at reported
      exact is ▸ reported

theorem pollEnd {s : State} {k : Link} {c : CarId} {r : CarReply} {old : CarRecord} {a : Authority} (replies : Replies s k ⟨c, .poll⟩ r old)
    (authority : authorityIn r = some a) {ruled : Ruled} (rules : ruledBy s k c (carried r a) old = ruled)
    (spared : Spared ruled.work.nt ruled.work.st c) (calm : Calm ruled.work.st) :
    ∃ t, exec (.carReply k r) s = .next t ∧ PollEnd s ruled.work.st t c old ruled.cause := by
  have port := portOnly_reportReply ruled.work.st c old ruled.cause (noVerdict ruled.work) none
  exact ⟨_, exec_of_poll replies authority rules, told rules, outcome_of_report port (fixed_reportReply _ _ _ _ _ _) spared calm,
    rested_of_report port spared⟩

/-! ## The rule -/

theorem ruledBy_first {s : State} {k : Link} {c : CarId} {x : CarStatus} {old : CarRecord} (had : record s c = some old)
    (first : isFirstContact s c old = true) : ruledBy s k c x old = firstContact (heardWork s k c x old) c (heard s c x old) := by
  simp only [ruledBy, statusRules, record_heardWork s k c x had, first, if_true]

theorem isFirstContact_of_absent {s : State} {c : CarId} {old : CarRecord} (absent : old.state = .absent) : isFirstContact s c old = true := by
  simp [isFirstContact, absent]

theorem isFirstContact_of_uncounted {s : State} {c : CarId} {old : CarRecord} (settling : s.plan.state = .settling) (idle : old.state = .idle)
    (census : s.plan.census = .inProgress) (uncounted : s.plan.counted.at c = false) : isFirstContact s c old = true := by
  simp [isFirstContact, settling, idle, census, uncounted]

/-- The states in which a reply is no matter for the queue or group. -/
def Outside (old : CarRecord) : Prop := old.state ≠ .queued ∧ old.state ≠ .staged

section
variable {w : Work} {c : CarId} {r : CarRecord}

theorem firstContact_moving (state : w.st.plan.state = .settling ∨ w.st.plan.state = .restoring ∨ Granting w.st) (moving : isMoving r = true) :
    firstContact w c r = ⟨adopt w c r, some .adoption⟩ := by
  rcases state with state | state | state | state <;> simp only [firstContact, state, moving, if_true] <;> rfl

theorem firstContact_stopped (state : w.st.plan.state = .settling ∨ Granting w.st) (stopped : isMoving r = false) :
    firstContact w c r = ⟨evaluate w c false, some .contact⟩ := by
  rcases state with state | state | state <;> simp [firstContact, state, stopped]

theorem firstContact_restoring (state : w.st.plan.state = .restoring) (stopped : isMoving r = false) :
    firstContact w c r = ⟨w.up (fun s => holdAs s c .idle), some .contact⟩ := by
  simp [firstContact, state, stopped]

theorem firstContact_outage (state : w.st.plan.state = .outage) :
    firstContact w c r = ⟨w.up (fun s => holdAs s c .idle), some .contact⟩ := by
  simp [firstContact, state]

theorem firstContact_watching (state : w.st.plan.state = .watching) : firstContact w c r = ⟨w.up (fun s =>
    if s.plan.owed.at c then place (moveCar s c .idle) c .handBack else moveCar s c .idle), some .contact⟩ := by
  simp only [firstContact, state]

end

end Sys2Proof.Proofs.Cars
end
section
/-! PROOFS. First contact in each plan state (R39). -/

namespace Sys2Proof.Proofs.Cars

open Sys2Proof.Machine Sys2Proof.Safety Sys2Proof.Proofs.Upkeep Sys2Proof.Proofs.IndicationLines Sys2Proof.Proofs.Ends
  Sys2Proof.Proofs.Account Sys2Proof.Proofs.Capacity Sys2Proof.Proofs.Pause

section
variable {s : State} {k : Link} {c : CarId} {r : CarReply} {old : CarRecord} (replies : Replies s k ⟨c, .poll⟩ r old)

theorem owed_heardWork (s : State) (k : Link) (c : CarId) (x : CarStatus) (old : CarRecord) : (heardWork s k c x old).st.plan.owed = s.plan.owed := by
  rw [plan_heardWork, countedPlan_rest]

theorem sheds_of_heardWork (s : State) (k : Link) (c : CarId) (x : CarStatus) (old : CarRecord) (y : State) :
    Spared (heardWork s k c x old).nt y c := .inl (sheds_heardWork s k c x old)

/-- The state of a car IDLE in WATCHING, with HAND-BACK placed when it is owed (R39, R128). -/
def contactState (h : State) (c : CarId) : State :=
  if h.plan.owed.at c then place (moveCar h c .idle) c .handBack else moveCar h c .idle

theorem contactState_moved (h : State) (c : CarId) : Moved h (contactState h c) c ∧ (contactState h c).acct = h.acct
    ∧ record (contactState h c) c = (record h c).map (CarRecord.goTo .idle) := by
  unfold contactState
  split
  · exact ⟨(moved_moveCar h c .idle).trans (moved_of_linkOnly (linkOnly_placeCommand _ c .handBack none none) c),
      acct_place _ c .handBack, by rw [record_place, record_moveCar_same]⟩
  · exact ⟨moved_moveCar h c .idle, rfl, record_moveCar_same _ _ _⟩

theorem contactState_placed {h : State} {c : CarId} (owed : h.plan.owed.at c = true) (enrols : (profile h c).enrolled = true)
    (watching : h.plan.state = .watching) : Placed h (contactState h c) c .handBack none := by
  rw [contactState, if_pos owed]
  refine placed_place (s := h) (v := moveCar h c .idle) enrols (by show mayPlace h.plan.state _ = true; rw [watching]; rfl) ?_ rfl
  rw [carLink_moveCar_same, (leaveSilent_slot _ _).2]

end

/-- What the rules find of a reply. -/
structure HeardAt (s : State) (h : Work) (c : CarId) (now old : CarRecord) : Prop where
  mid : Midway s h.st c
  had : record h.st c = some now
  acct : h.st.acct = s.acct
  svc : h.st.svc = s.svc
  plan : h.st.plan = countedPlan s c
  sheds : h.nt.sheds = []
  state : now.state = old.state
  holdOut : now.holdOut = old.holdOut
  attempts : now.attempts = old.attempts
  contact : now.linkStatus = .inContact

theorem heardAt {s : State} {k : Link} {c : CarId} {old : CarRecord} (x : CarStatus) (had : record s c = some old) :
    HeardAt s (heardWork s k c x old) c (heard s c x old) old :=
  ⟨midway_heardWork s k c x old, record_heardWork s k c x had, acct_heardWork s k c x old,
    svc_heardWork s k c x old, plan_heardWork s k c x old, sheds_heardWork s k c x old, rfl, rfl, rfl, rfl⟩

theorem HeardAt.owed {s : State} {h : Work} {c : CarId} {now old : CarRecord} (at_h : HeardAt s h c now old) : h.st.plan.owed = s.plan.owed := by
  rw [at_h.plan, countedPlan_rest]

theorem HeardAt.entry {s : State} {h : Work} {c : CarId} {now old : CarRecord} (at_h : HeardAt s h c now old) (d : CarId) :
    entryOf h.st d = entryOf s d := entryOf_of_acct at_h.acct d

/-- A reply that makes a first contact, as its rule finds it. -/
structure Contact (s : State) (k : Link) (c : CarId) (r : CarReply) (old : CarRecord) (h : Work) (now : CarRecord) : Prop where
  found : HeardAt s h c now old
  ret : h.st.ret = s.ret
  authority : now.authority = authorityIn r
  stopped : isStopped now = true ↔ StoppedIn r
  moving : isMoving now = !isStopped now
  home : atHome s c now = levelIn r (profile s c).recallFloor
  ends : ∀ ruled, firstContact h c now = ruled → Spared ruled.work.nt ruled.work.st c → Calm ruled.work.st →
    ∃ t, exec (.carReply k r) s = .next t ∧ PollEnd s ruled.work.st t c old ruled.cause

theorem contact_of_first {s : State} {k : Link} {c : CarId} {r : CarReply} {old : CarRecord} (replies : Replies s k ⟨c, .poll⟩ r old)
    (first : isFirstContact s c old = true) (not_queued : old.state ≠ .queued) (not_staged : old.state ≠ .staged) :
    ∃ h now, Contact s k c r old h now := by
  obtain ⟨a, authority, _⟩ := exists_status replies.2.1
  have had := replies.2.2.2
  refine ⟨_, _, heardAt (k := k) (carried r a) had, ret_heardWork_of_other k c _ not_queued not_staged, authority.symm, isStopped_heard_iff s c r a old,
    isMoving_heard s c r a old, atHome_heard s c r a old, fun ruled rules spared calm => ?_⟩
  exact pollEnd replies authority ((ruledBy_first had first).trans rules) spared calm

theorem Contact.of_absent {s : State} {k : Link} {c : CarId} {r : CarReply} {old : CarRecord} (replies : Replies s k ⟨c, .poll⟩ r old)
    (absent : old.state = .absent) : ∃ h now, Contact s k c r old h now :=
  contact_of_first replies (isFirstContact_of_absent absent) (by rw [absent]; decide) (by rw [absent]; decide)

theorem spared_of_no_sheds {nt : Notes} (none : nt.sheds = []) (y : State) (c : CarId) : Spared nt y c := .inl none

section
variable {s : State} {k : Link} {c : CarId} {r : CarReply} {old now : CarRecord} {h : Work} (contact : Contact s k c r old h now)
include contact

theorem Contact.isMoving_iff : isMoving now = true ↔ ¬ StoppedIn r := by
  rw [contact.moving, Bool.not_eq_true', ← Bool.not_eq_true, contact.stopped]

theorem firstContact_in_watching (absent : old.state = .absent) (enrols : (profile s c).enrolled = true) (watching : s.plan.state = .watching)
    (util : effective s utilLine = .active) :
    ∃ t new, exec (.carReply k r) s = .next t ∧ SettingsKept s t ∧ HostSideKept s t ∧ t.cap = s.cap ∧ t.acct = s.acct
      ∧ t.ret = s.ret ∧ t.plan.state = .watching ∧ record t c = some new ∧ new.state = .idle ∧ new.linkStatus = .inContact
      ∧ CarReported s t c .absent .idle .contact none ∧ (s.plan.owed.at c = true → Slotted s t c .handBack none) := by
  have mid := contact.found.mid
  have watching_h := mid.state.trans watching
  obtain ⟨moved, acct, rec⟩ := contactState_moved h.st c
  rw [contact.found.had] at rec
  have rests : Rests (contactState h.st c) :=
    rests_watching (by rw [moved.plan]; exact watching_h) ((effective_of_fixed (moved.fixed.trans mid.fixed) _).trans util)
  obtain ⟨t, runs, ends⟩ := contact.ends _ (firstContact_watching watching_h) (spared_of_no_sheds contact.found.sheds _ c) rests.calm
  obtain ⟨same, ret, plan⟩ := ends.rested rests
  have reported := ends.reported _ .contact rec (by rw [absent]; intro same; cases same) rfl
  rw [absent] at reported
  refine ⟨t, _, runs, ends.settings, ends.host, ends.cap, ends.outcome.acct.trans (acct.trans contact.found.acct),
    ret.trans (moved.ret.trans contact.ret), ?_, same.trans rec, rfl, contact.found.contact, reported, fun owed => ?_⟩
  · rw [plan]
    exact (congrArg PlanCtl.state moved.plan).trans watching_h
  · have owed_h : h.st.plan.owed.at c = true := by rw [contact.found.owed]; exact owed
    exact slotted_of_midway mid.toNear (contactState_placed owed_h (by rw [mid.profile]; exact enrols) watching_h) ends.outcome moved.fixed

/-- A car IDLE with HOLD on first contact, in OUTAGE and for a stopped car in RESTORING (R39). -/
theorem firstContact_held (absent : old.state = .absent) (enrols : (profile s c).enrolled = true) (may : mayPlace s.plan.state .hold = true)
    (rests : ∀ y, y.plan = h.st.plan → y.fixed = s.fixed → Rests y)
    (rule : firstContact h c now = ⟨h.up (fun s => holdAs s c .idle), some .contact⟩) :
    ∃ t, exec (.carReply k r) s = .next t ∧ SettingsKept s t ∧ HostSideKept s t ∧ t.cap = s.cap ∧ t.acct = s.acct
      ∧ t.ret = s.ret ∧ Held s t c .idle ∧ CarReported s t c .absent .idle .contact none := by
  have mid := contact.found.mid
  have steered := steered_holdAs h.st c .idle
  have here : record (holdAs h.st c .idle) c = some (now.goTo .idle) := by rw [steered.record, contact.found.had]; rfl
  have rests_y : Rests (holdAs h.st c .idle) := rests _ steered.moved.plan (steered.moved.fixed.trans mid.fixed)
  obtain ⟨t, runs, ends⟩ := contact.ends _ rule (spared_of_no_sheds contact.found.sheds _ c) rests_y.calm
  obtain ⟨same, ret, _⟩ := ends.rested rests_y
  have reported := ends.reported _ .contact here (by rw [absent]; intro same; cases same) rfl
  rw [absent] at reported
  refine ⟨t, runs, ends.settings, ends.host, ends.cap, ends.outcome.acct.trans (steered.acct.trans contact.found.acct),
    ret.trans (steered.moved.ret.trans contact.ret), ⟨⟨_, same.trans here, rfl⟩, ?_⟩, reported⟩
  exact slotted_of_midway mid.toNear (steered.placed (by rw [mid.profile]; exact enrols) (by rw [mid.state]; exact may)) ends.outcome steered.moved.fixed

/-- A moving car adopted on first contact (R39). -/
theorem firstContact_adopted (not_stopping : old.state ≠ .stopping) (not_deferred : old.state ≠ .deferred)
    (enrols : (profile s c).enrolled = true) (may : mayPlace s.plan.state .stopNext = true) (none : entryOf s c = Option.none)
    (state : h.st.plan.state = .settling ∨ h.st.plan.state = .restoring ∨ Granting h.st)
    (calm : ∀ y, y.plan = h.st.plan → y.ret = h.st.ret → y.fixed = s.fixed → Calm y)
    (moves : ¬ StoppedIn r) :
    ∃ t, exec (.carReply k r) s = .next t ∧ PollEnd s (adopt h c now).st t c old (some .adoption)
      ∧ Moved h.st (adopt h c now).st c
      ∧ (record t c = record (adopt h c now).st c → Adopted s t c (authorityIn r)
        ∧ CarReported s t c old.state (adoptedState (authorityIn r)) .adoption Option.none) := by
  have mid := contact.found.mid
  have adopted := adoptedBy_adopt contact.found.had ((contact.found.entry c).trans none)
  have rule := firstContact_moving (c := c) state (contact.isMoving_iff.2 moves)
  obtain ⟨t, runs, ends⟩ := contact.ends _ rule (.inr adopted.unshed)
    (calm _ adopted.moved.plan adopted.moved.ret (adopted.moved.fixed.trans mid.fixed))
  refine ⟨t, runs, ends, adopted.moved, fun same => ?_⟩
  have result := adopted_of_outcome mid.toNear adopted ends.outcome same enrols may
  have reported := ends.reported _ .adoption adopted.record (fun same => by
    rw [same] at not_stopping not_deferred
    unfold adoptedState CarRecord.goTo at *
    split at not_stopping <;> simp_all) rfl
  rw [contact.authority] at result reported
  exact ⟨result, reported⟩

end

end Sys2Proof.Proofs.Cars
end
section
/-! PROOFS. First contact in SETTLING, RETURN and SERVICE (R39, R40), and the obligation over every plan state. -/

namespace Sys2Proof.Proofs.Cars

open Sys2Proof.Machine Sys2Proof.Safety Sys2Proof.Proofs.Upkeep Sys2Proof.Proofs.IndicationLines Sys2Proof.Proofs.Ends
  Sys2Proof.Proofs.Account Sys2Proof.Proofs.Capacity Sys2Proof.Proofs.Pause

theorem evaluate_of_settling {w : Work} (settling : w.st.plan.state = .settling) (c : CarId) (claim : Bool) : evaluate w c claim = evaluateSettling w c := by
  simp only [evaluate, settling]

section
variable {s : State} {k : Link} {c : CarId} {r : CarReply} {old now : CarRecord} {h : Work} (contact : Contact s k c r old h now)
include contact

theorem Contact.isMoving_of_stopped (stopped : StoppedIn r) : isMoving now = false := by
  rw [contact.moving, contact.stopped.2 stopped]
  rfl

/-- The settling form at the end of an event (R40). -/
theorem settled_of_outcome {v t : State} (settled : SettledBy h.st v c now) (outcome : Outcome v t c) (same : record t c = record v c)
    (enrols : (profile s c).enrolled = true) (may : mayPlace s.plan.state .hold = true) :
    record t c = some ({ now with parkOut := false }.goTo (settledInto now))
      ∧ (Local (authorityIn r) → settledInto now = .deferred ∧ Stood s t c)
      ∧ (¬ Local (authorityIn r) → Slotted s t c .hold none ∧ t.acct = s.acct) := by
  have mid := contact.found.mid
  refine ⟨same.trans settled.record, ?_, ?_⟩ <;> rw [← contact.authority]
  · exact fun isLocal => ⟨settledInto_of_local isLocal, stood_of_midway mid.toNear (settled.stood isLocal) outcome⟩
  · exact fun not_local => ⟨slotted_of_midway mid.toNear (settled.placed not_local (by rw [mid.profile]; exact enrols) (by rw [mid.state]; exact may))
      outcome settled.moved.fixed, outcome.acct.trans ((settled.acct not_local).trans contact.found.acct)⟩

theorem firstContact_in_settling (outside : old.state ≠ .stopping ∧ old.state ≠ .deferred) (enrols : (profile s c).enrolled = true)
    (settling : s.plan.state = .settling) (stays : GeneratorStays s) (unsettled : s.cap.settle ≠ none) (none : entryOf s c = Option.none) :
    ∃ t, exec (.carReply k r) s = .next t ∧ SettingsKept s t ∧ HostSideKept s t ∧ t.cap = s.cap ∧ t.ret = s.ret
      ∧ (s.plan.census = .inProgress → t.plan.counted.at c = true)
      ∧ (StoppedIn r → ∃ new, record t c = some new
          ∧ (old.state ≠ new.state → CarReported s t c old.state new.state .contact Option.none)
          ∧ (Local (authorityIn r) → new.state = .deferred ∧ Stood s t c)
          ∧ (¬ Local (authorityIn r) → authorityIn r = some .outOfOrder ∨ old.holdOut = true →
              new.state = .held ∧ Slotted s t c .hold Option.none ∧ t.acct = s.acct)
          ∧ (authorityIn r = some .sequencer → old.holdOut = false →
              new.state = .idle ∧ Slotted s t c .hold Option.none ∧ t.acct = s.acct))
      ∧ (¬ StoppedIn r → Adopted s t c (authorityIn r)
          ∧ CarReported s t c old.state (adoptedState (authorityIn r)) .adoption Option.none) := by
  have mid := contact.found.mid
  have settling_h := mid.state.trans settling
  have rests : ∀ y : State, y.plan = h.st.plan → y.fixed = s.fixed → Rests y := fun y plan fixed => by
    refine rests_settling (by rw [plan]; exact settling_h) (generatorStays_of_fixed fixed stays) ?_
    rw [show y.cap = s.cap from congrArg Fixed.cap fixed]
    exact unsettled
  have counted : ∀ t : State, t.plan = h.st.plan → s.plan.census = .inProgress → t.plan.counted.at c = true := fun t plan counting => by
    rw [plan, contact.found.plan]
    exact countedPlan_counted c counting
  by_cases stopped : StoppedIn r
  · have settled := settledBy_evaluateSettling contact.found.had ((contact.found.entry c).trans none)
    rw [← evaluate_of_settling settling_h c false] at settled
    have rests_y := rests _ settled.moved.plan (settled.moved.fixed.trans mid.fixed)
    obtain ⟨t, runs, ends⟩ := contact.ends _ (firstContact_stopped (c := c) (.inl settling_h) (contact.isMoving_of_stopped stopped))
      (.inr settled.unshed) rests_y.calm
    obtain ⟨same, ret, plan⟩ := ends.rested rests_y
    obtain ⟨here, isLocal, not_local⟩ := settled_of_outcome contact settled ends.outcome same enrols (by rw [settling]; rfl)
    refine ⟨t, runs, ends.settings, ends.host, ends.cap, ret.trans (settled.moved.ret.trans contact.ret),
      counted t (plan.trans settled.moved.plan), fun _ => ⟨_, here, fun moved => ?_, isLocal, fun other held => ?_, fun sequencer free => ?_⟩,
      fun moves => absurd stopped moves⟩
    · exact ends.reported _ .contact settled.record moved rfl
    · refine ⟨settledInto_of_held (by rw [contact.authority]; exact other) ?_, not_local other⟩
      rw [contact.authority, contact.found.holdOut]
      exact held
    · refine ⟨settledInto_of_free (by rw [contact.authority]; exact sequencer) (contact.found.holdOut.trans free), not_local ?_⟩
      rw [sequencer]
      simp [Local]
  · obtain ⟨t, runs, ends, moved, adopted⟩ := firstContact_adopted contact outside.1 outside.2 enrols (by rw [settling]; rfl) none (.inl settling_h)
      (fun y plan _ fixed => (rests y plan fixed).calm) stopped
    obtain ⟨same, ret, plan⟩ := ends.rested (rests _ moved.plan (moved.fixed.trans mid.fixed))
    exact ⟨t, runs, ends.settings, ends.host, ends.cap, ret.trans (moved.ret.trans contact.ret), counted t (plan.trans moved.plan),
      fun now => absurd now stopped, fun _ => adopted same⟩

theorem firstContact_in_restoring (absent : old.state = .absent) (enrols : (profile s c).enrolled = true)
    (restoring : s.plan.state = .restoring) (retx : effective s retxLine = .active) (util : effective s utilLine = .inactive)
    (available : ∃ n, (s.cap.sets.at n).status ≠ .offline) (none : entryOf s c = Option.none) :
    ∃ t, exec (.carReply k r) s = .next t ∧ SettingsKept s t ∧ HostSideKept s t ∧ t.cap = s.cap
      ∧ (StoppedIn r → Held s t c .idle ∧ t.acct = s.acct ∧ CarReported s t c .absent .idle .contact Option.none)
      ∧ (¬ StoppedIn r → Adopted s t c (authorityIn r)
          ∧ CarReported s t c .absent (adoptedState (authorityIn r)) .adoption Option.none) := by
  have mid := contact.found.mid
  have restoring_h := mid.state.trans restoring
  have rests : ∀ y : State, y.plan = h.st.plan → y.fixed = s.fixed → Rests y := fun y plan fixed => by
    refine rests_restoring (by rw [plan]; exact restoring_h) ((effective_of_fixed fixed _).trans retx) ((effective_of_fixed fixed _).trans util) ?_
    rw [show y.cap = s.cap from congrArg Fixed.cap fixed]
    exact available
  have may : ∀ kind, mayPlace s.plan.state kind = true := fun kind => by rw [restoring]; rfl
  by_cases stopped : StoppedIn r
  · obtain ⟨t, runs, settings, host, cap, acct, _, held, reported⟩ := firstContact_held contact absent enrols (may _) rests
      (firstContact_restoring (c := c) restoring_h (contact.isMoving_of_stopped stopped))
    exact ⟨t, runs, settings, host, cap, fun _ => ⟨held, acct, reported⟩, fun moves => absurd stopped moves⟩
  · obtain ⟨t, runs, ends, moved, adopted⟩ := firstContact_adopted contact (by rw [absent]; decide) (by rw [absent]; decide) enrols (may _) none
      (.inr (.inl restoring_h)) (fun y plan _ fixed => (rests y plan fixed).calm) stopped
    obtain ⟨same, _, _⟩ := ends.rested (rests _ moved.plan (moved.fixed.trans mid.fixed))
    exact ⟨t, runs, ends.settings, ends.host, ends.cap, fun now => absurd now stopped, fun _ => absent ▸ adopted same⟩

theorem firstContact_paused (absent : old.state = .absent) (paused : Paused s c) (none : entryOf s c = Option.none) :
    ∃ t, exec (.carReply k r) s = .next t ∧ SettingsKept s t ∧ HostSideKept s t ∧ t.cap = s.cap
      ∧ (StoppedIn r →
          Evaluated s t c (authorityIn r) old.holdOut old.attempts (levelIn r (profile s c).recallFloor)
          ∧ CarReported s t c .absent
              (evaluationState s (authorityIn r) old.holdOut old.attempts (levelIn r (profile s c).recallFloor))
              .contact Option.none)
      ∧ (¬ StoppedIn r → Adopted s t c (authorityIn r)
          ∧ CarReported s t c .absent (adoptedState (authorityIn r)) .adoption Option.none) := by
  obtain ⟨grants, stays, _, _, enrols, spaced, away⟩ := paused
  have mid := contact.found.mid
  have none_h := (contact.found.entry c).trans none
  have away_h : ∀ x ∈ h.st.ret.queue, x.car ≠ c := by rw [contact.ret]; exact away
  by_cases stopped : StoppedIn r
  · obtain ⟨unshed, calm⟩ := calm_evaluate mid grants stays spaced none_h contact.found.had false
    obtain ⟨t, runs, ends⟩ := contact.ends _ (firstContact_stopped (c := c) (.inr (mid.granting grants)) (contact.isMoving_of_stopped stopped))
      (.inr unshed) calm
    have judged := judgement mid grants away_h none_h contact.found.had false ends.outcome
    have state := judged.state
    have evaluated := judged.evaluated enrols
    rw [contact.home, contact.authority, contact.found.holdOut, contact.found.attempts] at evaluated state
    obtain ⟨new, here, is⟩ := Option.map_eq_some_iff.1 state
    have moved : old.state ≠ new.state := by
      rw [absent, is]
      unfold evaluationState
      repeat' split
      all_goals decide
    have reported := ends.reported new .contact here moved rfl
    rw [is, absent] at reported
    exact ⟨t, runs, ends.settings, ends.host, ends.cap, fun _ => ⟨evaluated, reported⟩, fun moves => absurd stopped moves⟩
  · obtain ⟨t, runs, ends, moved, adopted⟩ := firstContact_adopted contact (by rw [absent]; decide) (by rw [absent]; decide) enrols
      (by rcases grants with state | state <;> rw [state] <;> rfl) none (.inr (.inr (mid.granting grants)))
      (fun y plan ret fixed => calm_of_spaced (by rw [plan]; exact mid.state) fixed (by rw [ret]; exact mid.spacing) grants stays spaced) stopped
    have same := ends.outcome.record_of_not_queued (by rw [moved.ret]; exact away_h)
    exact ⟨t, runs, ends.settings, ends.host, ends.cap, fun now => absurd now stopped, fun _ => absent ▸ adopted same⟩

end

/-- Settles O22: by plan state, each first contact as its rule finds it. -/
theorem firstContactActs : Obligations.FirstContactActs := by
  intro s k c r old replies
  have enrols : (profile s c).enrolled = true := replies.2.2.1
  refine ⟨fun absent watching util => ?_, fun absent outage util off => ?_, fun settling stays unsettled none which => ?_,
    fun absent restoring retx util available none => ?_, fun absent paused none => ?_⟩
  · obtain ⟨h, now, contact⟩ := Contact.of_absent replies absent
    exact firstContact_in_watching contact absent enrols watching util
  · obtain ⟨h, now, contact⟩ := Contact.of_absent replies absent
    have outage_h := contact.found.mid.state.trans outage
    refine firstContact_held contact absent enrols (by rw [outage]; rfl) (fun y plan fixed => ?_) (firstContact_outage outage_h)
    refine rests_outage (by rw [plan]; exact outage_h) ((effective_of_fixed fixed _).trans util) ?_
    rw [show y.cap = s.cap from congrArg Fixed.cap fixed]
    exact off
  · have outside : ∀ st : CarState, st ≠ .absent → st ≠ .idle → old.state ≠ st := by
      rintro st not_absent not_idle rfl
      rcases which with absent | ⟨idle, _⟩
      · exact not_absent absent
      · exact not_idle idle
    have first : isFirstContact s c old = true := by
      rcases which with absent | ⟨idle, census, uncounted⟩
      · exact isFirstContact_of_absent absent
      · exact isFirstContact_of_uncounted settling idle census uncounted
    obtain ⟨h, now, contact⟩ := contact_of_first replies first (outside _ (by decide) (by decide)) (outside _ (by decide) (by decide))
    exact firstContact_in_settling contact ⟨outside _ (by decide) (by decide), outside _ (by decide) (by decide)⟩ enrols settling stays unsettled none
  · obtain ⟨h, now, contact⟩ := Contact.of_absent replies absent
    exact firstContact_in_restoring contact absent enrols restoring retx util available none
  · obtain ⟨h, now, contact⟩ := Contact.of_absent replies absent
    exact firstContact_paused contact absent paused none

end Sys2Proof.Proofs.Cars
end
section
/-! PROOFS. A car without an entry has reported (R43, R47): taken from the queue and group, then evaluated or adopted. -/

namespace Sys2Proof.Proofs.Cars

open Sys2Proof.Machine Sys2Proof.Safety Sys2Proof.Proofs.Upkeep Sys2Proof.Proofs.IndicationLines Sys2Proof.Proofs.Ends
  Sys2Proof.Proofs.Account Sys2Proof.Proofs.Capacity Sys2Proof.Proofs.Pause

/-! ## A car withdrawn from the queue and the group -/

/-- The record with PARK outstanding clear. -/
def cleared (r : CarRecord) : CarRecord := { r with parkOut := false }

/-- A car out of the queue and the group, with PARK outstanding clear. -/
structure Withdrawn (h w : Work) (c : CarId) : Prop where
  fixed : w.st.fixed = h.st.fixed
  plan : w.st.plan = { h.st.plan with cancelled := w.st.plan.cancelled }
  spacing : w.st.ret.spacing = h.st.ret.spacing
  seq : w.st.ret.nextSeq = h.st.ret.nextSeq
  acct : w.st.acct = h.st.acct
  link : w.st.link = h.st.link
  port : w.st.port = h.st.port
  record : ∀ r, record h.st c = some r → Machine.record w.st c = some (cleared r)
  queue : ∀ x ∈ w.st.ret.queue, x.car ≠ c
  group : ∀ x ∈ w.st.ret.group, x.car ≠ c
  sheds : w.nt.sheds = h.nt.sheds

theorem not_mem_of_not_inReturns {ret : Returns} {c : CarId} (out : inReturns ret c = false) :
    (∀ x ∈ ret.queue, x.car ≠ c) ∧ ∀ x ∈ ret.group, x.car ≠ c := by
  simp only [inReturns, Bool.or_eq_false_iff, List.any_eq_false, beq_iff_eq] at out
  exact out

theorem withdrawn_withdraw (h : Work) (c : CarId) : Withdrawn h (withdraw h c) c
    ∧ (withdraw h c).st.plan.cancelled = h.st.plan.cancelled := by
  unfold withdraw leaveReturns
  split
  · refine ⟨⟨rfl, rfl, rfl, rfl, rfl, rfl, rfl, fun r had => record_clearPark had, fun x mem => ?_, fun x mem => ?_, rfl⟩, rfl⟩
    · exact bne_iff_ne.1 (List.mem_filter.1 mem).2
    · exact bne_iff_ne.1 (List.mem_filter.1 mem).2
  · rename_i out
    obtain ⟨queue, group⟩ := not_mem_of_not_inReturns (Bool.not_eq_true _ ▸ out)
    exact ⟨⟨rfl, rfl, rfl, rfl, rfl, rfl, rfl, fun r had => record_clearPark had, queue, group, rfl⟩, rfl⟩

theorem record_clearPark_again {s : State} {c : CarId} {r : CarRecord} (had : record s c = some (cleared r)) :
    record (clearPark s c) c = some (cleared r) := record_clearPark (r := cleared r) had

theorem Withdrawn.clear {h w : Work} {c : CarId} (out : Withdrawn h w c) : Withdrawn h (w.up (fun s => clearPark s c)) c :=
  ⟨out.fixed, out.plan, out.spacing, out.seq, out.acct, out.link, out.port, fun r had => record_clearPark_again (out.record r had),
    out.queue, out.group, out.sheds⟩

theorem Withdrawn.opened {h w : Work} {c : CarId} (out : Withdrawn h w c) : Withdrawn h (w.up (fun s => openState s c)) c :=
  ⟨out.fixed, congrArg (fun p => ({ p with cancelled := w.st.plan.cancelled.put c false } : PlanCtl)) out.plan, out.spacing, out.seq, out.acct,
    out.link, out.port, fun r had => record_clearPark_again (out.record r had), out.queue, out.group, out.sheds⟩

section
variable {s : State} {h w : Work} {c : CarId} {now old : CarRecord} (out : Withdrawn h w c)
include out

theorem Withdrawn.near (mid : Near s h.st c) : Near s w.st c where
  fixed := out.fixed.trans mid.fixed
  spacing := out.spacing.trans mid.spacing
  seq := out.seq.trans mid.seq
  state := by rw [out.plan]; exact mid.state
  tag := by unfold carLink; rw [out.link]; exact mid.tag
  reports := queuedFirst_of_port mid.reports out.port

theorem Withdrawn.midway (mid : Midway s h.st c) (cancelled : w.st.plan.cancelled = h.st.plan.cancelled) : Midway s w.st c :=
  ⟨out.near mid.toNear, cancelled.trans mid.cancelled⟩

theorem Withdrawn.entry (d : CarId) : entryOf w.st d = entryOf h.st d := entryOf_of_acct out.acct d

end

/-! ## The rule -/

/-- A moving car is adopted, whether its authority has changed or not (R43, R47). -/
theorem entrylessRules_moving {h : Work} {c : CarId} {now : CarRecord} (had : record h.st c = some now) (changed : Bool)
    (adopts' : adopts h.st.plan.state = true) (moving : isMoving now = true) (stopped : isStopped now = false) :
    ∃ w, Withdrawn h w c ∧ entrylessRules h c now changed
      = ⟨adopt w c (cleared now), some (if underLocal now then .authority else .adoption)⟩ := by
  obtain ⟨out, _⟩ := withdrawn_withdraw h c
  have had' := out.record now had
  obtain ⟨w, made⟩ : ∃ w, w = withdraw h c := ⟨_, rfl⟩
  by_cases first : (evaluates h.st.plan.state && changed && (isStopped now || underLocal now)) = true
  · have parts := first
    simp only [stopped, Bool.false_or, Bool.and_eq_true] at parts
    obtain ⟨⟨evals, _⟩, isLocal⟩ := parts
    have rule : entrylessRules h c now changed = ⟨evaluate w c false, some .authority⟩ := by rw [made]; exact if_pos first
    rw [← made] at out had'
    have isLocal' : Local (cleared now).authority := (underLocal_iff now).1 isLocal
    have adopted : ∀ v : Work, adopt v c (cleared now) = deferCar v c := fun v => if_pos isLocal
    have state : w.st.plan.state = h.st.plan.state := by rw [out.plan]
    rw [rule]
    simp only [isLocal, if_true]
    cases plan : h.st.plan.state with
    | settling =>
      refine ⟨_, out.clear, ?_⟩
      rw [evaluate_of_settling (state.trans plan), evaluateSettling_eq had', adopted]
      have isLocal'' : underLocal (cleared now) = true := isLocal
      rw [if_pos isLocal'']
    | returning =>
      refine ⟨_, out.opened, ?_⟩
      rw [evaluate_of_granting (.inl (state.trans plan)), evaluateFull_local had' false isLocal', adopted]
    | service =>
      refine ⟨_, out.opened, ?_⟩
      rw [evaluate_of_granting (.inr (state.trans plan)), evaluateFull_local had' false isLocal', adopted]
    | halted => rw [plan] at evals; cases evals
    | watching => rw [plan] at evals; cases evals
    | outage => rw [plan] at evals; cases evals
    | restoring => rw [plan] at evals; cases evals
  · refine ⟨_, out, ?_⟩
    have second : (adopts h.st.plan.state && isMoving now) = true := by rw [adopts', moving]; rfl
    have rule : entrylessRules h c now changed = if underLocal now then ⟨deferCar (withdraw h c) c, some .authority⟩
        else ⟨adoptCar (withdraw h c) c, some .adoption⟩ := (if_neg first).trans (if_pos second)
    rw [rule]
    unfold adopt
    have same : underLocal (cleared now) = underLocal now := rfl
    rw [same]
    split <;> rfl

theorem entrylessRules_changed {h : Work} {c : CarId} {now : CarRecord} (evals : evaluates h.st.plan.state = true) (stopped : isStopped now = true) :
    entrylessRules h c now true = ⟨evaluate (withdraw h c) c false, some .authority⟩ := by
  simp only [entrylessRules, evals, stopped, Bool.true_or, Bool.and_true, if_true]

theorem entrylessRules_unruled {h : Work} {c : CarId} {now : CarRecord} {changed : Bool} (evals : evaluates h.st.plan.state = false)
    (stays : adopts h.st.plan.state = false ∨ isMoving now = false) : entrylessRules h c now changed = unruled h := by
  rcases stays with adopts' | stopped
  · simp [entrylessRules, evals, adopts']
  · simp [entrylessRules, evals, stopped]

end Sys2Proof.Proofs.Cars
end
section
/-! PROOFS. What a reply makes of a car that holds no entry and makes no first contact (R43, R47). -/

namespace Sys2Proof.Proofs.Cars

open Sys2Proof.Machine Sys2Proof.Safety Sys2Proof.Proofs.Upkeep Sys2Proof.Proofs.IndicationLines Sys2Proof.Proofs.Ends
  Sys2Proof.Proofs.Account Sys2Proof.Proofs.Capacity Sys2Proof.Proofs.Pause

/-! ## The reply as its rules find it -/

/-- A reply to a poll, as the rules find it, and how it ends by what they make of it. -/
structure Answer (s : State) (k : Link) (c : CarId) (r : CarReply) (old : CarRecord) (h : Work) (now : CarRecord) (a : Authority) : Prop where
  found : HeardAt s h c now old
  ret : old.state ≠ .queued → old.state ≠ .staged → h.st.ret = s.ret
  notes : old.state ≠ .queued → old.state ≠ .staged → h.nt = Notes.none
  code : authorityIn r = some a
  authority : now.authority = authorityIn r
  stopped : isStopped now = true ↔ StoppedIn r
  moving : isMoving now = !isStopped now
  level : ∀ floor, levelAt now floor = levelIn r floor
  home : atHome s c now = levelIn r (profile s c).recallFloor
  ends : ∀ ruled, statusRules h c old (isFirstContact s c old) (carried r a) = ruled → Spared ruled.work.nt ruled.work.st c →
    Calm ruled.work.st → ∃ t, exec (.carReply k r) s = .next t ∧ PollEnd s ruled.work.st t c old ruled.cause
  runs : ∀ ruled, statusRules h c old (isFirstContact s c old) (carried r a) = ruled → ∃ t, exec (.carReply k r) s = .next t
    ∧ t = complete (handSheds ⟨reportReply ruled.work.st c old ruled.cause (noVerdict ruled.work) none, ruled.work.nt⟩)
    ∧ Told s ruled.work.st t c old ruled.cause

theorem exists_answer {s : State} {k : Link} {c : CarId} {r : CarReply} {old : CarRecord} (replies : Replies s k ⟨c, .poll⟩ r old) :
    ∃ h now a, Answer s k c r old h now a := by
  obtain ⟨a, authority, _⟩ := exists_status replies.2.1
  exact ⟨_, _, a, heardAt (k := k) (carried r a) replies.2.2.2, ret_heardWork_of_other k c _,
    fun not_queued not_staged => by rw [heardWork_of_other k c _ not_queued not_staged]; rfl, authority, authority.symm,
    isStopped_heard_iff s c r a old, isMoving_heard s c r a old, levelAt_heard s c r a old, atHome_heard s c r a old,
    fun ruled rules spared calm => pollEnd replies authority rules spared calm,
    fun ruled rules => ⟨_, exec_of_poll replies authority rules, rfl, told rules⟩⟩

/-- The states of a car in contact that holds no entry (R43, R47). -/
def Entryless (st : CarState) : Prop := st = .queued ∨ st = .staged ∨ st = .idle ∨ st = .parked ∨ st = .held

theorem bne_eq_true_of_ne {α : Type} [BEq α] [LawfulBEq α] {a b : α} (h : a ≠ b) : (a != b) = true := bne_iff_ne.2 h

theorem isFirstContact_of_entryless {s : State} {c : CarId} {old : CarRecord} (state : Entryless old.state) (counted : s.plan.state = .settling → old.state = .idle →
    s.plan.census = .inProgress → s.plan.counted.at c = true) : isFirstContact s c old = false := by
  have present : old.state ≠ .absent := by
    rintro absent
    rw [absent] at state
    rcases state with is | is | is | is | is <;> cases is
  rw [← Bool.not_eq_true]
  intro first
  simp only [isFirstContact, Bool.or_eq_true, Bool.and_eq_true, beq_iff_eq, Bool.not_eq_true'] at first
  rcases first with absent | ⟨⟨⟨settling, idle⟩, census⟩, uncounted⟩
  · exact present absent
  · rw [counted settling idle census] at uncounted
    cases uncounted

section
variable {s : State} {k : Link} {c : CarId} {r : CarReply} {old now : CarRecord} {h : Work} {a : Authority}
  (answer : Answer s k c r old h now a)
include answer

theorem Answer.isMoving_iff : isMoving now = true ↔ ¬ StoppedIn r := by
  rw [answer.moving, Bool.not_eq_true', ← Bool.not_eq_true, answer.stopped]

theorem Answer.isMoving_of_stopped (stopped : StoppedIn r) : isMoving now = false := by
  rw [answer.moving, answer.stopped.2 stopped]
  rfl

theorem Answer.isStopped_of_moving (moves : ¬ StoppedIn r) : isStopped now = false := by
  rw [← Bool.not_eq_true, answer.stopped]
  exact moves

theorem Answer.underLocal_iff : underLocal now = true ↔ Local (authorityIn r) := by
  rw [Cars.underLocal_iff, answer.authority]

theorem Answer.rules_entryless (state : Entryless old.state) (second : isFirstContact s c old = false) {x : CarStatus} :
    statusRules h c old (isFirstContact s c old) x = entrylessRules h c now (old.authority != now.authority) := by
  rcases state with is | is | is | is | is <;> simp only [statusRules, answer.found.had, second, is, Bool.false_eq_true, if_false]

/-- The cause of an adoption's report (R43, R47). -/
theorem Answer.adoption_cause : (if underLocal now then CarCause.authority else .adoption)
    = if adoptedState (authorityIn r) = .deferred then .authority else .adoption := by
  by_cases isLocal : Local (authorityIn r)
  · rw [if_pos (answer.underLocal_iff.2 isLocal), if_pos (adoptedState_of_local isLocal)]
  · rw [if_neg (fun now => isLocal (answer.underLocal_iff.1 now)), adoptedState_of_not_local isLocal, if_neg (by decide)]

end

end Sys2Proof.Proofs.Cars
end
section
/-! PROOFS. A car without an entry that moves, or whose authority has changed (R43, R47). -/

namespace Sys2Proof.Proofs.Cars

open Sys2Proof.Machine Sys2Proof.Safety Sys2Proof.Proofs.Upkeep Sys2Proof.Proofs.IndicationLines Sys2Proof.Proofs.Ends
  Sys2Proof.Proofs.Account Sys2Proof.Proofs.Capacity Sys2Proof.Proofs.Pause

/-! ## The totals of an adoption -/

theorem totals_enterUntested {w : Work} {c : CarId} (totals : TotalsMatch w.st) (none : entryOf w.st c = none) (adopted : Bool) :
    (enterUntested w c adopted).st.acct.kd = w.st.acct.kd + (worstFigures (profile w.st c)).draw
      ∧ (enterUntested w c adopted).st.acct.kr = w.st.acct.kr + (worstFigures (profile w.st c)).regen := by
  have free : (entryOf w.st (untestedEntry w.st c adopted).car).isSome = false := by
    show (entryOf w.st c).isSome = false
    rw [none]; rfl
  obtain ⟨u, made⟩ : ∃ u, u = w.up (fun s => s.setAcct (s.acct.add (untestedEntry w.st c adopted))) := ⟨_, rfl⟩
  have sums : TotalsMatch u.st := by rw [made]; exact summed_add totals _
  have enters : enterUntested w c adopted = settleAccount u false := by
    rw [made]
    exact if_neg (by rw [free]; decide)
  obtain ⟨_, kd, kr, _⟩ := flagsStand_settleAccount sums false
  rw [enters]
  exact ⟨kd.trans (by rw [made]; rfl), kr.trans (by rw [made]; rfl)⟩

theorem totals_adopt {w : Work} {c : CarId} (totals : TotalsMatch w.st) (none : entryOf w.st c = none) (r : CarRecord) :
    (adopt w c r).st.acct.kd = w.st.acct.kd + (worstFigures (profile w.st c)).draw
      ∧ (adopt w c r).st.acct.kr = w.st.acct.kr + (worstFigures (profile w.st c)).regen := by
  unfold adopt
  split
  · exact totals_enterUntested totals none false
  · have acct : (adoptCar w c).st.acct = (enterUntested w c true).st.acct := (steered_moveCar (enterUntested w c true).st c .stopNext .stopping).acct
    rw [acct]
    exact totals_enterUntested totals none true

theorem mayPlace_of_adopts {p : PlanState} (h : adopts p = true) (k : CmdKind) : mayPlace p k = true := by
  cases p with
  | halted => cases h
  | watching => cases h
  | outage | settling | returning | service | restoring => rfl

section
variable {s : State} {k : Link} {c : CarId} {r : CarReply} {old now : CarRecord} {h : Work} {a : Authority}
  (answer : Answer s k c r old h now a)
include answer

/-! ## A moving car -/

theorem entryless_adopted (state : Entryless old.state) (second : isFirstContact s c old = false) (none : entryOf s c = Option.none)
    (enrols : (profile s c).enrolled = true) (adopts' : adopts s.plan.state = true)
    (calm : ∀ y : State, y.plan.state = s.plan.state → y.ret.spacing = s.ret.spacing → y.fixed = s.fixed → Calm y) (moves : ¬ StoppedIn r) :
    ∃ t w, Withdrawn h w c ∧ exec (.carReply k r) s = .next t
      ∧ PollEnd s (adopt w c (cleared now)).st t c old (some (if underLocal now then .authority else .adoption))
      ∧ AdoptedBy w.st (adopt w c (cleared now)).st c (cleared now)
      ∧ (record t c = record (adopt w c (cleared now)).st c → Adopted s t c (authorityIn r))
      ∧ CarReported s t c old.state (adoptedState (authorityIn r))
          (if adoptedState (authorityIn r) = .deferred then .authority else .adoption) Option.none := by
  have mid := answer.found.mid
  obtain ⟨w, out, rule⟩ := entrylessRules_moving answer.found.had (old.authority != now.authority) (by rw [mid.state]; exact adopts')
    (answer.isMoving_iff.2 moves) (answer.isStopped_of_moving moves)
  have near := out.near mid.toNear
  have adopted := adoptedBy_adopt (w := w) (out.record now answer.found.had) ((out.entry c).trans ((answer.found.entry c).trans none))
  obtain ⟨t, runs, ends⟩ := answer.ends _ ((answer.rules_entryless state second).trans rule) (.inr adopted.unshed)
    (calm _ (by rw [adopted.moved.plan]; exact near.state) (by rw [adopted.moved.ret]; exact near.spacing) (adopted.moved.fixed.trans near.fixed))
  refine ⟨t, w, out, runs, ends, adopted, fun same => ?_, ?_⟩
  · have result := adopted_of_outcome near adopted ends.outcome same enrols (mayPlace_of_adopts adopts' _)
    exact answer.authority ▸ result
  · have reported := ends.reported _ _ adopted.record (fun same => ?_) rfl
    · rw [answer.adoption_cause] at reported
      exact answer.authority ▸ reported
    · rw [same] at state
      unfold adoptedState CarRecord.goTo Entryless at state
      split at state <;> simp at state

/-! ## A stopped car whose authority has changed -/

theorem Answer.changed (differs : old.authority ≠ authorityIn r) : (old.authority != now.authority) = true := by
  rw [answer.authority]
  exact bne_iff_ne.2 differs

theorem entryless_evaluated (state : Entryless old.state) (second : isFirstContact s c old = false) (evals : evaluates s.plan.state = true)
    (differs : old.authority ≠ authorityIn r) (stopped : StoppedIn r)
    (spared : Unshed (evaluate (withdraw h c) c false).st c) (calm : Calm (evaluate (withdraw h c) c false).st) :
    ∃ t, exec (.carReply k r) s = .next t ∧ PollEnd s (evaluate (withdraw h c) c false).st t c old (some .authority) := by
  have mid := answer.found.mid
  have rule : statusRules h c old (isFirstContact s c old) (carried r a) = ⟨evaluate (withdraw h c) c false, some .authority⟩ := by
    rw [answer.rules_entryless state second, answer.changed differs]
    exact entrylessRules_changed (by rw [mid.state]; exact evals) (answer.stopped.2 stopped)
  exact answer.ends _ rule (.inr spared) calm

end

end Sys2Proof.Proofs.Cars
end
section
/-! PROOFS. Replies of cars without an entry, by plan state (R43, R47). -/

namespace Sys2Proof.Proofs.Cars

open Sys2Proof.Machine Sys2Proof.Safety Sys2Proof.Proofs.Upkeep Sys2Proof.Proofs.IndicationLines Sys2Proof.Proofs.Ends
  Sys2Proof.Proofs.Account Sys2Proof.Proofs.Capacity Sys2Proof.Proofs.Pause

/-! ## An event that grants nothing reaches no queued car unless the Return Sequencer is called -/

theorem grantWork_cars_of_unnoted {w : Work} (grants : Granting w.st) (stays : GeneratorStays w.st) (spaced : w.st.ret.spacing ≠ none)
    (rs : w.nt.rs = false) : (grantWork w).st.cars = w.st.cars := by
  rcases planRun_of_granting grants stays with same | ⟨queue, _, returning, moved⟩
  · unfold grantWork
    rw [same]
    simp only [rs, Bool.false_eq_true, if_false, selectorWork_of_spaced spaced, ite_self]
  · obtain ⟨v, made⟩ : ∃ v, v = (⟨serviceState w.st, w.nt⟩ : Work).noteBoth := ⟨_, rfl⟩
    have empty : v.st.ret.queue = [] := by rw [made]; exact queue
    have still : v.st.ret.spacing ≠ none := by rw [made]; exact spaced
    have rests : sequencerWork v = v := by
      rcases sequencerWork_of_spaced still with same | same
      · exact same
      · rw [same, stage_of_empty empty]
    have cars : v.st.cars = w.st.cars := by rw [made]; rfl
    unfold grantWork
    rw [moved, ← made]
    dsimp only
    rw [rests, ite_self, selectorWork_of_spaced still, ite_self, cars]

theorem record_of_unnoted {y v : State} {c : CarId} (port : PortOnly y v) (grants : Granting y) (stays : GeneratorStays y)
    (spaced : y.ret.spacing ≠ none) : record (complete (handSheds ⟨v, Notes.none⟩)) c = record y c := by
  have side : CarSide y v := .of_portOnly port
  have spaced_v : v.ret.spacing ≠ none := by rw [port]; exact spaced
  obtain ⟨t, driven, leaves⟩ := driven_eq (grantWork ⟨v, Notes.none⟩).st
  have cars := grantWork_cars_of_unnoted (w := ⟨v, Notes.none⟩) (granting_of_plan (by rw [port]; rfl) grants) (generatorStays_of_carSide side stays) spaced_v rfl
  have made : complete (handSheds ⟨v, Notes.none⟩) = t := by
    rw [handSheds_of_none rfl]
    exact driven
  rw [made, ← record_of_portOnly port c]
  unfold record
  rw [leaves, ← cars]

/-! ## RETURN and SERVICE -/

section
variable {s : State} {k : Link} {c : CarId} {r : CarReply} {old now : CarRecord} {h : Work} {a : Authority}
  (answer : Answer s k c r old h now a)
include answer

theorem entryless_moving_paused (state : Entryless old.state) (none : entryOf s c = Option.none) (enrols : (profile s c).enrolled = true)
    (grants : Granting s) (stays : GeneratorStays s) (totals : TotalsMatch s) (spaced : s.ret.spacing ≠ Option.none) (moves : ¬ StoppedIn r) :
    ∃ t, exec (.carReply k r) s = .next t ∧ SettingsKept s t ∧ HostSideKept s t ∧ t.cap = s.cap
      ∧ Adopted s t c (authorityIn r) ∧ t.acct.kd = s.acct.kd + (worstFigures (profile s c)).draw
      ∧ t.acct.kr = s.acct.kr + (worstFigures (profile s c)).regen
      ∧ (∀ x ∈ t.ret.queue, x.car ≠ c) ∧ (∀ x ∈ t.ret.group, x.car ≠ c)
      ∧ (record t c).map (·.parkOut) = some false
      ∧ CarReported s t c old.state (adoptedState (authorityIn r))
          (if adoptedState (authorityIn r) = .deferred then .authority else .adoption) Option.none := by
  have second : isFirstContact s c old = false := isFirstContact_of_entryless state fun settling => by
    rcases grants with is | is <;> rw [is] at settling <;> cases settling
  have adopts' : adopts s.plan.state = true := by rcases grants with is | is <;> rw [is] <;> rfl
  obtain ⟨t, w, out, runs, ends, adopted, holds, reported⟩ := entryless_adopted answer state second none enrols adopts'
    (fun y plan spacing fixed => calm_of_spaced plan fixed spacing grants stays spaced) moves
  have near := out.near answer.found.mid.toNear
  have ret := adopted.moved.ret
  have same := ends.outcome.record_of_not_queued (by rw [ret]; exact out.queue)
  have sums : TotalsMatch w.st := by
    unfold TotalsMatch
    rw [out.acct, answer.found.acct]
    exact totals
  obtain ⟨kd, kr⟩ := totals_adopt sums ((out.entry c).trans ((answer.found.entry c).trans none)) (cleared now)
  rw [near.profile, out.acct, answer.found.acct] at kd kr
  refine ⟨t, runs, ends.settings, ends.host, ends.cap, holds same, (congrArg _ ends.outcome.acct).trans kd, (congrArg _ ends.outcome.acct).trans kr,
    fun x mem => out.queue x ?_, fun x mem => ?_, ?_, reported⟩
  · rw [← ret]
    exact ends.outcome.queue x mem
  · rcases ends.outcome.group x mem with there | ⟨q, queued, car⟩
    · exact out.group x (ret ▸ there)
    · rw [← car]
      exact out.queue q (ret ▸ queued)
  · rw [same, adopted.record]
    rfl

theorem entryless_stopped_paused (state : Entryless old.state) (contact : old.linkStatus = .inContact) (none : entryOf s c = Option.none)
    (enrols : (profile s c).enrolled = true) (grants : Granting s) (stays : GeneratorStays s) (spaced : s.ret.spacing ≠ Option.none)
    (stopped : StoppedIn r) (differs : old.authority ≠ authorityIn r) :
    ∃ t, exec (.carReply k r) s = .next t ∧ SettingsKept s t ∧ HostSideKept s t ∧ t.cap = s.cap
      ∧ Evaluated s t c (authorityIn r) old.holdOut old.attempts (levelIn r (profile s c).recallFloor)
      ∧ (∀ x ∈ t.ret.queue, x.car = c → x.seq = s.ret.nextSeq)
      ∧ CarReported s t c old.state
          (evaluationState s (authorityIn r) old.holdOut old.attempts (levelIn r (profile s c).recallFloor))
          (if old.state = evaluationState s (authorityIn r) old.holdOut old.attempts (levelIn r (profile s c).recallFloor)
            then .status else .authority) Option.none := by
  have second : isFirstContact s c old = false := isFirstContact_of_entryless state fun settling => by
    rcases grants with is | is <;> rw [is] at settling <;> cases settling
  have evals : evaluates s.plan.state = true := by rcases grants with is | is <;> rw [is] <;> rfl
  obtain ⟨out, cancelled⟩ := withdrawn_withdraw h c
  have mid := out.midway answer.found.mid cancelled
  have gone := (out.entry c).trans ((answer.found.entry c).trans none)
  have had := out.record now answer.found.had
  obtain ⟨unshed, calm⟩ := calm_evaluate mid grants stays spaced gone had false
  obtain ⟨t, runs, ends⟩ := entryless_evaluated answer state second evals differs stopped unshed calm
  have judged := judgement mid grants out.queue gone had false ends.outcome
  have home : atHome s c (cleared now) = levelIn r (profile s c).recallFloor := answer.home
  have evaluated := judged.evaluated enrols
  have is := judged.state
  have holdOut : (cleared now).holdOut = old.holdOut := answer.found.holdOut
  have attempts : (cleared now).attempts = old.attempts := answer.found.attempts
  have authority : (cleared now).authority = authorityIn r := answer.authority
  rw [home, authority, holdOut, attempts] at evaluated is
  obtain ⟨new, here, same⟩ := Option.map_eq_some_iff.1 is
  have kin := judged.kin new here
  have reported := ends.changed new .authority here (by rw [kin]; exact fun eq => differs (eq.trans authority))
    (by rw [kin]; exact contact.trans answer.found.contact.symm) (by rw [kin]; exact attempts.symm) rfl
  rw [same] at reported
  exact ⟨t, runs, ends.settings, ends.host, ends.cap, evaluated, judged.queue, reported⟩

end

end Sys2Proof.Proofs.Cars
end
section
/-! PROOFS. Replies of cars without an entry outside RETURN and SERVICE, and of FAILED cars (R43, R47). -/

namespace Sys2Proof.Proofs.Cars

open Sys2Proof.Machine Sys2Proof.Safety Sys2Proof.Proofs.Upkeep Sys2Proof.Proofs.IndicationLines Sys2Proof.Proofs.Ends
  Sys2Proof.Proofs.Account Sys2Proof.Proofs.Capacity Sys2Proof.Proofs.Pause

theorem releaseEntry_of_none {w : Work} {c : CarId} (none : entryOf w.st c = Option.none) : releaseEntry w c = w := by
  simp only [releaseEntry, none]

theorem evaluate_of_watching {w : Work} (state : w.st.plan.state = .watching ∨ w.st.plan.state = .outage) (c : CarId) (claim : Bool) :
    evaluate w c claim = w := by
  rcases state with state | state <;> simp only [evaluate, state]

section
variable {s : State} {k : Link} {c : CarId} {r : CarReply} {old now : CarRecord} {h : Work} {a : Authority}
  (answer : Answer s k c r old h now a)
include answer

/-! ## SETTLING and RESTORING -/

theorem entryless_moving_rested (state : Entryless old.state) (second : isFirstContact s c old = false) (none : entryOf s c = Option.none)
    (enrols : (profile s c).enrolled = true) (adopts' : adopts s.plan.state = true)
    (rests : ∀ y : State, y.plan.state = s.plan.state → y.fixed = s.fixed → Rests y) (moves : ¬ StoppedIn r) :
    ∃ t, exec (.carReply k r) s = .next t ∧ SettingsKept s t ∧ HostSideKept s t ∧ t.cap = s.cap
      ∧ Adopted s t c (authorityIn r)
      ∧ CarReported s t c old.state (adoptedState (authorityIn r))
          (if adoptedState (authorityIn r) = .deferred then .authority else .adoption) Option.none := by
  obtain ⟨t, w, out, runs, ends, adopted, holds, reported⟩ := entryless_adopted answer state second none enrols adopts'
    (fun y plan _ fixed => (rests y plan fixed).calm) moves
  have near := out.near answer.found.mid.toNear
  obtain ⟨same, _, _⟩ := ends.rested (rests _ (by rw [adopted.moved.plan]; exact near.state) (adopted.moved.fixed.trans near.fixed))
  exact ⟨t, runs, ends.settings, ends.host, ends.cap, holds same, reported⟩

theorem entryless_stopped_settling (state : Entryless old.state) (contact : old.linkStatus = .inContact) (none : entryOf s c = Option.none)
    (enrols : (profile s c).enrolled = true) (settling : s.plan.state = .settling)
    (second : isFirstContact s c old = false) (rests : ∀ y : State, y.plan.state = s.plan.state → y.fixed = s.fixed → Rests y)
    (stopped : StoppedIn r) (differs : old.authority ≠ authorityIn r) :
    ∃ t new, exec (.carReply k r) s = .next t ∧ SettingsKept s t ∧ HostSideKept s t ∧ t.cap = s.cap
      ∧ record t c = some new
      ∧ CarReported s t c old.state new.state (if old.state = new.state then .status else .authority) Option.none
      ∧ (Local (authorityIn r) → new.state = .deferred ∧ Stood s t c)
      ∧ (¬ Local (authorityIn r) → authorityIn r = some .outOfOrder ∨ old.holdOut = true →
          new.state = .held ∧ Slotted s t c .hold Option.none)
      ∧ (authorityIn r = some .sequencer → old.holdOut = false → new.state = .idle ∧ Slotted s t c .hold Option.none) := by
  obtain ⟨out, cancelled⟩ := withdrawn_withdraw h c
  have near := out.near answer.found.mid.toNear
  have had := out.record now answer.found.had
  have settled := settledBy_evaluateSettling had ((out.entry c).trans ((answer.found.entry c).trans none))
  rw [← evaluate_of_settling (near.state.trans settling) c false] at settled
  have rests_y := rests _ (by rw [settled.moved.plan]; exact near.state) (settled.moved.fixed.trans near.fixed)
  obtain ⟨t, runs, ends⟩ := entryless_evaluated answer state second (by rw [settling]; rfl) differs stopped settled.unshed rests_y.calm
  obtain ⟨same, _, _⟩ := ends.rested rests_y
  have authority : (cleared now).authority = authorityIn r := answer.authority
  have slotted : ¬ Local (authorityIn r) → Slotted s t c .hold Option.none := fun not_local =>
    slotted_of_midway near (settled.placed (by rw [authority]; exact not_local) (by rw [near.profile]; exact enrols)
      (by rw [near.state, settling]; rfl)) ends.outcome settled.moved.fixed
  refine ⟨t, _, runs, ends.settings, ends.host, ends.cap, same.trans settled.record, ?_, fun isLocal => ?_, fun other held => ?_, fun sequencer free => ?_⟩
  · exact ends.changed _ .authority settled.record (fun eq => differs (eq.trans authority)) (contact.trans answer.found.contact.symm)
      answer.found.attempts.symm rfl
  · exact ⟨settledInto_of_local (by rw [authority]; exact isLocal), stood_of_midway near (settled.stood (by rw [authority]; exact isLocal)) ends.outcome⟩
  · refine ⟨settledInto_of_held (by rw [authority]; exact other) ?_, slotted other⟩
    rw [authority]
    exact held.imp id (answer.found.holdOut.trans ·)
  · refine ⟨settledInto_of_free (authority.trans sequencer) (answer.found.holdOut.trans free), slotted ?_⟩
    rw [sequencer]
    simp [Local]

/-! ## Cars that keep their state -/

/-- Where no rule acts and the event ends outside RETURN and SERVICE, the car keeps its state. -/
theorem unruled_rested {cause : Option CarCause} (rule : statusRules h c old (isFirstContact s c old) (carried r a) = ⟨h, cause⟩)
    (rests : ∀ y : State, y.plan.state = s.plan.state → y.fixed = s.fixed → Rests y) :
    ∃ t, exec (.carReply k r) s = .next t ∧ SettingsKept s t ∧ HostSideKept s t ∧ t.cap = s.cap ∧ t.acct = s.acct
      ∧ (record t c).map (·.state) = some old.state := by
  have mid := answer.found.mid
  have rests_h := rests h.st mid.state mid.fixed
  obtain ⟨t, runs, ends⟩ := answer.ends _ rule (.inl answer.found.sheds) rests_h.calm
  obtain ⟨same, _, _⟩ := ends.rested rests_h
  refine ⟨t, runs, ends.settings, ends.host, ends.cap, ends.outcome.acct.trans answer.found.acct, ?_⟩
  rw [same]
  show (record h.st c).map _ = _
  rw [answer.found.had]
  exact congrArg some answer.found.state

/-- In WATCHING and OUTAGE no rule acts on a car that holds no entry and is not ABSENT (R43, R47). -/
theorem statusRules_idle (state : s.plan.state = .watching ∨ s.plan.state = .outage) (none : entryOf s c = Option.none)
    (present : old.state ≠ .absent) (x : CarStatus) : ∃ cause, statusRules h c old (isFirstContact s c old) x = ⟨h, cause⟩ := by
  have second : isFirstContact s c old = false := by
    have not_settling : (s.plan.state == .settling) = false := by rcases state with is | is <;> rw [is] <;> rfl
    simp [isFirstContact, present, not_settling]
  have state_h : h.st.plan.state = .watching ∨ h.st.plan.state = .outage := by rw [answer.found.mid.state]; exact state
  have gone : entryOf h.st c = Option.none := (answer.found.entry c).trans none
  have quiet : ∀ changed, entrylessRules h c now changed = unruled h := fun changed =>
    entrylessRules_unruled (by rcases state_h with is | is <;> rw [is] <;> rfl) (.inl (by rcases state_h with is | is <;> rw [is] <;> rfl))
  have entry : ∀ st, entryRules h c st x now = ⟨h, (entryRules h c st x now).cause⟩ := by
    intro st
    unfold entryRules
    split
    · unfold deferredRules
      rw [releaseEntry_of_none gone, evaluate_of_watching state_h]
      split <;> rfl
    · simp only [runRules, gone]
      rfl
  cases is : old.state with
  | absent => exact absurd is present
  | idle | queued | staged | parked | held =>
    refine ⟨Option.none, ?_⟩
    simp only [statusRules, answer.found.had, second, is, quiet, Bool.false_eq_true, if_false]
    rfl
  | silent =>
    refine ⟨Option.none, ?_⟩
    simp only [statusRules, answer.found.had, second, is, resume, gone, Bool.false_eq_true, if_false]
    rfl
  | failed =>
    refine ⟨if old.linkStatus = .silent then some .resumption else Option.none, ?_⟩
    simp only [statusRules, answer.found.had, second, is, Bool.false_eq_true, if_false]
  | starting | running | stopping | serving | deferred =>
    refine ⟨_, (?_ : _ = _).trans (entry old.state)⟩
    simp only [statusRules, answer.found.had, second, is, Bool.false_eq_true, if_false]

theorem failed_paused (failed : old.state = .failed) (grants : Granting s) (stays : GeneratorStays s) (spaced : s.ret.spacing ≠ Option.none) :
    ∃ t, exec (.carReply k r) s = .next t ∧ SettingsKept s t ∧ HostSideKept s t ∧ t.cap = s.cap ∧ t.acct = s.acct
      ∧ (record t c).map (·.state) = some .failed := by
  have mid := answer.found.mid
  have second : isFirstContact s c old = false := by
    have not_settling : (s.plan.state == .settling) = false := by rcases grants with is | is <;> rw [is] <;> rfl
    simp [isFirstContact, failed, not_settling]
  have rule : statusRules h c old (isFirstContact s c old) (carried r a) = ⟨h, if old.linkStatus = .silent then some .resumption else Option.none⟩ := by
    simp only [statusRules, answer.found.had, second, failed, Bool.false_eq_true, if_false]
  obtain ⟨t, runs, ends⟩ := answer.ends _ rule (.inl answer.found.sheds) (mid.calm grants stays spaced)
  obtain ⟨t', runs', made, _⟩ := answer.runs _ rule
  have made := (Host.Outcome.next.inj (runs.symm.trans runs')).trans made
  dsimp only at made
  rw [answer.notes (by rw [failed]; decide) (by rw [failed]; decide)] at made
  have same : record t c = record h.st c := by
    rw [made]
    exact record_of_unnoted (portOnly_reportReply _ _ _ _ _ _) (mid.granting grants) (mid.stays stays) (by rw [mid.spacing]; exact spaced)
  refine ⟨t, runs, ends.settings, ends.host, ends.cap, ends.outcome.acct.trans answer.found.acct, ?_⟩
  rw [same, answer.found.had]
  exact congrArg some (answer.found.state.trans failed)

end

/-- Where no exit is open outside RETURN and SERVICE, none is open in a state with the same lines, sets and plan state. -/
theorem rests_of_noExit {s y : State} (exits : NoExit s) (state : s.plan.state = .watching ∨ s.plan.state = .outage
    ∨ (s.plan.state = .restoring ∧ effective s utilLine = .inactive)) (plan : y.plan.state = s.plan.state) (fixed : y.fixed = s.fixed) : Rests y := by
  obtain ⟨watching, outage, _, _, _, restoring⟩ := exits
  have cap : y.cap = s.cap := congrArg Fixed.cap fixed
  rcases state with is | is | ⟨is, util⟩
  · exact rests_watching (plan.trans is) ((effective_of_fixed fixed _).trans (watching is))
  · obtain ⟨util, off⟩ := outage is
    exact rests_outage (plan.trans is) ((effective_of_fixed fixed _).trans util) (by rw [cap]; exact off)
  · obtain ⟨retx, available⟩ := (restoring is).2 util
    exact rests_restoring (plan.trans is) ((effective_of_fixed fixed _).trans retx) ((effective_of_fixed fixed _).trans util)
      (by rw [cap]; exact available)

/-- Settles O24: by plan state, what the rule of each makes of the reply. -/
theorem entrylessReplies : Obligations.EntrylessReplies := by
  intro s k c r old replies contact none
  have enrols : (profile s c).enrolled = true := replies.2.2.1
  obtain ⟨h, now, a, answer⟩ := exists_answer replies
  refine ⟨fun state => ⟨fun grants stays totals _ spaced => ⟨?_, ?_⟩, fun settling stays unsettled counted => ?_,
    fun restoring exits util => ?_⟩, fun state exits present => ?_, ?_⟩
  · exact entryless_moving_paused answer state none enrols grants stays totals spaced
  · exact entryless_stopped_paused answer state contact none enrols grants stays spaced
  · have second := isFirstContact_of_entryless state fun _ => counted
    have rests : ∀ y : State, y.plan.state = s.plan.state → y.fixed = s.fixed → Rests y := fun y plan fixed =>
      rests_settling (plan.trans settling) (generatorStays_of_fixed fixed stays) (by
        rw [show y.cap = s.cap from congrArg Fixed.cap fixed]; exact unsettled)
    exact ⟨entryless_moving_rested answer state second none enrols (by rw [settling]; rfl) rests,
      entryless_stopped_settling answer state contact none enrols settling second rests⟩
  · have second : isFirstContact s c old = false := isFirstContact_of_entryless state fun settling => by rw [restoring] at settling; cases settling
    have rests : ∀ y : State, y.plan.state = s.plan.state → y.fixed = s.fixed → Rests y := fun y =>
      rests_of_noExit exits (.inr (.inr ⟨restoring, util⟩))
    refine ⟨entryless_moving_rested answer state second none enrols (by rw [restoring]; rfl) rests, fun stopped => ?_⟩
    have restoring_h := answer.found.mid.state.trans restoring
    exact unruled_rested answer ((answer.rules_entryless state second).trans
      (entrylessRules_unruled (by rw [restoring_h]; rfl) (.inr (answer.isMoving_of_stopped stopped)))) rests
  · obtain ⟨cause, rule⟩ := statusRules_idle answer state none present (carried r a)
    exact unruled_rested answer rule fun y => rests_of_noExit exits (state.imp id .inl)
  · exact failed_paused answer

end Sys2Proof.Proofs.Cars
end
section
/-! PROOFS. One car in an event of the account (R100): its entry stands, or it is shed, once, under an overcommit. -/

namespace Sys2Proof.Proofs.Cars

open Sys2Proof.Machine Sys2Proof.Safety Sys2Proof.Proofs.Upkeep Sys2Proof.Proofs.IndicationLines Sys2Proof.Proofs.Ends
  Sys2Proof.Proofs.Account Sys2Proof.Proofs.Capacity Sys2Proof.Proofs.Pause Sys2Proof.Proofs.Shedding

/-! ## The cars that an event sheds -/

theorem ran_sheds {k : ShedCase} {needs : Entry → Bool} (kind : RunKind k needs) {w t : Work} {run : ShedRun} (cars : OneEntryPerCar w.st)
    (totals : TotalsMatch w.st) (ran : Ran k w t run) : t.nt.sheds = w.nt.sheds ++ run.shed.map (·.car) := by
  cases flag : k.flag w.st.acct with
  | false =>
    have runs := ran.runs
    rw [kind.idle w flag] at runs
    rw [← (Prod.mk.inj runs).1, ← (Prod.mk.inj runs).2]
    exact (List.append_nil _).symm
  | true =>
    obtain ⟨u, runs, _, sheds⟩ := run_spec kind cars totals flag
    obtain ⟨same, chosen⟩ := Prod.mk.inj (runs.symm.trans ran.runs)
    rw [← same, sheds, ← chosen]

theorem settleAccount_sheds (w : Work) (eased : Bool) : (settleAccount w eased).nt.sheds = (shedBoth w).nt.sheds := by
  rw [settleAccount_eq]
  split <;> rfl

/-- The entries that an event sheds: each once, all of them candidates. -/
theorem shed_ok {w : Work} {drawn fed : ShedRun} (h : Runs w drawn fed) : (drawn.shed ++ fed.shed).Nodup
    ∧ ∀ e ∈ drawn.shed ++ fed.shed, e ∈ w.st.acct.entries ∧ Sheddable e := by
  obtain ⟨distinct, ok⟩ := h.fed_ok
  obtain ⟨t, draw, _⟩ := h.first
  have split : ∀ e ∈ fed.shed, e ∈ w.st.acct.entries ∧ e ∉ drawn.shed := fun e mem =>
    (mem_shedIn_of_sheddable (ok e mem).2).1 (ok e mem).1
  refine ⟨List.nodup_append'.2 ⟨draw.distinct, distinct, fun e left right => (split e right).2 left⟩, fun e mem => ?_⟩
  rcases List.mem_append.1 mem with here | here
  · exact draw.ok e here
  · exact ⟨(split e here).1, (ok e here).2⟩

theorem nodup_cars {es shed : List Entry} (cars : (es.map (·.car)).Nodup) (distinct : shed.Nodup) (ok : ∀ e ∈ shed, e ∈ es) :
    (shed.map (·.car)).Nodup :=
  (List.nodup_map_iff_inj_on distinct).2 fun x mem_x y mem_y same => eq_of_car cars (ok x mem_x) (ok y mem_y) same

theorem find?_shedIn (shed es : List Entry) (c : CarId) : (shedIn shed es).find? (fun e => e.car == c)
    = (es.find? (fun e => e.car == c)).map (fun e => if e ∈ shed then shedForm e else e) := by
  unfold shedIn
  rw [List.find?_map]
  have same : (fun e : Entry => e.car == c) ∘ (fun e => if e ∈ shed then shedForm e else e) = fun e => e.car == c := by
    funext e
    show ((if e ∈ shed then shedForm e else e).car == c) = (e.car == c)
    split <;> rfl
  rw [same]

/-- An event in the account at one car: its entry stands and it is not handed on, or it is shed and handed on once. -/
structure Shed (w u : Work) (c : CarId) : Prop where
  cars : ∃ shed : List CarId, u.nt.sheds = w.nt.sheds ++ shed ∧ shed.Nodup
    ∧ ((c ∉ shed ∧ entryOf u.st c = entryOf w.st c)
      ∨ (c ∈ shed ∧ ∃ e, entryOf w.st c = some e ∧ Sheddable e ∧ entryOf u.st c = some (shedForm e)
        ∧ (w.st.cap.c < w.st.acct.kd ∨ w.st.cap.sink < w.st.acct.kr)))

theorem shed_settleAccount {w : Work} (cars : OneEntryPerCar w.st) (totals : TotalsMatch w.st) (eased : Bool) (c : CarId) :
    Shed w (settleAccount w eased) c := by
  obtain ⟨drawn, fed, h⟩ := exists_runs cars totals
  obtain ⟨distinct, ok⟩ := shed_ok h
  obtain ⟨t, draw, regen, acct, _, _⟩ := h.first
  have one : OneEntryPerCar t.st := draw.state.oneEntryPerCar cars
  have sums : TotalsMatch t.st := by
    have shed := (flagsStand_shedDraw (w := flaggedWork w) totals).1
    rwa [show shedDraw (flaggedWork w) = (t, drawn) from draw.runs] at shed
  have sheds : (settleAccount w eased).nt.sheds = w.nt.sheds ++ (drawn.shed ++ fed.shed).map (·.car) := by
    rw [settleAccount_sheds, ran_sheds runKind_regen one sums regen, ran_sheds runKind_draw (w := flaggedWork w) cars totals draw,
      List.map_append, List.append_assoc]
    rfl
  have entry : entryOf (settleAccount w eased).st c
      = (entryOf w.st c).map (fun e => if e ∈ drawn.shed ++ fed.shed then shedForm e else e) := by
    unfold entryOf
    rw [settleAccount_acct, ← find?_shedIn]
    show (shedBoth w).st.acct.entries.find? _ = _
    rw [h.state.acct]
    rfl
  refine ⟨_, sheds, nodup_cars cars distinct fun e mem => (ok e mem).1, ?_⟩
  by_cases named : c ∈ (drawn.shed ++ fed.shed).map (·.car)
  · obtain ⟨e, mem, rfl⟩ := List.mem_map.1 named
    have found : entryOf w.st e.car = some e := find?_car cars (ok e mem).1
    refine .inr ⟨named, e, found, (ok e mem).2, by rw [entry, found, Option.map_some, if_pos mem], ?_⟩
    rcases List.mem_append.1 mem with here | here
    · refine .inl (of_decide_eq_true ?_)
      by_contra clear
      have idle := draw.idle (Bool.not_eq_true _ ▸ clear)
      rw [idle] at here
      cases here
    · refine .inr (of_decide_eq_true ?_)
      by_contra clear
      have flag : t.st.acct.regenOver = false := by rw [acct]; exact Bool.not_eq_true _ ▸ clear
      rw [regen.idle flag] at here
      cases here
  · refine .inl ⟨named, ?_⟩
    rw [entry]
    cases found : entryOf w.st c with
    | none => rfl
    | some e =>
      have stays : e ∉ drawn.shed ++ fed.shed := fun mem => named (List.mem_map.2 ⟨e, mem, entryOf_car found⟩)
      rw [Option.map_some, if_neg stays]

/-! ## A shed entry handed on (R100) -/

theorem apart_handShed_other {v : State} {c d : CarId} (other : c ≠ d) : Apart v (handShed v d) c := by
  unfold handShed
  split
  · split
    · exact apart_stopShed v other
    · exact Apart.refl v c
  · exact Apart.refl v c

theorem apart_handShed_foldl {c : CarId} : ∀ (cars : List CarId) (v : State), c ∉ cars → Apart v (cars.foldl handShed v) c
  | [], v, _ => Apart.refl v c
  | d :: cars, v, out => by
    rw [List.foldl_cons]
    exact (apart_handShed_other fun same : c = d => out (same ▸ List.mem_cons_self)).trans
      (apart_handShed_foldl cars _ fun mem => out (List.mem_cons_of_mem _ mem))

/-- A car that is not handed on is spared. -/
theorem apart_handSheds_of_not_mem {w : Work} {c : CarId} (out : c ∉ w.nt.sheds) : Apart w.st (handSheds w).st c :=
  apart_handShed_foldl _ _ out

/-- A car handed on once with a shed entry is stopped once. -/
theorem handSheds_of_mem {w : Work} {c : CarId} (distinct : w.nt.sheds.Nodup) (mem : c ∈ w.nt.sheds) {e : Entry}
    (found : entryOf w.st c = some e) (shed : e.isShed = true) :
    ∃ v, Apart w.st v c ∧ v.fixed = w.st.fixed ∧ Apart (stopShed v c) (handSheds w).st c := by
  obtain ⟨before, after, split⟩ := List.append_of_mem mem
  rw [split] at distinct
  have fresh_before : c ∉ before := fun here => List.disjoint_of_nodup_append distinct here List.mem_cons_self
  have fresh_after : c ∉ after := (List.nodup_cons.1 (List.Nodup.of_append_right distinct)).1
  have first := apart_handShed_foldl before w.st fresh_before
  have kept : (before.foldl handShed w.st).fixed = w.st.fixed :=
    closed_foldl (Q := fun u : State => u.fixed = w.st.fixed) (fun _ _ same => closed_handShed (closed_fixed _) same) rfl
  refine ⟨before.foldl handShed w.st, first, kept, ?_⟩
  have here : entryOf (before.foldl handShed w.st) c = some e := (entryOf_of_acct (by rw [first.side]) c).trans found
  have stops : handShed (before.foldl handShed w.st) c = stopShed (before.foldl handShed w.st) c := by
    simp only [handShed, here, shed, if_true]
  have folded : (handSheds w).st = after.foldl handShed (stopShed (before.foldl handShed w.st) c) := by
    show w.nt.sheds.foldl handShed w.st = _
    rw [split, List.foldl_append, List.foldl_cons, stops]
  rw [folded]
  exact apart_handShed_foldl after _ fresh_after

/-- A shed car that is not SILENT goes STOPPING with STOP-NEXT (R100). -/
theorem stopShed_eq {v : State} {c : CarId} {r : CarRecord} (had : record v c = some r) (heard : r.state ≠ .silent) :
    PortOnly (moveCar (place v c .stopNext) c .stopping) (stopShed v c) := by
  simp only [stopShed, had, if_neg heard]
  exact portOnly_reportCar _ _ _ _ _

end Sys2Proof.Proofs.Cars
end
section
/-! PROOFS. A step of a START-phase entry (R95), whose event may shed the entry stepped (R100). -/

namespace Sys2Proof.Proofs.Cars

open Sys2Proof.Machine Sys2Proof.Safety Sys2Proof.Proofs.Upkeep Sys2Proof.Proofs.IndicationLines Sys2Proof.Proofs.Ends
  Sys2Proof.Proofs.Account Sys2Proof.Proofs.Capacity Sys2Proof.Proofs.Pause Sys2Proof.Proofs.Shedding

/-! ## The account after an event -/

theorem oneEntryPerCar_settleAccount {w : Work} (cars : OneEntryPerCar w.st) (eased : Bool) : OneEntryPerCar (settleAccount w eased).st := by
  show ((settleAccount w eased).st.acct.entries.map (fun x : Entry => x.car)).Nodup
  rw [entries_settleAccount (g := fun x : Entry => x.car) (fun _ _ => rfl) _ eased]
  exact cars

theorem oneEntryPerCar_change {s : State} (cars : OneEntryPerCar s) (c : CarId) {f : Entry → Entry} (same : ∀ e, (f e).car = e.car) :
    OneEntryPerCar (s.setAcct (s.acct.change c f)) := by
  show ((s.acct.change c f).entries.map (·.car)).Nodup
  rw [change_entries, map_alterFirst _ same]
  exact cars

/-- What a step makes of the account and of the entry. -/
structure Stepped (w v : Work) (c : CarId) (e : Entry) (run : Nat) : Prop where
  side : AccountOnly w.st v.st
  kd : v.st.acct.kd = w.st.acct.kd - e.draw + run
  kr : v.st.acct.kr = w.st.acct.kr
  totals : TotalsMatch v.st
  cars : OneEntryPerCar v.st
  sheds : v.nt.sheds.Nodup
  entry : (c ∉ v.nt.sheds ∧ entryOf v.st c = some (runForm e run))
    ∨ (c ∈ v.nt.sheds ∧ StepOverruns w.st e run ∧ entryOf v.st c = some (shedForm (runForm e run)))

theorem stepped_stepEntry {w : Work} {c : CarId} {e : Entry} {run : Nat} (cars : OneEntryPerCar w.st) (totals : TotalsMatch w.st)
    (found : entryOf w.st c = some e) (has : e.runDraw = some run) (none : w.nt.sheds = []) :
    Stepped w (stepEntry w c) c e run := by
  obtain ⟨kd, kr⟩ := step_totals totals found has
  obtain ⟨u, made⟩ : ∃ u : Work, u = w.up (fun s => s.setAcct (s.acct.change c Entry.toRun)) := ⟨_, rfl⟩
  have one : OneEntryPerCar u.st := by rw [made]; exact oneEntryPerCar_change cars c fun _ => rfl
  have sums : TotalsMatch u.st := by rw [made]; exact summed_change totals c _
  have here : entryOf u.st c = some (runForm e run) := by rw [made]; exact entryOf_toRun found has
  have kd_u : u.st.acct.kd = w.st.acct.kd - e.draw + run := by rw [made]; exact kd
  have kr_u : u.st.acct.kr = w.st.acct.kr := by rw [made]; exact kr
  have cap : u.st.cap = w.st.cap := by rw [made]; rfl
  have side := accountSide_stepEntry w c
  have steps : stepEntry w c = settleAccount u true := by rw [made]; rfl
  obtain ⟨shed, sheds, distinct, which⟩ := (shed_settleAccount one sums true c).cars
  obtain ⟨sums', kd', kr', _⟩ := flagsStand_settleAccount sums true
  rw [show u.nt.sheds = [] by rw [made]; exact none, List.nil_append] at sheds
  refine ⟨side, ?_, ?_, ?_, ?_, ?_, ?_⟩ <;> rw [steps]
  · exact kd'.trans kd_u
  · exact kr'.trans kr_u
  · exact sums'
  · exact oneEntryPerCar_settleAccount one true
  · rw [sheds]; exact distinct
  · rw [sheds]
    rcases which with ⟨out, same⟩ | ⟨mem, x, found', _, shed_x, above⟩
    · exact .inl ⟨out, same.trans here⟩
    · rw [here] at found'
      rw [← Option.some.inj found'] at shed_x
      rw [kd_u, kr_u, cap] at above
      exact .inr ⟨mem, above, shed_x⟩

/-! ## The end of an event for a car whose entry may have been shed -/

theorem apart_of_not_mem {y v : State} {nt : Notes} {c : CarId} (port : PortOnly y v) (out : c ∉ nt.sheds) :
    Apart y (handSheds ⟨v, nt⟩).st c := (Apart.of_portOnly port c).trans (apart_handSheds_of_not_mem (w := ⟨v, nt⟩) out)

theorem outcome_of_apart {x v : State} {nt : Notes} {c : CarId} (apart : Apart x (handSheds ⟨v, nt⟩).st c) (fixed : v.fixed = x.fixed)
    (calm : Calm x) : Outcome x (complete (handSheds ⟨v, nt⟩)) c :=
  outcome_completeWith apart ((closed_handSheds (w := ⟨v, nt⟩) (closed_fixed v.fixed) rfl).trans fixed) (calm_of_carSide apart.side calm)

/-- A car handed on once with a shed entry, in contact, ends STOPPING with STOP-NEXT placed once. -/
theorem apart_of_mem {y v : State} {nt : Notes} {c : CarId} {e : Entry} {r : CarRecord} (port : PortOnly y v) (distinct : nt.sheds.Nodup)
    (mem : c ∈ nt.sheds) (found : entryOf y c = some e) (shed : e.isShed = true) (had : record y c = some r) (heard : r.state ≠ .silent) :
    ∃ u, Apart y u c ∧ u.fixed = v.fixed ∧ Apart (moveCar (place u c .stopNext) c .stopping) (handSheds ⟨v, nt⟩).st c := by
  have found_v : entryOf v c = some e := (entryOf_of_acct (by rw [port]; rfl) c).trans found
  obtain ⟨u, first, fixed, second⟩ := handSheds_of_mem (w := ⟨v, nt⟩) distinct mem found_v shed
  have apart := (Apart.of_portOnly port c).trans first
  refine ⟨u, apart, fixed, (Apart.of_portOnly ?_ c).trans second⟩
  exact stopShed_eq (apart.record.trans had) heard

/-- A car under a stepped entry at the end of the event: it runs under it, or the entry was shed under an overcommit and the car stops
(R95, R100). -/
theorem runsOrShed_of_step {s y v : State} {nt : Notes} {c : CarId} {e : Entry} {run : Nat} {r : CarRecord} (near : Near s y c)
    (port : PortOnly y v) (fixed : v.fixed = y.fixed) (distinct : nt.sheds.Nodup) (calm : Calm y) (away : ∀ x ∈ y.ret.queue, x.car ≠ c)
    (enrols : (profile s c).enrolled = true) (grants : Granting s) (had : record y c = some r) (running : r.state = .running)
    (entry : (c ∉ nt.sheds ∧ entryOf y c = some (runForm e run))
      ∨ (c ∈ nt.sheds ∧ StepOverruns s e run ∧ entryOf y c = some (shedForm (runForm e run)))) :
    RunsOrShed s (complete (handSheds ⟨v, nt⟩)) c e run
      ∧ (record (complete (handSheds ⟨v, nt⟩)) c).map (·.attempts) = some r.attempts
      ∧ (complete (handSheds ⟨v, nt⟩)).acct = y.acct := by
  rcases entry with ⟨out, stands⟩ | ⟨mem, overruns, shed⟩
  · have outcome := outcome_of_apart (apart_of_not_mem port out) fixed calm
    have same := outcome.record_of_not_queued away
    refine ⟨.inl ⟨(outcome.entry c).trans stands, ?_⟩, by rw [same, had]; rfl, outcome.acct⟩
    rw [stateOf, same, had]
    exact congrArg some running
  · obtain ⟨u, first, fixed_u, second⟩ := apart_of_mem port distinct mem shed rfl had (by rw [running]; decide)
    have side : CarSide y (moveCar (place u c .stopNext) c .stopping) := (first.side.trans (carSide_place _ _ _)).trans (carSide_moveCar _ _ _)
    have fixed_x : v.fixed = (moveCar (place u c .stopNext) c .stopping).fixed := by
      rw [← fixed_u]
      exact (closed_moveCar (closed_fixed _) (closed_place (closed_fixed _) rfl)).symm
    have outcome := outcome_of_apart second fixed_x (calm_of_carSide side calm)
    have same := outcome.record_of_not_queued (by rw [side]; exact away)
    have here : record (moveCar (place u c .stopNext) c .stopping) c = some (r.goTo .stopping) := by
      rw [record_moveCar_same, record_place, first.record, had]
      rfl
    have setup : u.setup = s.setup := by rw [first.side]; exact near.setup
    have may : mayPlace u.plan.state .stopNext = true := by
      rw [first.side]
      show mayPlace y.plan.state _ = true
      rw [near.state]
      rcases grants with is | is <;> rw [is] <;> rfl
    have placed : Placed s (moveCar (place u c .stopNext) c .stopping) c .stopNext none :=
      Placed.moveCar (placed_place (by unfold profile at *; rw [setup]; exact enrols) may (by rw [first.link]; exact near.tag)
        (by rw [first.side]; exact near.time)) _
    refine ⟨.inr ⟨overruns, ?_, ?_, slotted_of_placed outcome.link placed ?_⟩, by rw [same, here]; rfl, ?_⟩
    · rw [outcome.entry c, entryOf_of_acct (by rw [side]) c]
      exact shed
    · rw [stateOf, same, here]
      rfl
    · rw [side]
      exact near.setup
    · rw [outcome.acct, side]

end Sys2Proof.Proofs.Cars
end
section
/-! PROOFS. The rules for a car that holds an entry (R42, R44, R46, R48, R95, R96): one equation per case. -/

namespace Sys2Proof.Proofs.Cars

open Sys2Proof.Machine Sys2Proof.Safety Sys2Proof.Proofs.Upkeep Sys2Proof.Proofs.IndicationLines Sys2Proof.Proofs.Ends
  Sys2Proof.Proofs.Account Sys2Proof.Proofs.Capacity Sys2Proof.Proofs.Pause Sys2Proof.Proofs.Shedding

/-! ## What handing a reply to the account does -/

theorem showsSpeed_carried (r : CarReply) (a : Authority) : showsSpeed (carried r a) = (r.bits.getLsbD 1 || r.bits.getLsbD 4) := by
  show (r.bits.getLsbD 1 || motionOf r.bits == .atSpeed || motionOf r.bits == .decelerating) = _
  rw [motionOf_eq]
  cases r.bits.getLsbD 1 <;> cases r.bits.getLsbD 3 <;> cases r.bits.getLsbD 4 <;> rfl

/-- The car stands at its entry's target floor. -/
def atTarget (e : Entry) (r : CarRecord) : Bool := (e.target.map (levelAt r)).getD false

theorem atTarget_iff {e : Entry} {now : CarRecord} {r : CarReply} (level : ∀ floor, levelAt now floor = levelIn r floor)
    (kind : e.kind = .returning) : atTarget e now = true ↔ Arrives e r := by
  unfold atTarget Arrives
  cases e.target with
  | none => simp [kind]
  | some f => simp [kind, level]

theorem handed_of_not_starting {e : Entry} (x : CarStatus) (r : CarRecord) (phase : e.phase ≠ .start) : handedOutcome e x r = .stands := by
  have not_starting : e.starting = false := by simp [Entry.starting, phase]
  unfold handedOutcome
  cases e.window <;> simp [not_starting]

theorem starting_of {e : Entry} (kind : e.kind = .returning) (phase : e.phase = .start) : e.starting = true := by
  simp [Entry.starting, kind, phase]

theorem handed_of_open {e : Entry} {x : CarStatus} {r : CarRecord} (fresh : WindowOpen e) (quiet : showsSpeed x = false) :
    handedOutcome e x r = .stands := by
  unfold handedOutcome
  cases window : e.window with
  | none => rfl
  | some win => simp [fresh win window, quiet]

theorem handed_of_lapsed {e : Entry} {x : CarStatus} {r : CarRecord} {win : StartWindow} (kind : e.kind = .returning) (phase : e.phase = .start)
    (window : e.window = some win) (lapsed : win.lapsed = true) :
    handedOutcome e x r = if isMoving r then .stepped else if atTarget e r then .stands else .expired := by
  unfold atTarget
  simp only [handedOutcome, window, starting_of kind phase, lapsed, Bool.not_true, Bool.false_eq_true, if_false, if_true]

theorem handed_of_speed {e : Entry} {x : CarStatus} {r : CarRecord} {win : StartWindow} (kind : e.kind = .returning) (phase : e.phase = .start)
    (window : e.window = some win) (fresh : win.lapsed = false) (speed : showsSpeed x = true) : handedOutcome e x r = .stepped := by
  simp [handedOutcome, window, starting_of kind phase, fresh, speed]

/-! ## The rules once the account has had the reply -/

section
variable {w : Work} {c : CarId} {e : Entry} {x : CarStatus} {r : CarRecord} {st : CarState} (found : entryOf w.st c = some e)
include found

theorem runRules_expired (handed : handedOutcome e x r = .expired) : runRules w c st x r = ⟨startExpired w c, some .stop⟩ := by
  simp only [runRules, found, handed]

/-- The rules of authority and motion, from the work that the account has left. -/
def afterAccount (w : Work) (c : CarId) (st : CarState) (r : CarRecord) (stepped : Bool) : Ruled :=
  if underLocal r then ⟨localRule w c, some .authority⟩
  else if outOfOrder r && underway st then ⟨outOfOrderRule w c r, some .authority⟩
  else ⟨(motionRules w c st r).work,
    if (motionRules w c st r).cause.isSome then (motionRules w c st r).cause else if stepped then some .step else none⟩

theorem runRules_stands (handed : handedOutcome e x r = .stands) : runRules w c st x r = afterAccount w c st r false := by
  simp only [runRules, found, handed]
  rfl

theorem runRules_stepped (handed : handedOutcome e x r = .stepped) :
    runRules w c st x r = afterAccount ((stepEntry w c).up (fun s => moveCar s c (steppedState st))) c (steppedState st) r true := by
  simp only [runRules, found, handed]
  rfl

end

section
variable {w : Work} {c : CarId} {r : CarRecord} {st : CarState} {stepped : Bool}

theorem afterAccount_local (now : underLocal r = true) : afterAccount w c st r stepped = ⟨localRule w c, some .authority⟩ := if_pos now

theorem afterAccount_outOfOrder (not_local : underLocal r = false) (now : outOfOrder r = true) (under : underway st = true) :
    afterAccount w c st r stepped = ⟨outOfOrderRule w c r, some .authority⟩ := by
  simp only [afterAccount, not_local, now, under, Bool.and_true, Bool.false_eq_true, if_true, if_false]

theorem afterAccount_motion (not_local : underLocal r = false) (fine : (outOfOrder r && underway st) = false) :
    afterAccount w c st r stepped = ⟨(motionRules w c st r).work,
      if (motionRules w c st r).cause.isSome then (motionRules w c st r).cause else if stepped then some .step else none⟩ := by
  simp only [afterAccount, not_local, fine, Bool.false_eq_true, if_false]

theorem motionRules_moving (moves : isStopped r = false) : motionRules w c st r = unruled w := by
  unfold motionRules
  split
  · rfl
  · simp [moves]

theorem motionRules_stop {e : Entry} (found : entryOf w.st c = some e) (stopped : isStopped r = true)
    (ends : st = .running ∨ st = .stopping ∨ (st = .starting ∧ atTarget e r = true)) : motionRules w c st r = ⟨stopCar w c, some .stop⟩ := by
  rcases ends with rfl | rfl | ⟨rfl, arrives⟩
  · simp [motionRules, found, stopped]
  · simp [motionRules, found, stopped]
  · unfold atTarget at arrives
    simp [motionRules, found, stopped, arrives]

end

end Sys2Proof.Proofs.Cars
end
section
/-! PROOFS. A reply from a car that runs under an entry, or is SILENT with one (R42, R48): the car in the state that its entry gives. -/

namespace Sys2Proof.Proofs.Cars

open Sys2Proof.Machine Sys2Proof.Safety Sys2Proof.Proofs.Upkeep Sys2Proof.Proofs.IndicationLines Sys2Proof.Proofs.Ends
  Sys2Proof.Proofs.Account Sys2Proof.Proofs.Capacity Sys2Proof.Proofs.Pause Sys2Proof.Proofs.Shedding

theorem stateFromEntry_eq {e : Entry} (run : RunEntry e) : stateFromEntry e = runState e := by
  unfold stateFromEntry runState
  rcases run with ⟨kind, phase | phase | phase⟩ | ⟨kind, phase | phase⟩ | ⟨kind, phase⟩ <;> rw [kind, phase]

theorem runState_cases {e : Entry} (run : RunEntry e) : (runState e = .starting ∧ e.kind = .returning ∧ e.phase = .start)
    ∨ (runState e = .running ∧ e.kind = .returning ∧ e.phase = .run) ∨ (runState e = .stopping ∧ e.phase = .stop)
    ∨ (runState e = .serving ∧ e.kind = .service ∧ e.phase = .holding) := by
  unfold runState
  rcases run with ⟨kind, phase | phase | phase⟩ | ⟨kind, phase | phase⟩ | ⟨kind, phase⟩ <;> simp [kind, phase]

/-- A reply from a car that runs under its entry, as the rules of runs find it. -/
structure Runner (s : State) (k : Link) (c : CarId) (r : CarReply) (old : CarRecord) (e : Entry) (w : Work) (cur now : CarRecord)
    (a : Authority) : Prop where
  mid : Midway s w.st c
  acct : w.st.acct = s.acct
  svc : w.st.svc = s.svc
  ret : w.st.ret = s.ret
  notes : w.nt = Notes.none
  had : record w.st c = some cur
  kin : Kin now cur
  state : cur.state = runState e
  authority : now.authority = authorityIn r
  holdOut : now.holdOut = old.holdOut
  attempts : now.attempts = old.attempts
  stopped : isStopped now = true ↔ StoppedIn r
  moving : isMoving now = !isStopped now
  level : ∀ floor, levelAt now floor = levelIn r floor
  home : atHome s c now = levelIn r (profile s c).recallFloor
  ends : ∀ ruled, runRules w c (runState e) (carried r a) now = ruled → ∃ t z, exec (.carReply k r) s = .next t
    ∧ PortOnly ruled.work.st z ∧ z.fixed = ruled.work.st.fixed ∧ ruled.work.st.fixed = s.fixed
    ∧ t = complete (handSheds ⟨z, ruled.work.nt⟩)
    ∧ Told s ruled.work.st t c old (if old.state = .silent then some .resumption else ruled.cause)

theorem runState_ne_deferred {e : Entry} (run : RunEntry e) : runState e ≠ .deferred := by
  rcases runState_cases run with ⟨is, _⟩ | ⟨is, _⟩ | ⟨is, _⟩ | ⟨is, _⟩ <;> rw [is] <;> decide

theorem entryRules_of_run {w : Work} {c : CarId} {e : Entry} (run : RunEntry e) (x : CarStatus) (r : CarRecord) :
    entryRules w c (runState e) x r = runRules w c (runState e) x r := if_neg (runState_ne_deferred run)

theorem isFirstContact_of_runner {s : State} {c : CarId} {old : CarRecord} (grants : Granting s) (present : old.state ≠ .absent) : isFirstContact s c old = false := by
  have not_settling : (s.plan.state == .settling) = false := by rcases grants with is | is <;> rw [is] <;> rfl
  simp [isFirstContact, present, not_settling]

section
variable {s : State} {k : Link} {c : CarId} {r : CarReply} {old now : CarRecord} {h : Work} {a : Authority} {e : Entry}
  (answer : Answer s k c r old h now a)
include answer

theorem Answer.ends_of_rules {ruled : Ruled} (rules : statusRules h c old (isFirstContact s c old) (carried r a) = ruled) :
    ∃ t z, exec (.carReply k r) s = .next t ∧ PortOnly ruled.work.st z ∧ z.fixed = ruled.work.st.fixed ∧ ruled.work.st.fixed = s.fixed
      ∧ t = complete (handSheds ⟨z, ruled.work.nt⟩) ∧ Told s ruled.work.st t c old ruled.cause := by
  obtain ⟨t, runs, made, tells⟩ := answer.runs ruled rules
  refine ⟨t, _, runs, portOnly_reportReply _ _ _ _ _ _, fixed_reportReply _ _ _ _ _ _, ?_, made, tells⟩
  rw [← rules]
  exact closed_statusRules (closed_fixed _) answer.found.mid.fixed

/-- A car in the state that its entry gives. -/
theorem runner_of_heard (run : RunEntry e) (grants : Granting s) (state : old.state = runState e) : Runner s k c r old e h now now a := by
  have cases' := runState_cases run
  have not_silent : old.state ≠ .silent := by
    rw [state]
    rcases cases' with ⟨is, _⟩ | ⟨is, _⟩ | ⟨is, _⟩ | ⟨is, _⟩ <;> rw [is] <;> decide
  have other : ∀ st : CarState, st = .absent ∨ st = .queued ∨ st = .staged → old.state ≠ st := by
    intro st which
    rw [state]
    rcases cases' with ⟨is, _⟩ | ⟨is, _⟩ | ⟨is, _⟩ | ⟨is, _⟩ <;> rw [is] <;> rcases which with rfl | rfl | rfl <;> decide
  have second : isFirstContact s c old = false := isFirstContact_of_runner grants (other _ (.inl rfl))
  refine ⟨answer.found.mid, answer.found.acct, answer.found.svc, answer.ret (other _ (.inr (.inl rfl))) (other _ (.inr (.inr rfl))),
    answer.notes (other _ (.inr (.inl rfl))) (other _ (.inr (.inr rfl))), answer.found.had, rfl, answer.found.state.trans state, answer.authority,
    answer.found.holdOut, answer.found.attempts, answer.stopped, answer.moving, answer.level, answer.home, fun ruled rules => ?_⟩
  rw [if_neg not_silent]
  refine answer.ends_of_rules (Eq.trans ?_ ((entryRules_of_run run _ _).trans rules))
  rcases cases' with ⟨is, _⟩ | ⟨is, _⟩ | ⟨is, _⟩ | ⟨is, _⟩ <;> rw [is] at state ⊢ <;>
    simp only [statusRules, answer.found.had, second, state, Bool.false_eq_true, if_false]

/-- A SILENT car heard again takes up the state that its entry gives (R48). -/
theorem runner_of_silent (run : RunEntry e) (grants : Granting s) (silent : old.state = .silent) (found : entryOf s c = some e) :
    Runner s k c r old e (h.up (fun s => moveCar s c (runState e))) (now.goTo (runState e)) now a := by
  have second : isFirstContact s c old = false := isFirstContact_of_runner grants (by rw [silent]; decide)
  have mid := answer.found.mid
  have found_h : entryOf h.st c = some e := (answer.found.entry c).trans found
  refine ⟨⟨⟨mid.fixed, mid.spacing, mid.seq, mid.state, ?_, queuedFirst_of_port mid.reports rfl⟩, mid.cancelled⟩, answer.found.acct,
    answer.found.svc, answer.ret (by rw [silent]; decide) (by rw [silent]; decide), answer.notes (by rw [silent]; decide) (by rw [silent]; decide),
    ?_, rfl, rfl, answer.authority, answer.found.holdOut, answer.found.attempts, answer.stopped, answer.moving, answer.level, answer.home,
    fun ruled rules => ?_⟩
  · show (carLink (moveCar h.st c _) c).nextTag = _
    rw [carLink_moveCar_same, (leaveSilent_slot _ _).2]
    exact mid.tag
  · show record (moveCar h.st c _) c = _
    rw [record_moveCar_same, answer.found.had]
    rfl
  · rw [if_pos silent]
    have resumes : statusRules h c old (isFirstContact s c old) (carried r a) = ⟨ruled.work, some .resumption⟩ := by
      simp only [statusRules, answer.found.had, second, silent, Bool.false_eq_true, if_false, resume, found_h, stateFromEntry_eq run]
      rw [entryRules_of_run run, rules]
    exact answer.ends_of_rules resumes

theorem exists_runner (grants : Granting s) (found : entryOf s c = some e) (under : RunsUnder old e) :
    ∃ w cur, Runner s k c r old e w cur now a := by
  obtain ⟨run, state | silent⟩ := under
  · exact ⟨_, _, runner_of_heard answer run grants state⟩
  · exact ⟨_, _, runner_of_silent answer run grants silent found⟩

end

theorem exists_runner_of_reply {s : State} {k : Link} {c : CarId} {r : CarReply} {old : CarRecord} {e : Entry}
    (replies : Replies s k ⟨c, .poll⟩ r old) (grants : Granting s) (found : entryOf s c = some e) (under : RunsUnder old e) :
    ∃ w cur now a, Runner s k c r old e w cur now a := by
  obtain ⟨h, now, a, answer⟩ := exists_answer replies
  obtain ⟨w, cur, runner⟩ := exists_runner answer grants found under
  exact ⟨w, cur, now, a, runner⟩

end Sys2Proof.Proofs.Cars
end
section
/-! PROOFS. Runs that a reply steps (R42, R95) and runs that it ends by a stop (R42, R148). -/

namespace Sys2Proof.Proofs.Cars

open Sys2Proof.Machine Sys2Proof.Safety Sys2Proof.Proofs.Upkeep Sys2Proof.Proofs.IndicationLines Sys2Proof.Proofs.Ends
  Sys2Proof.Proofs.Account Sys2Proof.Proofs.Capacity Sys2Proof.Proofs.Pause Sys2Proof.Proofs.Shedding

/-! ## Steps of the event that stay in the middle of it -/

theorem Midway.moveCar {s u : State} {c : CarId} (h : Midway s u c) (st : CarState) : Midway s (moveCar u c st) c :=
  ⟨⟨h.fixed, h.spacing, h.seq, h.state, by rw [carLink_moveCar_same, (leaveSilent_slot _ _).2]; exact h.tag, queuedFirst_of_port h.reports rfl⟩,
    h.cancelled⟩

theorem Midway.account {s u v : State} {c : CarId} (h : Midway s u c) (side : AccountOnly u v) (fixed : v.fixed = u.fixed)
    (reports : QueuedFirst s [] v) : Midway s v c := by
  have ret : v.ret = u.ret := by rw [side]
  have plan : v.plan = u.plan := by rw [side]
  have link : v.link = u.link := by rw [side]
  refine ⟨⟨fixed.trans h.fixed, by rw [ret]; exact h.spacing, by rw [ret]; exact h.seq, by rw [plan]; exact h.state, ?_, reports⟩,
    by rw [plan]; exact h.cancelled⟩
  unfold carLink
  rw [link]
  exact h.tag

theorem Midway.step {s : State} {w : Work} {c : CarId} (h : Midway s w.st c) : Midway s (stepEntry w c).st c :=
  h.account (accountSide_stepEntry w c) (closed_stepEntry (closed_fixed _) rfl) (closed_stepEntry (closed_queuedFirst s []) h.reports)

theorem causeOf_eq (old : CarRecord) (cause : CarCause) :
    (if old.state = .silent then some .resumption else some cause) = some (causeOf old cause) := by
  unfold causeOf
  split <;> rfl

theorem sequencer_not_local {r : CarReply} (sequencer : authorityIn r = some .sequencer) : ¬ Local (authorityIn r) := by
  rw [sequencer]
  simp [Local]

section
variable {s : State} {k : Link} {c : CarId} {r : CarReply} {old now cur : CarRecord} {w : Work} {a : Authority} {e : Entry}
  (runner : Runner s k c r old e w cur now a)
include runner

theorem Runner.found (found : entryOf s c = some e) : entryOf w.st c = some e := (entryOf_of_acct runner.acct c).trans found

theorem Runner.cars (cars : OneEntryPerCar s) : OneEntryPerCar w.st := by
  unfold OneEntryPerCar
  rw [runner.acct]
  exact cars

theorem Runner.totals (totals : TotalsMatch s) : TotalsMatch w.st := by
  unfold TotalsMatch
  rw [runner.acct]
  exact totals

theorem Runner.isMoving_iff : isMoving now = true ↔ ¬ StoppedIn r := by
  rw [runner.moving, Bool.not_eq_true', ← Bool.not_eq_true, runner.stopped]

theorem Runner.isMoving_of_stopped (stopped : StoppedIn r) : isMoving now = false := by
  rw [runner.moving, runner.stopped.2 stopped]
  rfl

theorem Runner.isStopped_of_moving (moves : ¬ StoppedIn r) : isStopped now = false := by
  rw [← Bool.not_eq_true, runner.stopped]
  exact moves

theorem Runner.underLocal_iff : underLocal now = true ↔ Local (authorityIn r) := by
  rw [Cars.underLocal_iff, runner.authority]

theorem Runner.not_local (h : ¬ Local (authorityIn r)) : underLocal now = false := by
  rw [← Bool.not_eq_true, runner.underLocal_iff]
  exact h

theorem Runner.outOfOrder_iff : outOfOrder now = true ↔ authorityIn r = some .outOfOrder := by
  rw [Cars.outOfOrder_iff, runner.authority]

theorem Runner.cur_eq : cur = { now with state := runState e, failure := cur.failure, parkOut := cur.parkOut } := by
  have kin := runner.kin
  unfold Kin at kin
  rw [runner.state] at kin
  exact kin

theorem Runner.sheds : w.nt.sheds = [] := by rw [runner.notes]; rfl

theorem Runner.away (away : ∀ x ∈ s.ret.queue, x.car ≠ c) : ∀ x ∈ w.st.ret.queue, x.car ≠ c := by rw [runner.ret]; exact away

/-! ## A step (R42, R95) -/

/-- A moving car under SEQUENCER authority whose reply steps its entry runs under it, or has it shed. -/
theorem runner_steps {run : Nat} (paused : Paused s c) (found : entryOf s c = some e) (start : e.kind = .returning ∧ e.phase = .start)
    (has : e.runDraw = some run) (handed : handedOutcome e (carried r a) now = .stepped) (sequencer : authorityIn r = some .sequencer)
    (moves : ¬ StoppedIn r) (state : old.state ≠ .running) :
    ∃ t new, exec (.carReply k r) s = .next t ∧ SettingsKept s t ∧ HostSideKept s t ∧ t.cap = s.cap
      ∧ t.acct.kd = s.acct.kd - e.draw + run ∧ t.acct.kr = s.acct.kr ∧ RunsOrShed s t c e run
      ∧ record t c = some new ∧ new.attempts = old.attempts
      ∧ CarReported s t c old.state .running (causeOf old .step) none := by
  obtain ⟨grants, stays, totals, cars, enrols, spaced, away⟩ := paused
  have starting : runState e = .starting := by unfold runState; rw [start.2]
  have stepped := stepped_stepEntry (runner.cars cars) (runner.totals totals) (runner.found found) has runner.sheds
  have mid := (runner.mid.step).moveCar .running
  obtain ⟨y, made⟩ : ∃ y, y = moveCar (stepEntry w c).st c .running := ⟨_, rfl⟩
  rw [← made] at mid
  have rule : runRules w c (runState e) (carried r a) now = ⟨⟨y, (stepEntry w c).nt⟩, some .step⟩ := by
    rw [runRules_stepped (runner.found found) handed, starting]
    have fine : (outOfOrder now && underway (steppedState .starting)) = false := by
      have not_out : outOfOrder now = false := by rw [← Bool.not_eq_true, runner.outOfOrder_iff, sequencer]; decide
      rw [not_out]; rfl
    rw [afterAccount_motion (runner.not_local (sequencer_not_local sequencer)) fine, motionRules_moving (runner.isStopped_of_moving moves), made]
    rfl
  obtain ⟨t, z, runs, port, fixed, _, made_t, tells⟩ := runner.ends _ rule
  have had : record y c = some (cur.goTo .running) := by
    rw [made, record_moveCar_same, (AccountSide.of_only stepped.side).record c, runner.had]
    rfl
  have ret : y.ret = w.st.ret := by
    have : (stepEntry w c).st.ret = w.st.ret := by rw [stepped.side]
    rw [made]; exact this
  have acct : y.acct = (stepEntry w c).st.acct := by rw [made]; rfl
  have overruns : StepOverruns w.st e run ↔ StepOverruns s e run := by
    unfold StepOverruns
    rw [runner.acct, runner.mid.cap]
  have entry : (c ∉ (stepEntry w c).nt.sheds ∧ entryOf y c = some (runForm e run))
      ∨ (c ∈ (stepEntry w c).nt.sheds ∧ StepOverruns s e run ∧ entryOf y c = some (shedForm (runForm e run))) := by
    rw [entryOf_of_acct acct c, ← overruns]
    exact stepped.entry
  obtain ⟨result, attempts, acct_t⟩ := runsOrShed_of_step mid.toNear port fixed stepped.sheds (mid.calm grants stays spaced)
    (by rw [ret]; exact runner.away away) enrols grants had rfl entry
  rw [← made_t] at result attempts acct_t
  obtain ⟨new, here, used⟩ := Option.map_eq_some_iff.1 attempts
  have reported := tells.reported _ (causeOf old .step) had (by exact state) (causeOf_eq old .step)
  refine ⟨t, new, runs, tells.settings, tells.host, tells.cap, ?_, ?_, result, here, ?_, reported⟩
  · rw [acct_t, acct, stepped.kd, runner.acct]
  · rw [acct_t, acct, stepped.kr, runner.acct]
  · rw [used, runner.cur_eq]
    exact runner.attempts

end

end Sys2Proof.Proofs.Cars
end
section
/-! PROOFS. Runs that a reply ends: the entry released, the stop classified, the car evaluated (R42, R46, R96, R98, R148). -/

namespace Sys2Proof.Proofs.Cars

open Sys2Proof.Machine Sys2Proof.Safety Sys2Proof.Proofs.Upkeep Sys2Proof.Proofs.IndicationLines Sys2Proof.Proofs.Ends
  Sys2Proof.Proofs.Account Sys2Proof.Proofs.Capacity Sys2Proof.Proofs.Pause Sys2Proof.Proofs.Shedding

theorem evaluationState_cases (s : State) (a : Option Authority) (holdOut : Bool) (attempts : Nat) (home : Bool) :
    evaluationState s a holdOut attempts home = .deferred ∨ evaluationState s a holdOut attempts home = .held
      ∨ evaluationState s a holdOut attempts home = .failed ∨ evaluationState s a holdOut attempts home = .idle
      ∨ evaluationState s a holdOut attempts home = .queued := by
  by_cases isLocal : Local a
  · exact .inl (evaluationState_of_local isLocal _ _ _)
  by_cases held : a = some .outOfOrder ∨ holdOut = true
  · exact .inr (.inl (evaluationState_of_held isLocal held _ _))
  · rw [evaluationState_of_free isLocal held]
    split
    · simp
    · split <;> simp

/-! ## The stop classified (Table 8-3) -/

theorem classifyStop_attempt {e : Entry} {cur : CarRecord} {r : CarReply} (level : ∀ floor, levelAt cur floor = levelIn r floor) :
    (classifyStop e cur).attempt = true ↔ Consumes e r := by
  have arrives : (e.kind == .returning && atTarget e cur) = true ↔ Arrives e r := by
    rw [Bool.and_eq_true, beq_iff_eq]
    exact ⟨fun ⟨kind, at_floor⟩ => (atTarget_iff level kind).1 at_floor, fun h => ⟨h.1, (atTarget_iff level h.1).2 h⟩⟩
  unfold Consumes
  rw [← arrives]
  unfold classifyStop atTarget
  repeat' split
  all_goals simp_all
  rename_i which
  rcases which with is | is <;> simp [is]

theorem classifyStop_front {e : Entry} {cur : CarRecord} {r : CarReply} (level : ∀ floor, levelAt cur floor = levelIn r floor) :
    (classifyStop e cur).front = true ↔ ClaimsFront e r := by
  have arrives : (e.kind == .returning && atTarget e cur) = true ↔ Arrives e r := by
    rw [Bool.and_eq_true, beq_iff_eq]
    exact ⟨fun ⟨kind, at_floor⟩ => (atTarget_iff level kind).1 at_floor, fun h => ⟨h.1, (atTarget_iff level h.1).2 h⟩⟩
  unfold ClaimsFront Consumes
  rw [← arrives]
  unfold classifyStop atTarget
  repeat' split
  all_goals simp_all
  rename_i which
  rcases which with is | is <;> simp [is]

/-! ## The end of a run by evaluation -/

/-- A reply that has ended with the car evaluated, from the state `u` in which the evaluation found it. -/
structure EvaluatedBy (s u : State) (k : Link) (c : CarId) (r : CarReply) (old : CarRecord) (used : Nat) (cause : CarCause) (front : Bool)
    (t : State) : Prop where
  runs : exec (.carReply k r) s = .next t
  settings : SettingsKept s t
  host : HostSideKept s t
  cap : t.cap = s.cap
  evaluated : Evaluated s t c (authorityIn r) old.holdOut used (levelIn r (profile s c).recallFloor)
  reported : CarReported s t c old.state
    (evaluationState s (authorityIn r) old.holdOut used (levelIn r (profile s c).recallFloor)) (causeOf old cause) none
  acct : ¬ Local (authorityIn r) → t.acct = u.acct
  queued : QueuedAnew s t c front
  cancelled : t.plan.cancelled.at c = false

section
variable {s : State} {k : Link} {c : CarId} {r : CarReply} {old now cur : CarRecord} {w : Work} {a : Authority} {e : Entry}
  (runner : Runner s k c r old e w cur now a)
include runner

theorem Runner.level_cur (floor : Nat) : levelAt cur floor = levelIn r floor := by
  rw [runner.cur_eq]
  exact runner.level floor

theorem Runner.authority_cur : cur.authority = authorityIn r := by
  rw [runner.cur_eq]
  exact runner.authority

theorem Runner.holdOut_cur : cur.holdOut = old.holdOut := by
  rw [runner.cur_eq]
  exact runner.holdOut

theorem Runner.attempts_cur : cur.attempts = old.attempts := by
  rw [runner.cur_eq]
  exact runner.attempts

theorem Runner.home_cur : atHome s c cur = levelIn r (profile s c).recallFloor := by
  rw [← levelAt_eq, runner.level_cur]

/-- Where the rules end with the evaluation of a car that holds no entry, the reply does. -/
theorem runner_evaluated {u : Work} {claim : Bool} {cause : CarCause} {r1 : CarRecord} (grants : Granting s) (stays : GeneratorStays s)
    (enrols : (profile s c).enrolled = true) (spaced : s.ret.spacing ≠ none) (away : ∀ x ∈ u.st.ret.queue, x.car ≠ c)
    (rule : runRules w c (runState e) (carried r a) now = ⟨evaluate u c claim, some cause⟩) (mid : Midway s u.st c)
    (gone : entryOf u.st c = none) (had : record u.st c = some r1) (differs : old.state ≠ .deferred ∧ old.state ≠ .held ∧ old.state ≠ .failed
      ∧ old.state ≠ .idle ∧ old.state ≠ .queued) (authority : r1.authority = authorityIn r) (holdOut : r1.holdOut = old.holdOut)
    (home : atHome s c r1 = levelIn r (profile s c).recallFloor) :
    ∃ t, EvaluatedBy s u.st k c r old r1.attempts cause (claim || s.plan.cancelled.at c) t := by
  obtain ⟨unshed, calm⟩ := calm_evaluate mid grants stays spaced gone had claim
  obtain ⟨t, z, runs, port, fixed, _, made, tells⟩ := runner.ends _ rule
  have outcome : Outcome (evaluate u c claim).st t c := made ▸ outcome_of_report (nt := (evaluate u c claim).nt) port fixed (.inr unshed) calm
  have judged := judgement mid grants away gone had claim outcome
  have evaluated := judged.evaluated enrols
  have state := judged.state
  have acct := judged.acct
  rw [home, authority, holdOut] at evaluated state
  rw [authority] at acct
  obtain ⟨new, here, is⟩ := Option.map_eq_some_iff.1 state
  have moved : old.state ≠ new.state := by
    rw [is]
    obtain ⟨d, h, f, i, q⟩ := differs
    rcases evaluationState_cases s (authorityIn r) old.holdOut r1.attempts (levelIn r (profile s c).recallFloor) with x | x | x | x | x <;>
      rw [x] <;> assumption
  have reported := tells.reported new (causeOf old cause) here moved (causeOf_eq old cause)
  rw [is] at reported
  exact ⟨t, runs, tells.settings, tells.host, tells.cap, evaluated, reported, acct, judged.queued, judged.cancelled⟩

end

theorem differs_of_runner {old : CarRecord} {e : Entry} (under : RunsUnder old e) : old.state ≠ .deferred ∧ old.state ≠ .held
    ∧ old.state ≠ .failed ∧ old.state ≠ .idle ∧ old.state ≠ .queued := by
  obtain ⟨run, state | silent⟩ := under
  · rcases runState_cases run with ⟨is, _⟩ | ⟨is, _⟩ | ⟨is, _⟩ | ⟨is, _⟩ <;> rw [state, is] <;> decide
  · rw [silent]
    decide

end Sys2Proof.Proofs.Cars
end
section
/-! PROOFS. Each way a reply ends a run (R42, R46, R96). -/

namespace Sys2Proof.Proofs.Cars

open Sys2Proof.Machine Sys2Proof.Safety Sys2Proof.Proofs.Upkeep Sys2Proof.Proofs.IndicationLines Sys2Proof.Proofs.Ends
  Sys2Proof.Proofs.Account Sys2Proof.Proofs.Capacity Sys2Proof.Proofs.Pause Sys2Proof.Proofs.Shedding

section
variable {s : State} {k : Link} {c : CarId} {r : CarReply} {old now cur : CarRecord} {w : Work} {a : Authority} {e : Entry}
  (runner : Runner s k c r old e w cur now a)
include runner

theorem Runner.freed (paused : Paused s c) (found : entryOf s c = some e) : Freed w (releaseEntry w c) c e :=
  freed_releaseEntry (runner.found found) (runner.cars paused.2.2.2.1) (runner.totals paused.2.2.1)

theorem Runner.granting (grants : Granting s) : Granting w.st := runner.mid.granting grants

/-- The attempts used after a stop. -/
def usedBy (attempt : Bool) (old : CarRecord) : Nat := if attempt then min 5 (old.attempts + 1) else old.attempts

/-- The work that a stop hands to the evaluation. -/
def stopWork (w : Work) (c : CarId) (attempt : Bool) : Work := if attempt then w.up (fun s => consumeAttempt s c) else w

omit runner in
theorem stopWork_facts {s : State} {v : Work} {c : CarId} {r1 : CarRecord} (mid : Midway s v.st c) (had : record v.st c = some r1) (attempt : Bool) :
    Midway s (stopWork v c attempt).st c ∧ (stopWork v c attempt).st.acct = v.st.acct ∧ (stopWork v c attempt).st.ret = v.st.ret
      ∧ record (stopWork v c attempt).st c = some { r1 with attempts := usedBy attempt r1 } := by
  cases attempt with
  | false => exact ⟨mid, rfl, rfl, had⟩
  | true => exact ⟨mid.consumeAttempt, rfl, rfl, record_consumeAttempt had⟩

/-- The run has ended: the entry released, an attempt consumed or not, the car evaluated. -/
theorem runner_ends {claim : Bool} {cause : CarCause} (attempt : Bool) (paused : Paused s c) (found : entryOf s c = some e)
    (under : RunsUnder old e)
    (rule : runRules w c (runState e) (carried r a) now = ⟨evaluate (stopWork (releaseEntry w c) c attempt) c claim, some cause⟩) :
    ∃ t u, EvaluatedBy s u k c r old (usedBy attempt old) cause (claim || s.plan.cancelled.at c) t ∧ entryOf u c = none
      ∧ u.acct.kd = s.acct.kd - e.draw ∧ u.acct.kr = s.acct.kr - e.regen := by
  have freed := runner.freed paused found
  obtain ⟨grants, stays, _, _, enrols, spaced, away⟩ := paused
  have had := (freed.side.record c).trans runner.had
  obtain ⟨mid, acct, ret, here⟩ := stopWork_facts (runner.mid.release freed) had attempt
  have gone : entryOf (stopWork (releaseEntry w c) c attempt).st c = none := (entryOf_of_acct acct c).trans freed.entry
  have away_u : ∀ x ∈ (stopWork (releaseEntry w c) c attempt).st.ret.queue, x.car ≠ c := by
    rw [ret, freed.side.ret]
    exact runner.away away
  obtain ⟨t, ends⟩ := runner_evaluated runner grants stays enrols spaced away_u rule mid gone here (differs_of_runner under)
    runner.authority_cur runner.holdOut_cur runner.home_cur
  have used : usedBy attempt cur = usedBy attempt old := by
    unfold usedBy
    rw [runner.attempts_cur]
  refine ⟨t, _, used ▸ ends, gone, ?_, ?_⟩
  · rw [acct, freed.kd, runner.acct]
  · rw [acct, freed.kr, runner.acct]

theorem stopCar_eq (paused : Paused s c) (found : entryOf s c = some e) : stopCar w c
    = evaluate (stopWork (releaseEntry w c) c (classifyStop e cur).attempt) c (classifyStop e cur).front := by
  have freed := runner.freed paused found
  have had := (freed.side.record c).trans runner.had
  have state : (releaseEntry w c).st.plan.state = s.plan.state := by rw [freed.side.plan]; exact runner.mid.state
  have granting : ¬ (releaseEntry w c).st.plan.state = .restoring := by
    rw [state]
    rcases paused.1 with is | is <;> rw [is] <;> decide
  simp only [stopCar, runner.found found, granting, if_false, handStop, had]
  rfl

/-- A stop (R42): released, classified, evaluated. -/
theorem runner_stops (paused : Paused s c) (found : entryOf s c = some e) (under : RunsUnder old e) (stopped : StoppedIn r)
    (handed : handedOutcome e (carried r a) now = .stands) (ends : (authorityIn r = some .sequencer ∧ (e.phase = .run ∨ e.phase = .stop
      ∨ (e.phase = .start ∧ Arrives e r))) ∨ (authorityIn r = some .outOfOrder ∧ e.phase = .stop)) :
    ∃ t u, EvaluatedBy s u k c r old (usedBy (classifyStop e cur).attempt old) .stop ((classifyStop e cur).front || s.plan.cancelled.at c) t
      ∧ entryOf u c = none ∧ u.acct.kd = s.acct.kd - e.draw ∧ u.acct.kr = s.acct.kr - e.regen := by
  have not_local : ¬ Local (authorityIn r) := by
    rcases ends with ⟨is, _⟩ | ⟨is, _⟩ <;> rw [is] <;> simp [Local]
  have cases' := runState_cases under.1
  have state : runState e = .running ∨ runState e = .stopping ∨ (runState e = .starting ∧ atTarget e now = true) := by
    rcases cases' with ⟨is, kind, phase⟩ | ⟨is, _, phase⟩ | ⟨is, phase⟩ | ⟨_, _, phase⟩
    · refine .inr (.inr ⟨is, (atTarget_iff runner.level kind).2 ?_⟩)
      rcases ends with ⟨_, other | other | ⟨_, arrives⟩⟩ | ⟨_, other⟩
      · rw [phase] at other; cases other
      · rw [phase] at other; cases other
      · exact arrives
      · rw [phase] at other; cases other
    · exact .inl is
    · exact .inr (.inl is)
    · rcases ends with ⟨_, other | other | ⟨other, _⟩⟩ | ⟨_, other⟩ <;> rw [phase] at other <;> cases other
  have fine : (outOfOrder now && underway (runState e)) = false := by
    rcases ends with ⟨is, _⟩ | ⟨_, phase⟩
    · have not_out : outOfOrder now = false := by rw [← Bool.not_eq_true, runner.outOfOrder_iff, is]; decide
      rw [not_out]; rfl
    · have stopping : runState e = .stopping := by unfold runState; rw [phase]
      rw [stopping]
      exact Bool.and_false _
  refine runner_ends runner (classifyStop e cur).attempt paused found under ?_
  rw [runRules_stands (runner.found found) handed, afterAccount_motion (runner.not_local not_local) fine,
    motionRules_stop (runner.found found) (runner.stopped.2 stopped) state, stopCar_eq runner paused found]
  rfl

end

end Sys2Proof.Proofs.Cars
end
section
/-! PROOFS. What the account leaves to the rules of authority (R44, R46): the entry as it stood, stepped, or stepped and shed. -/

namespace Sys2Proof.Proofs.Cars

open Sys2Proof.Machine Sys2Proof.Safety Sys2Proof.Proofs.Upkeep Sys2Proof.Proofs.IndicationLines Sys2Proof.Proofs.Ends
  Sys2Proof.Proofs.Account Sys2Proof.Proofs.Capacity Sys2Proof.Proofs.Pause Sys2Proof.Proofs.Shedding

/-- Two entries that a step, shedding or a stop has not told apart: of one car and number, granted together, with one regeneration. -/
def SameEntry (e e1 : Entry) : Prop := e1.car = e.car ∧ e1.permit = e.permit ∧ e1.grantTime = e.grantTime ∧ e1.regen = e.regen

theorem toStanding_of_same {e e1 : Entry} (same : SameEntry e e1) (f : WorstFigures) : e1.toStanding f = e.toStanding f := by
  obtain ⟨car, permit, time, _⟩ := same
  simp only [Entry.toStanding, car, permit, time]

/-- A step of an entry, whatever its run draw: the regeneration stands, and the entry is the same. -/
theorem stepEntry_facts {w : Work} {c : CarId} {e : Entry} (cars : OneEntryPerCar w.st) (totals : TotalsMatch w.st)
    (found : entryOf w.st c = some e) : TotalsMatch (stepEntry w c).st ∧ OneEntryPerCar (stepEntry w c).st
      ∧ (stepEntry w c).st.acct.kr = w.st.acct.kr ∧ ∃ e1, entryOf (stepEntry w c).st c = some e1 ∧ SameEntry e e1 := by
  obtain ⟨u, made⟩ : ∃ u : Work, u = w.up (fun s => s.setAcct (s.acct.change c Entry.toRun)) := ⟨_, rfl⟩
  have one : OneEntryPerCar u.st := by rw [made]; exact oneEntryPerCar_change cars c fun _ => rfl
  have sums : TotalsMatch u.st := by rw [made]; exact summed_change totals c _
  have here : entryOf u.st c = some e.toRun := by
    rw [made]
    show entryOf (w.st.setAcct (w.st.acct.change c Entry.toRun)) c = _
    rw [entryOf_change (f := Entry.toRun) (fun _ => rfl), if_pos rfl, found]
    rfl
  have kr_u : u.st.acct.kr = w.st.acct.kr := by
    have low : e.regen ≤ w.st.acct.kr := by
      rw [totals.2]
      exact List.le_sum_of_mem (List.mem_map.2 ⟨e, entryOf_mem found, rfl⟩)
    have kr := (change_found (a := w.st.acct) found Entry.toRun).2
    rw [made]
    refine kr.trans ?_
    show w.st.acct.kr - e.regen + e.regen = _
    omega
  have steps : stepEntry w c = settleAccount u true := by rw [made]; rfl
  obtain ⟨_, _, _, which⟩ := (shed_settleAccount one sums true c).cars
  obtain ⟨sums', _, kr', _⟩ := flagsStand_settleAccount sums true
  rw [steps]
  refine ⟨sums', oneEntryPerCar_settleAccount one true, kr'.trans kr_u, ?_⟩
  rcases which with ⟨_, same⟩ | ⟨_, x, found', _, shed_x, _⟩
  · exact ⟨_, same.trans here, rfl, rfl, rfl, rfl⟩
  · rw [here] at found'
    rw [← Option.some.inj found'] at shed_x
    exact ⟨_, shed_x, rfl, rfl, rfl, rfl⟩

/-- What the rules of authority find when the account has had the reply. -/
structure Accounted (s : State) (c : CarId) (e : Entry) (now : CarRecord) (w1 : Work) (cur1 : CarRecord) : Prop where
  mid : Midway s w1.st c
  ret : w1.st.ret = s.ret
  had : record w1.st c = some cur1
  kin : Kin now cur1
  entry : ∃ e1, entryOf w1.st c = some e1 ∧ SameEntry e e1
  kr : w1.st.acct.kr = s.acct.kr
  totals : TotalsMatch w1.st
  cars : OneEntryPerCar w1.st

theorem underway_steppedState {st : CarState} (h : underway st = true) : underway (steppedState st) = true := by
  unfold steppedState
  split
  · rfl
  · exact h

section
variable {s : State} {k : Link} {c : CarId} {r : CarReply} {old now cur : CarRecord} {w : Work} {a : Authority} {e : Entry}
  (runner : Runner s k c r old e w cur now a)
include runner

theorem exists_accounted (paused : Paused s c) (found : entryOf s c = some e) (lives : handedOutcome e (carried r a) now ≠ .expired) :
    ∃ w1 cur1 st1 stepped, Accounted s c e now w1 cur1
      ∧ runRules w c (runState e) (carried r a) now = afterAccount w1 c st1 now stepped
      ∧ (underway (runState e) = true → underway st1 = true) := by
  obtain ⟨_, _, totals, cars, _⟩ := paused
  have found_w := runner.found found
  cases handed : handedOutcome e (carried r a) now with
  | expired => exact absurd handed lives
  | stands =>
    exact ⟨w, cur, _, false, ⟨runner.mid, runner.ret, runner.had, runner.kin, ⟨e, found_w, rfl, rfl, rfl, rfl⟩, by rw [runner.acct],
      runner.totals totals, runner.cars cars⟩, runRules_stands found_w handed, id⟩
  | stepped =>
    have facts := stepEntry_facts (runner.cars cars) (runner.totals totals) found_w
    have side := accountSide_stepEntry w c
    have mid := (runner.mid.step (w := w)).moveCar (steppedState (runState e))
    have rule := runRules_stepped (st := runState e) found_w handed
    obtain ⟨v, made⟩ : ∃ v, v = stepEntry w c := ⟨_, rfl⟩
    rw [← made] at facts side mid rule
    obtain ⟨sums, one, kr, e1, here, same⟩ := facts
    have ret : v.st.ret = w.st.ret := by rw [side]
    have had : record (moveCar v.st c (steppedState (runState e))) c = some (cur.goTo (steppedState (runState e))) := by
      rw [record_moveCar_same, (AccountSide.of_only side).record c, runner.had]
      rfl
    have kin : Kin now (cur.goTo (steppedState (runState e))) := by
      have kin := runner.kin
      unfold Kin at *
      rw [kin]
      rfl
    have regen : v.st.acct.kr = s.acct.kr := kr.trans (by rw [runner.acct])
    exact ⟨v.up (fun s => moveCar s c (steppedState (runState e))), _, _, true, ⟨mid, ret.trans runner.ret, had, kin, ⟨e1, here, same⟩, regen, sums, one⟩,
      rule, underway_steppedState⟩

end

end Sys2Proof.Proofs.Cars
end
section
/-! PROOFS. Authority reported by a car that runs (R44, R46). -/

namespace Sys2Proof.Proofs.Cars

open Sys2Proof.Machine Sys2Proof.Safety Sys2Proof.Proofs.Upkeep Sys2Proof.Proofs.IndicationLines Sys2Proof.Proofs.Ends
  Sys2Proof.Proofs.Account Sys2Proof.Proofs.Capacity Sys2Proof.Proofs.Pause Sys2Proof.Proofs.Shedding

/-! ## A slot emptied -/

theorem Midway.emptySlot {s u : State} {c : CarId} (h : Midway s u c) : Midway s (emptySlot u c) c :=
  ⟨⟨h.fixed, h.spacing, h.seq, h.state, by rw [carLink_emptySlot_same]; exact h.tag, queuedFirst_of_port h.reports rfl⟩, h.cancelled⟩

/-! ## A conversion (R44, R94) -/

/-- The state with a car's entry about to be converted. -/
def convertingState (s : State) (c : CarId) (e : Entry) : State :=
  (undesignated (removeCommand s c isGrantCommand) c e).setAcct (s.acct.change c (Entry.toStanding (worstOf s c)))

theorem convertEntry_eq {w : Work} {c : CarId} {e : Entry} (found : entryOf w.st c = some e) : ∃ nt : Notes,
    convertEntry w c = settleAccount ⟨convertingState w.st c e, nt⟩ false ∧ nt.rs = w.nt.rs := by
  simp only [convertEntry, found]
  unfold convertingState undesignated
  split
  · exact ⟨_, rfl, rfl⟩
  · exact ⟨_, rfl, rfl⟩

theorem accountSide_convertingState (s : State) (c : CarId) (e : Entry) : AccountSide s (convertingState s c e) := by
  unfold convertingState
  rw [undesignated_svc]
  rfl

/-- A conversion: the entry is STANDING with WORST figures, and the grant's commands have left the slot. -/
theorem convertEntry_facts {w : Work} {c : CarId} {e : Entry} (found : entryOf w.st c = some e) :
    AccountSide w.st (convertEntry w c).st ∧ entryOf (convertEntry w c).st c = some (e.toStanding (worstOf w.st c))
      ∧ carLink (convertEntry w c).st c = (carLink w.st c).dropIf isGrantCommand := by
  obtain ⟨nt, converts, _⟩ := convertEntry_eq found
  have here : entryOf (convertingState w.st c e) c = some (e.toStanding (worstOf w.st c)) := by
    show entryOf (w.st.setAcct (w.st.acct.change c (Entry.toStanding (worstOf w.st c)))) c = _
    rw [entryOf_change (f := Entry.toStanding (worstOf w.st c)) (fun _ => rfl), if_pos rfl, found]
    rfl
  have fast : Unmovable (convertingState w.st c e) c := fun x is => by
    rw [here] at is
    rw [← Option.some.inj is]
    rfl
  rw [converts]
  refine ⟨(accountSide_convertingState _ _ _).trans (.of_only (accountOnly_settleAccount _ _)),
    (entryOf_settleAccount_of_unmovable fast false).trans here, ?_⟩
  rw [carLink_settleAccount]
  show carLink (convertingState w.st c e) c = _
  unfold convertingState
  rw [undesignated_svc]
  exact carLink_alterLink_same w.st c _

section
variable {s : State} {k : Link} {c : CarId} {r : CarReply} {old now cur : CarRecord} {w : Work} {a : Authority} {e : Entry}
  (runner : Runner s k c r old e w cur now a)
include runner

theorem handed_lives (run : RunEntry e) (which : WindowOpen e ∨ ¬ StoppedIn r ∨ Arrives e r) : handedOutcome e (carried r a) now ≠ .expired := by
  by_cases start : e.phase = .start
  · have kind : e.kind = .returning := by
      rcases runState_cases run with ⟨_, is, _⟩ | ⟨_, is, _⟩ | ⟨_, other⟩ | ⟨_, _, other⟩
      · exact is
      · exact is
      · rw [start] at other; cases other
      · rw [start] at other; cases other
    cases window : e.window with
    | none => simp [handedOutcome, window]
    | some win =>
      cases lapsed : win.lapsed with
      | false =>
        simp only [handedOutcome, window, starting_of kind start, lapsed, Bool.not_true, Bool.false_eq_true, if_false]
        split <;> simp
      | true =>
        rw [handed_of_lapsed kind start window lapsed]
        rcases which with fresh | moves | arrives
        · rw [fresh win window] at lapsed; cases lapsed
        · rw [if_pos (runner.isMoving_iff.2 moves)]; simp
        · rw [if_pos ((atTarget_iff runner.level kind).2 arrives)]
          split <;> simp
  · rw [handed_of_not_starting _ _ start]
    simp

/-- A local authority (R44): the entry converted, the car DEFERRED, the slot empty. -/
theorem runner_deferred (paused : Paused s c) (found : entryOf s c = some e) (under : RunsUnder old e)
    (lives : handedOutcome e (carried r a) now ≠ .expired) (isLocal : Local (authorityIn r)) :
    ∃ t new, exec (.carReply k r) s = .next t ∧ SettingsKept s t ∧ HostSideKept s t ∧ t.cap = s.cap
      ∧ entryOf t c = some (e.toStanding (worstOf s c))
      ∧ record t c = some new ∧ new.state = .deferred ∧ new.attempts = old.attempts ∧ (t.link.cars.at c).slot = none
      ∧ CarReported s t c old.state .deferred (causeOf old .authority) none := by
  obtain ⟨w1, cur1, st1, stepped, accounted, rule, _⟩ := exists_accounted runner paused found lives
  obtain ⟨grants, stays, _, _, _, spaced, away⟩ := paused
  rw [afterAccount_local (runner.underLocal_iff.2 isLocal)] at rule
  obtain ⟨t, z, runs, port, fixed, kept, made_t, tells⟩ := runner.ends _ rule
  obtain ⟨e1, here, same⟩ := accounted.entry
  obtain ⟨v, made_v⟩ : ∃ v, v = convertEntry (w1.up (fun s => emptySlot s c)) c := ⟨_, rfl⟩
  obtain ⟨side, entry, link⟩ := convertEntry_facts (w := w1.up (fun s => emptySlot s c)) (c := c) (e := e1) here
  rw [← made_v] at side entry link
  have local_eq : localRule w1 c = ⟨moveCar v.st c .deferred, v.nt⟩ := by rw [made_v]; rfl
  rw [local_eq] at port fixed kept made_t tells
  dsimp only at port fixed kept made_t tells
  have setup : w1.st.setup = s.setup := accounted.mid.setup
  have worst : worstOf (emptySlot w1.st c) c = worstOf s c := by
    unfold worstOf profile
    rw [← setup]
    rfl
  have entry_y : entryOf (moveCar v.st c .deferred) c = some (e.toStanding (worstOf s c)) := by
    rw [← toStanding_of_same same, ← worst]
    exact entry
  have had : record (moveCar v.st c .deferred) c = some (cur1.goTo .deferred) := by
    have before : record v.st c = some cur1 := (side.record c).trans accounted.had
    rw [record_moveCar_same, before]
    rfl
  have ret : (moveCar v.st c .deferred).ret = s.ret := side.ret.trans accounted.ret
  have slot : (carLink (moveCar v.st c .deferred) c).slot = none := by
    rw [carLink_moveCar_same, (leaveSilent_slot _ _).1, link]
    show (carLink (emptySlot w1.st c) c |>.dropIf isGrantCommand).slot = none
    rw [carLink_emptySlot_same, dropIf_still _ _ rfl]
  have unshed : Unshed (moveCar v.st c .deferred) c := fun x is => by
    rw [entry_y] at is
    rw [← Option.some.inj is]
    rfl
  have state : (moveCar v.st c .deferred).plan.state = s.plan.state := (congrArg PlanCtl.state side.plan).trans accounted.mid.state
  have outcome : Outcome (moveCar v.st c .deferred) t c := made_t ▸ outcome_of_report (nt := v.nt) port fixed (.inr unshed)
    (calm_of_spaced state kept (by rw [ret]) grants stays spaced)
  have reported := tells.reported _ (causeOf old .authority) had (by
    rw [show (cur1.goTo .deferred).state = .deferred from rfl]
    exact (differs_of_runner under).1) (causeOf_eq old .authority)
  refine ⟨t, _, runs, tells.settings, tells.host, tells.cap, (outcome.entry c).trans entry_y,
    (outcome.record_of_not_queued (by rw [ret]; exact away)).trans had, rfl, ?_, outcome.link.emptied slot, reported⟩
  rw [show (cur1.goTo .deferred).attempts = cur1.attempts from rfl, accounted.kin]
  exact runner.attempts

/-- OUT-OF-ORDER reported by a stopped car (R46): its entry released, the car HELD. -/
theorem runner_outOfOrder_stopped (paused : Paused s c) (found : entryOf s c = some e) (under : RunsUnder old e)
    (lives : handedOutcome e (carried r a) now ≠ .expired) (moving : e.phase ≠ .stop) (out : authorityIn r = some .outOfOrder) (stopped : StoppedIn r) :
    ∃ t u front, EvaluatedBy s u k c r old old.attempts .authority front t ∧ entryOf u c = none ∧ u.acct.kr = s.acct.kr - e.regen := by
  obtain ⟨w1, cur1, st1, stepped, accounted, rule, still⟩ := exists_accounted runner paused found lives
  obtain ⟨grants, stays, _, _, enrols, spaced, away⟩ := paused
  have under_way : underway (runState e) = true := by
    rcases runState_cases under.1 with ⟨is, _⟩ | ⟨is, _⟩ | ⟨_, phase⟩ | ⟨is, _⟩
    · rw [is]; rfl
    · rw [is]; rfl
    · exact absurd phase moving
    · rw [is]; rfl
  have not_local : ¬ Local (authorityIn r) := by rw [out]; simp [Local]
  rw [afterAccount_outOfOrder (runner.not_local not_local) (runner.outOfOrder_iff.2 out) (still under_way)] at rule
  have works : outOfOrderRule w1 c now = evaluate (releaseEntry (w1.up (fun s => emptySlot s c)) c) c false := by
    have stopped' : isStopped now = true := runner.stopped.2 stopped
    simp only [outOfOrderRule, stopped', if_true]
  rw [works] at rule
  obtain ⟨e1, here, same⟩ := accounted.entry
  have freed := freed_releaseEntry (w := w1.up (fun s => emptySlot s c)) (c := c) (e := e1) here accounted.cars accounted.totals
  have had := (freed.side.record c).trans accounted.had
  have kin := accounted.kin
  have mid := Midway.release (w := w1.up (fun s => emptySlot s c)) accounted.mid.emptySlot freed
  have ret := freed.side.ret
  have home : atHome s c cur1 = levelIn r (profile s c).recallFloor := by rw [kin]; exact runner.home
  obtain ⟨t, ends⟩ := runner_evaluated runner (r1 := cur1) grants stays enrols spaced (by rw [ret]; exact accounted.ret ▸ away) rule mid freed.entry had
    (differs_of_runner under) (by rw [kin]; exact runner.authority) (by rw [kin]; exact runner.holdOut) home
  have attempts : cur1.attempts = old.attempts := by rw [kin]; exact runner.attempts
  refine ⟨t, _, _, attempts ▸ ends, freed.entry, freed.kr.trans ?_⟩
  show w1.st.acct.kr - e1.regen = _
  rw [accounted.kr, same.2.2.2]

end

end Sys2Proof.Proofs.Cars
end
section
/-! PROOFS. OUT-OF-ORDER reported by a moving car (R46), and a DEFERRED car that has stopped (R45). -/

namespace Sys2Proof.Proofs.Cars

open Sys2Proof.Machine Sys2Proof.Safety Sys2Proof.Proofs.Upkeep Sys2Proof.Proofs.IndicationLines Sys2Proof.Proofs.Ends
  Sys2Proof.Proofs.Account Sys2Proof.Proofs.Capacity Sys2Proof.Proofs.Pause Sys2Proof.Proofs.Shedding

/-- A move to STOP phase at the entry that it moves (R97). -/
structure Stopped (w v : Work) (c : CarId) (e : Entry) (cause : StopCause) : Prop where
  side : AccountSide w.st v.st
  acct : v.st.acct = w.st.acct.change c (Entry.toStop cause)
  link : v.st.link = w.st.link
  sheds : v.nt.sheds = w.nt.sheds
  port : v.st.port = w.st.port
  fixed : v.st.fixed = w.st.fixed

theorem stopped_moveToStop {w : Work} {c : CarId} {e : Entry} (found : entryOf w.st c = some e) (movable : e.movable = true)
    (cause : StopCause) : Stopped w (moveToStop w c cause) c e cause := by
  rw [moveToStop_of_movable found movable]
  split <;> exact ⟨rfl, rfl, rfl, rfl, rfl, rfl⟩

section
variable {s : State} {k : Link} {c : CarId} {r : CarReply} {old now cur : CarRecord} {w : Work} {a : Authority} {e : Entry}
  (runner : Runner s k c r old e w cur now a)
include runner

/-- A moving car under OUT-OF-ORDER (R46): its entry in STOP phase, the car STOPPING, the slot empty. -/
theorem runner_outOfOrder_moving (paused : Paused s c) (found : entryOf s c = some e) (under : RunsUnder old e)
    (handed : handedOutcome e (carried r a) now = .stands) (phase : e.phase = .run ∨ e.phase = .holding)
    (out : authorityIn r = some .outOfOrder) (moves : ¬ StoppedIn r) :
    ∃ t new, exec (.carReply k r) s = .next t ∧ SettingsKept s t ∧ HostSideKept s t ∧ t.cap = s.cap
      ∧ entryOf t c = some { e with phase := .stop, stopCause := some .authority, window := none, deadline := none }
      ∧ t.acct = { s.acct with entries := t.acct.entries } ∧ (∀ d, d ≠ c → entryOf t d = entryOf s d)
      ∧ record t c = some new ∧ new.state = .stopping ∧ new.attempts = old.attempts ∧ (t.link.cars.at c).slot = none
      ∧ CarReported s t c old.state .stopping (causeOf old .authority) none := by
  have movable : e.movable = true ∧ underway (runState e) = true ∧ runState e ≠ .stopping := by
    rcases runState_cases under.1 with ⟨_, _, is⟩ | ⟨st, kind, is⟩ | ⟨_, is⟩ | ⟨st, kind, is⟩
    · rcases phase with other | other <;> rw [is] at other <;> cases other
    · exact ⟨(sheddable_iff e).2 (.inr ⟨kind, .inr is⟩), by rw [st]; rfl, by rw [st]; decide⟩
    · rcases phase with other | other <;> rw [is] at other <;> cases other
    · exact ⟨(sheddable_iff e).2 (.inl ⟨kind, is⟩), by rw [st]; rfl, by rw [st]; decide⟩
  obtain ⟨movable, under_way, not_stopping⟩ := movable
  obtain ⟨grants, stays, totals, _, _, spaced, away⟩ := paused
  have not_local : ¬ Local (authorityIn r) := by rw [out]; simp [Local]
  have rule := runRules_stands (st := runState e) (runner.found found) handed
  rw [afterAccount_outOfOrder (runner.not_local not_local) (runner.outOfOrder_iff.2 out) under_way] at rule
  obtain ⟨v, made⟩ : ∃ v, v = moveToStop (w.up (fun s => emptySlot s c)) c .authority := ⟨_, rfl⟩
  have stopped : Stopped (w.up (fun s => emptySlot s c)) v c e .authority :=
    made ▸ stopped_moveToStop (w := w.up (fun s => emptySlot s c)) (runner.found found) movable .authority
  have works : outOfOrderRule w c now = ⟨moveCar v.st c .stopping, v.nt⟩ := by
    have moving' : isStopped now = false := runner.isStopped_of_moving moves
    simp only [outOfOrderRule, moving', Bool.false_eq_true, if_false, made]
    rfl
  rw [works] at rule
  obtain ⟨t, z, runs, port, fixed, kept, made_t, tells⟩ := runner.ends _ rule
  dsimp only at port fixed kept made_t tells
  have acct : v.st.acct = s.acct.change c (Entry.toStop .authority) := stopped.acct.trans (congrArg (fun x : Machine.Account => x.change c (Entry.toStop .authority)) runner.acct)
  have marked : Marked s (moveCar v.st c .stopping) c (Entry.toStop .authority) := marked_of_change totals (marks_toStop _) acct
  have had : record (moveCar v.st c .stopping) c = some (cur.goTo .stopping) := by
    have before : record v.st c = some cur := (stopped.side.record c).trans runner.had
    rw [record_moveCar_same, before]
    rfl
  have ret : (moveCar v.st c .stopping).ret = s.ret := stopped.side.ret.trans runner.ret
  have state : (moveCar v.st c .stopping).plan.state = s.plan.state := (congrArg PlanCtl.state stopped.side.plan).trans runner.mid.state
  have slot : (carLink (moveCar v.st c .stopping) c).slot = none := by
    rw [carLink_moveCar_same, (leaveSilent_slot _ _).1]
    unfold carLink
    rw [stopped.link]
    exact congrArg CarLink.slot (carLink_emptySlot_same w.st c)
  have spared : v.nt.sheds = [] := stopped.sheds.trans runner.sheds
  have outcome : Outcome (moveCar v.st c .stopping) t c := made_t ▸ outcome_of_report (nt := v.nt) port fixed (.inl spared)
    (calm_of_spaced state kept (by rw [ret]) grants stays spaced)
  have differs : old.state ≠ (cur.goTo .stopping).state := by
    rcases under.2 with is | is <;> rw [is]
    · exact not_stopping
    · intro same; cases same
  have reported := tells.reported _ (causeOf old .authority) had differs (causeOf_eq old .authority)
  refine ⟨t, _, runs, tells.settings, tells.host, tells.cap, ?_, ?_, fun d other => ?_,
    (outcome.record_of_not_queued (by rw [ret]; exact away)).trans had, rfl, runner.attempts_cur, outcome.link.emptied slot, reported⟩
  · rw [outcome.entry c, marked.entry, found]
    rfl
  · rw [outcome.acct]
    exact marked.rest
  · rw [outcome.entry d]
    exact marked.others d other

end

/-! ## A DEFERRED car (R45) -/

/-- A DEFERRED car that has left its local authority and stopped is released and evaluated (R45). -/
theorem deferred_evaluated {s : State} {k : Link} {c : CarId} {r : CarReply} {old now : CarRecord} {h : Work} {a : Authority} {e : Entry}
    (answer : Answer s k c r old h now a) (paused : Paused s c) (found : entryOf s c = some e) (deferred : old.state = .deferred)
    (not_local : ¬ Local (authorityIn r)) (stopped : StoppedIn r) :
    ∃ t, exec (.carReply k r) s = .next t ∧ SettingsKept s t ∧ HostSideKept s t ∧ t.cap = s.cap
      ∧ entryOf t c = none ∧ t.acct.kd = s.acct.kd - e.draw ∧ t.acct.kr = s.acct.kr - e.regen
      ∧ Evaluated s t c (authorityIn r) old.holdOut old.attempts (levelIn r (profile s c).recallFloor)
      ∧ CarReported s t c .deferred
          (evaluationState s (authorityIn r) old.holdOut old.attempts (levelIn r (profile s c).recallFloor)) .authority none := by
  obtain ⟨grants, stays, totals, cars, enrols, spaced, away⟩ := paused
  have second : isFirstContact s c old = false := isFirstContact_of_runner grants (by rw [deferred]; decide)
  have released : statusRules h c old (isFirstContact s c old) (carried r a) = ⟨evaluate (releaseEntry h c) c false, some .authority⟩ := by
    have free : underLocal now = false := by rw [← Bool.not_eq_true, answer.underLocal_iff]; exact not_local
    have at_rest : isStopped now = true := answer.stopped.2 stopped
    simp only [statusRules, answer.found.had, second, deferred, Bool.false_eq_true, if_false, entryRules, if_true, deferredRules, free, at_rest,
      Bool.not_false, Bool.and_self]
  have sums : TotalsMatch h.st := by unfold TotalsMatch; rw [answer.found.acct]; exact totals
  have one : OneEntryPerCar h.st := by unfold OneEntryPerCar; rw [answer.found.acct]; exact cars
  have freed := freed_releaseEntry (w := h) ((answer.found.entry c).trans found) one sums
  have mid := answer.found.mid.release freed
  have had := (freed.side.record c).trans answer.found.had
  have ret : (releaseEntry h c).st.ret = s.ret := freed.side.ret.trans (answer.ret (by rw [deferred]; decide) (by rw [deferred]; decide))
  obtain ⟨unshed, calm⟩ := calm_evaluate mid grants stays spaced freed.entry had false
  obtain ⟨t, runs, ends⟩ := answer.ends _ released (.inr unshed) calm
  have judged := judgement mid grants (by rw [ret]; exact away) freed.entry had false ends.outcome
  have evaluated := judged.evaluated enrols
  have state := judged.state
  have acct := judged.acct (by rw [answer.authority]; exact not_local)
  rw [answer.home, answer.authority, answer.found.holdOut, answer.found.attempts] at evaluated state
  obtain ⟨new, here, is⟩ := Option.map_eq_some_iff.1 state
  have reported := ends.reported new .authority here (by
    rw [is, deferred]
    exact (evaluationState_ne_deferred not_local _ _ _).symm) rfl
  rw [is, deferred] at reported
  refine ⟨t, runs, ends.settings, ends.host, ends.cap, (entryOf_of_acct acct c).trans freed.entry, ?_, ?_, evaluated, reported⟩
  · rw [acct, freed.kd, answer.found.acct]
  · rw [acct, freed.kr, answer.found.acct]

end Sys2Proof.Proofs.Cars
end
section
/-! PROOFS. The first reply of a SILENT car whose start window has lapsed (R96), and every reply of a car that runs. -/

namespace Sys2Proof.Proofs.Cars

open Sys2Proof.Machine Sys2Proof.Safety Sys2Proof.Proofs.Upkeep Sys2Proof.Proofs.IndicationLines Sys2Proof.Proofs.Ends
  Sys2Proof.Proofs.Account Sys2Proof.Proofs.Capacity Sys2Proof.Proofs.Pause Sys2Proof.Proofs.Shedding

theorem moveToStop_of_unmovable {w : Work} {c : CarId} {e : Entry} (found : entryOf w.st c = some e) (fast : e.movable = false) (cause : StopCause) :
    moveToStop w c cause = w := by
  simp only [moveToStop, found, fast, Bool.false_eq_true, if_false]

/-- The stop of a stepped entry: in STOP phase by the authority, or shed before (R46, R100). -/
theorem stop_of_stepped {v u : Work} {c : CarId} {e : Entry} {run : Nat} (kind : e.kind = .returning) (totals : TotalsMatch v.st)
    (acct : u.st.acct = v.st.acct) (sheds : u.nt.sheds = v.nt.sheds)
    (entry : (c ∉ v.nt.sheds ∧ entryOf v.st c = some (runForm e run)) ∨ (c ∈ v.nt.sheds ∧ entryOf v.st c = some (shedForm (runForm e run)))) :
    AccountSide u.st (moveToStop u c .authority).st ∧ (moveToStop u c .authority).st.link = u.st.link
      ∧ (moveToStop u c .authority).nt.sheds = v.nt.sheds ∧ (moveToStop u c .authority).st.acct.kd = v.st.acct.kd
      ∧ (moveToStop u c .authority).st.acct.kr = v.st.acct.kr
      ∧ ((c ∉ v.nt.sheds ∧ entryOf (moveToStop u c .authority).st c
          = some { runForm e run with phase := .stop, stopCause := some .authority, deadline := none })
        ∨ (c ∈ v.nt.sheds ∧ entryOf (moveToStop u c .authority).st c = some (shedForm (runForm e run)))) := by
  have found : ∀ x, entryOf v.st c = some x → entryOf u.st c = some x := fun x here => (entryOf_of_acct acct c).trans here
  rcases entry with ⟨out, here⟩ | ⟨mem, here⟩
  · have movable : (runForm e run).movable = true := (sheddable_iff _).2 (.inr ⟨kind, .inr rfl⟩)
    have stopped := stopped_moveToStop (found _ here) movable .authority
    obtain ⟨kd, kr⟩ := change_totals totals c (marks_toStop .authority)
    refine ⟨stopped.side, stopped.link, stopped.sheds.trans sheds, ?_, ?_, .inl ⟨out, ?_⟩⟩
    · rw [stopped.acct, acct, kd]
    · rw [stopped.acct, acct, kr]
    · rw [entryOf_of_acct (s := u.st.setAcct (u.st.acct.change c (Entry.toStop .authority))) stopped.acct,
        entryOf_change (f := Entry.toStop .authority) (fun _ => rfl), if_pos rfl, found _ here]
      rfl
  · have fast : (shedForm (runForm e run)).movable = false := by
      rw [← Bool.not_eq_true, sheddable_iff]
      exact not_sheddable_shedForm _
    rw [moveToStop_of_unmovable (found _ here) fast]
    exact ⟨AccountSide.refl _, rfl, sheds, by rw [acct], by rw [acct], .inr ⟨mem, found _ here⟩⟩

section
variable {s : State} {k : Link} {c : CarId} {r : CarReply} {old now cur : CarRecord} {w : Work} {a : Authority} {e : Entry}
  (runner : Runner s k c r old e w cur now a)
include runner

/-- A moving car under OUT-OF-ORDER whose reply steps its entry first (R46, R95; log 13). -/
theorem runner_outOfOrder_stepped {run : Nat} (paused : Paused s c) (found : entryOf s c = some e) (start : e.kind = .returning ∧ e.phase = .start)
    (has : e.runDraw = some run) (handed : handedOutcome e (carried r a) now = .stepped) (silent : old.state = .silent)
    (out : authorityIn r = some .outOfOrder) (moves : ¬ StoppedIn r) :
    ∃ t new, exec (.carReply k r) s = .next t ∧ SettingsKept s t ∧ HostSideKept s t ∧ t.cap = s.cap
      ∧ t.acct.kd = s.acct.kd - e.draw + run ∧ t.acct.kr = s.acct.kr ∧ record t c = some new ∧ new.attempts = old.attempts
      ∧ new.state = .stopping ∧ CarReported s t c .silent .stopping .resumption none
      ∧ (entryOf t c = some { runForm e run with phase := .stop, stopCause := some .authority, deadline := none }
        ∨ (StepOverruns s e run ∧ entryOf t c = some (shedForm (runForm e run)))) := by
  obtain ⟨grants, stays, totals, cars, _, spaced, away⟩ := paused
  have starting : runState e = .starting := by unfold runState; rw [start.2]
  have not_local : ¬ Local (authorityIn r) := by rw [out]; simp [Local]
  have rule := runRules_stepped (st := runState e) (runner.found found) handed
  have stepped := stepped_stepEntry (runner.cars cars) (runner.totals totals) (runner.found found) has runner.sheds
  obtain ⟨v, made_v⟩ : ∃ v, v = stepEntry w c := ⟨_, rfl⟩
  rw [← made_v] at rule stepped
  have side := stepped.side
  have kd := stepped.kd
  have kr := stepped.kr
  have sums := stepped.totals
  have entry := stepped.entry
  have distinct := stepped.sheds
  have overruns : StepOverruns w.st e run ↔ StepOverruns s e run := by
    unfold StepOverruns
    rw [runner.acct, runner.mid.cap]
  have entry' : (c ∉ v.nt.sheds ∧ entryOf v.st c = some (runForm e run)) ∨ (c ∈ v.nt.sheds ∧ entryOf v.st c = some (shedForm (runForm e run))) :=
    entry.imp id fun ⟨mem, _, here⟩ => ⟨mem, here⟩
  obtain ⟨u, made_u⟩ : ∃ u, u = (v.up (fun s => moveCar s c .running)).up (fun s => emptySlot s c) := ⟨_, rfl⟩
  have stop := stop_of_stepped (v := v) (u := u) start.1 sums (by rw [made_u]; rfl) (by rw [made_u]; rfl) entry'
  obtain ⟨x, made_x⟩ : ∃ x, x = moveToStop u c .authority := ⟨_, rfl⟩
  rw [← made_x] at stop
  obtain ⟨side_x, _, sheds_x, kd_x, kr_x, entry_x⟩ := stop
  have works : outOfOrderRule (v.up (fun s => moveCar s c .running)) c now = ⟨moveCar x.st c .stopping, x.nt⟩ := by
    have moving' : isStopped now = false := runner.isStopped_of_moving moves
    simp only [outOfOrderRule, moving', Bool.false_eq_true, if_false, made_x, made_u]
    rfl
  rw [starting] at rule
  have ordered := afterAccount_outOfOrder (w := v.up (fun s => moveCar s c .running)) (c := c) (st := .running) (stepped := true)
    (runner.not_local not_local) (runner.outOfOrder_iff.2 out) rfl
  rw [works] at ordered
  obtain ⟨t, z, runs, port, fixed, kept, made_t, tells⟩ := runner.ends _ (starting ▸ rule.trans ordered)
  dsimp only at port fixed kept made_t tells
  have had : record (moveCar x.st c .stopping) c = some ((cur.goTo .running).goTo .stopping) := by
    have before : record x.st c = some (cur.goTo .running) := by
      rw [side_x.record, made_u]
      show record (moveCar v.st c .running) c = _
      rw [record_moveCar_same, (AccountSide.of_only side).record c, runner.had]
      rfl
    rw [record_moveCar_same, before]
    rfl
  have ret : (moveCar x.st c .stopping).ret = s.ret := by
    refine side_x.ret.trans ?_
    rw [made_u]
    show v.st.ret = s.ret
    rw [side]
    exact runner.ret
  have state : (moveCar x.st c .stopping).plan.state = s.plan.state := by
    refine (congrArg PlanCtl.state side_x.plan).trans ?_
    rw [made_u]
    show v.st.plan.state = s.plan.state
    rw [side]
    exact runner.mid.state
  have calm : Calm (moveCar x.st c .stopping) := calm_of_spaced state kept (by rw [ret]) grants stays spaced
  have reported := tells.reported _ .resumption had (by rw [silent]; intro same; cases same) (by rw [if_pos silent])
  rw [silent] at reported
  have attempts : ((cur.goTo .running).goTo .stopping).attempts = old.attempts := runner.attempts_cur
  have kd_y : (moveCar x.st c .stopping).acct.kd = s.acct.kd - e.draw + run := kd_x.trans (kd.trans (by rw [runner.acct]))
  have kr_y : (moveCar x.st c .stopping).acct.kr = s.acct.kr := kr_x.trans (kr.trans (by rw [runner.acct]))
  rcases entry_x with ⟨not_mem, here⟩ | ⟨mem, here⟩
  · have outcome : Outcome (moveCar x.st c .stopping) t c :=
      made_t ▸ outcome_of_apart (apart_of_not_mem port (by rw [sheds_x]; exact not_mem)) fixed calm
    refine ⟨t, _, runs, tells.settings, tells.host, tells.cap, by rw [outcome.acct]; exact kd_y, by rw [outcome.acct]; exact kr_y,
      (outcome.record_of_not_queued (by rw [ret]; exact away)).trans had, attempts, rfl, reported, .inl ((outcome.entry c).trans here)⟩
  · obtain ⟨y, first, fixed_y, second⟩ := apart_of_mem (nt := x.nt) port (by rw [sheds_x]; exact distinct) (by rw [sheds_x]; exact mem)
      here rfl had (by intro same; cases same)
    have side_y : CarSide (moveCar x.st c .stopping) (moveCar (place y c .stopNext) c .stopping) :=
      (first.side.trans (carSide_place _ _ _)).trans (carSide_moveCar _ _ _)
    have fixed_x : z.fixed = (moveCar (place y c .stopNext) c .stopping).fixed := by
      rw [← fixed_y]
      exact (closed_moveCar (closed_fixed _) (closed_place (closed_fixed _) rfl)).symm
    have outcome : Outcome (moveCar (place y c .stopNext) c .stopping) t c :=
      made_t ▸ outcome_of_apart second fixed_x (calm_of_carSide side_y calm)
    have had_y : record (moveCar (place y c .stopNext) c .stopping) c = some (((cur.goTo .running).goTo .stopping).goTo .stopping) := by
      rw [record_moveCar_same, record_place, first.record, had]
      rfl
    have acct : (moveCar (place y c .stopNext) c .stopping).acct = (moveCar x.st c .stopping).acct := by rw [side_y]
    have above : StepOverruns s e run := by
      rcases entry with ⟨other, _⟩ | ⟨_, above, _⟩
      · exact absurd mem other
      · exact overruns.1 above
    refine ⟨t, _, runs, tells.settings, tells.host, tells.cap, by rw [outcome.acct, acct]; exact kd_y, by rw [outcome.acct, acct]; exact kr_y,
      (outcome.record_of_not_queued (by rw [side_y, ret]; exact away)).trans had_y, attempts, rfl, reported, .inr ⟨above, ?_⟩⟩
    exact (outcome.entry c).trans ((entryOf_of_acct acct c).trans here)

end

end Sys2Proof.Proofs.Cars
end
section
/-! PROOFS. What a reply does to a car that runs under an entry or is DEFERRED (R42, R44 to R48, R95, R96, R148). -/

namespace Sys2Proof.Proofs.Cars

open Sys2Proof.Machine Sys2Proof.Safety Sys2Proof.Proofs.Upkeep Sys2Proof.Proofs.IndicationLines Sys2Proof.Proofs.Ends
  Sys2Proof.Proofs.Account Sys2Proof.Proofs.Capacity Sys2Proof.Proofs.Pause Sys2Proof.Proofs.Shedding

theorem causeOf_silent {old : CarRecord} (silent : old.state = .silent) (cause : CarCause) : causeOf old cause = .resumption := if_pos silent

theorem showsSpeed_of_stopped {r : CarReply} (a : Authority) (stopped : StoppedIn r) (quiet : r.bits.getLsbD 1 = false) :
    showsSpeed (carried r a) = false := by
  rw [showsSpeed_carried, quiet, stopped.2]
  rfl

theorem usedBy_classifyStop {e : Entry} {cur old : CarRecord} {r : CarReply} {used : Nat} (level : ∀ floor, levelAt cur floor = levelIn r floor)
    (one : Consumes e r → used = min 5 (old.attempts + 1)) (more : ¬ Consumes e r → used = old.attempts) :
    usedBy (classifyStop e cur).attempt old = used := by
  unfold usedBy
  split
  case isTrue is => exact (one ((classifyStop_attempt level).1 is)).symm
  case isFalse is => exact (more fun consumes => is ((classifyStop_attempt level).2 consumes)).symm

theorem queuedAnew_iff {s t : State} {c : CarId} {front : Bool} {P : Prop} (anew : QueuedAnew s t c front) (means : front = true ↔ P) :
    (record t c).map (·.state) = some .queued → ∃ x ∈ t.ret.queue, x.car = c ∧ (x.front = true ↔ P) ∧ x.cls = (profile s c).returnClass
      ∧ x.seq = s.ret.nextSeq ∧ x.passed = 0 ∧ (record t c).map (·.occupied) = some x.occupied := by
  intro queued
  obtain ⟨x, mem, car, is, rest⟩ := anew queued
  exact ⟨x, mem, car, by rw [is]; exact means, rest⟩

/-- A reply under a lapsed start window from a car that has neither moved nor arrived ends the run with an attempt consumed (R96). -/
theorem runner_lapses {s : State} {k : Link} {c : CarId} {r : CarReply} {old now cur : CarRecord} {w : Work} {a : Authority} {e : Entry}
    (runner : Runner s k c r old e w cur now a) (paused : Paused s c) (found : entryOf s c = some e) (under : RunsUnder old e)
    (expired : handedOutcome e (carried r a) now = .expired) :
    ∃ t u, EvaluatedBy s u k c r old (min 5 (old.attempts + 1)) .stop s.plan.cancelled[c] t ∧ entryOf u c = none
      ∧ u.acct.kd = s.acct.kd - e.draw ∧ u.acct.kr = s.acct.kr - e.regen :=
  runner_ends runner (claim := false) true paused found under (runRules_expired (runner.found found) expired)

/-- Settles O23: the reply is met by the car that its entry gives (`Runner`), or by a DEFERRED one, and each clause is a rule's own lemma,
reached through the account's handling of the entry. -/
theorem runReplies : Obligations.RunReplies := by
  unfold Obligations.RunReplies
  intro s k c r old e replies paused found
  have grants := paused.1
  have meets : RunsUnder old e → ∃ w cur now a, Runner s k c r old e w cur now a := exists_runner_of_reply replies grants found
  refine ⟨?steps, ?stops, ?deferred, ?out_stopped, ?out_moving, ?evaluated, ?lapsed⟩
  case steps =>
    intro win run under phase window fresh has sequencer moves speed
    obtain ⟨w, cur, now, a, runner⟩ := meets under
    have kind : e.kind = .returning := by
      rcases under.1 with ⟨kind, _⟩ | ⟨_, other | other⟩ | ⟨_, other⟩
      · exact kind
      all_goals rw [phase] at other; cases other
    have shows : showsSpeed (carried r a) = true := by
      rw [showsSpeed_carried]
      rcases speed with is | is <;> simp [is]
    have state : old.state ≠ .running := by
      rcases under.2 with is | is <;> rw [is]
      · unfold runState
        rw [phase]
        decide
      · decide
    exact runner_steps runner paused found ⟨kind, phase⟩ has (handed_of_speed kind phase window fresh shows) sequencer moves state
  case stops =>
    intro used under stopped which one more
    obtain ⟨w, cur, now, a, runner⟩ := meets under
    have handed : handedOutcome e (carried r a) now = .stands := by
      rcases which with ⟨_, phase | phase | ⟨_, fresh, _, quiet⟩⟩ | ⟨_, phase⟩
      · exact handed_of_not_starting _ _ (by rw [phase]; decide)
      · exact handed_of_not_starting _ _ (by rw [phase]; decide)
      · exact handed_of_open fresh (showsSpeed_of_stopped a stopped quiet)
      · exact handed_of_not_starting _ _ (by rw [phase]; decide)
    obtain ⟨t, u, ended, gone, kd, kr⟩ := runner_stops runner paused found under stopped handed
      (which.imp_left fun ⟨is, phase⟩ => ⟨is, phase.imp_right (Or.imp_right fun ⟨start, _, arrives, _⟩ => ⟨start, arrives⟩)⟩)
    have not_local : ¬ Local (authorityIn r) := by
      rcases which with ⟨is, _⟩ | ⟨is, _⟩ <;> rw [is] <;> simp [Local]
    rw [usedBy_classifyStop runner.level_cur one more] at ended
    have acct := ended.acct not_local
    refine ⟨t, ended.runs, ended.settings, ended.host, ended.cap, (entryOf_of_acct acct c).trans gone, by rw [acct, kd], by rw [acct, kr],
      ended.evaluated, ended.reported, queuedAnew_iff ended.queued ?_, ended.cancelled⟩
    rw [Bool.or_eq_true, classifyStop_front runner.level_cur]
  case deferred =>
    intro run was lives isLocal
    obtain ⟨w, cur, now, a, runner⟩ := meets ⟨run, was⟩
    exact runner_deferred runner paused found ⟨run, was⟩ (handed_lives runner run lives) isLocal
  case out_stopped =>
    intro under lives phase out stopped
    obtain ⟨w, cur, now, a, runner⟩ := meets under
    obtain ⟨t, u, _, ended, gone, kr⟩ := runner_outOfOrder_stopped runner paused found under
      (handed_lives runner under.1 (lives.imp_right .inr)) phase out stopped
    have acct := ended.acct (by rw [out]; simp [Local])
    have held : evaluationState s (authorityIn r) old.holdOut old.attempts (levelIn r (profile s c).recallFloor) = .held := by
      rw [out]
      simp [evaluationState]
    refine ⟨t, ended.runs, ended.settings, ended.host, ended.cap, (entryOf_of_acct acct c).trans gone, by rw [acct, kr], out ▸ ended.evaluated, ?_⟩
    rw [← held]
    exact ended.reported
  case out_moving =>
    intro under fresh phase out moves
    obtain ⟨w, cur, now, a, runner⟩ := meets under
    have handed := handed_of_not_starting (carried r a) now (e := e) (by rcases phase with is | is <;> rw [is] <;> decide)
    exact runner_outOfOrder_moving runner paused found under handed phase out moves
  case evaluated =>
    intro deferred _ not_local stopped
    obtain ⟨h, now, a, answer⟩ := exists_answer replies
    exact deferred_evaluated answer paused found deferred not_local stopped
  case lapsed =>
    intro win run f kind phase window lapsed has target silent
    have under : RunsUnder old e := ⟨.inl ⟨kind, .inl phase⟩, .inr silent⟩
    obtain ⟨w, cur, now, a, runner⟩ := meets under
    have handed := handed_of_lapsed (x := carried r a) (r := now) kind phase window lapsed
    refine ⟨fun moves not_local => ?moving, fun used stopped arrived attempted => ?stopped⟩
    case moving =>
      rw [if_pos (runner.isMoving_iff.2 moves)] at handed
      obtain ⟨h, _, a', answer⟩ := exists_answer replies
      have known : authorityIn r = some .sequencer ∨ authorityIn r = some .outOfOrder := by
        have code := answer.code
        cases a' with
        | sequencer => exact .inl code
        | outOfOrder => exact .inr code
        | localFire => exact absurd (.inl code) not_local
        | localInspection => exact absurd (.inr (.inl code)) not_local
        | localIndependent => exact absurd (.inr (.inr code)) not_local
      rcases known with sequencer | out
      · obtain ⟨t, new, runs, settings, host, cap, kd, kr, either, had, attempts, reported⟩ := runner_steps runner paused found ⟨kind, phase⟩
          has handed sequencer moves (by rw [silent]; decide)
        rw [silent, causeOf_silent silent] at reported
        exact ⟨t, new, runs, settings, host, cap, kd, kr, had, attempts, fun _ => ⟨either, reported⟩,
          fun out => nomatch sequencer.symm.trans out⟩
      · obtain ⟨t, new, runs, settings, host, cap, kd, kr, had, attempts, state, reported, either⟩ := runner_outOfOrder_stepped runner paused
          found ⟨kind, phase⟩ has handed silent out moves
        exact ⟨t, new, runs, settings, host, cap, kd, kr, had, attempts, (fun sequencer => nomatch out.symm.trans sequencer),
          fun _ => ⟨state, reported, either⟩⟩
    case stopped =>
      have ended : ∃ t u front, EvaluatedBy s u k c r old used .stop front t ∧ entryOf u c = none
          ∧ u.acct.kd = s.acct.kd - e.draw ∧ u.acct.kr = s.acct.kr - e.regen := by
        rw [runner.isMoving_of_stopped stopped] at handed
        by_cases arrives : Arrives e r
        · obtain ⟨sequencer, same⟩ := arrived arrives
          rw [(atTarget_iff runner.level kind).2 arrives] at handed
          obtain ⟨t, u, rest⟩ := runner_stops runner paused found under stopped handed (.inl ⟨sequencer, .inr (.inr ⟨phase, arrives⟩)⟩)
          rw [usedBy_classifyStop runner.level_cur (fun consumes => absurd arrives consumes.1) fun _ => same] at rest
          exact ⟨t, u, _, rest⟩
        · rw [Bool.eq_false_iff.2 fun is => arrives ((atTarget_iff runner.level kind).1 is)] at handed
          obtain ⟨t, u, rest⟩ := runner_lapses runner paused found under handed
          rw [← attempted arrives] at rest
          exact ⟨t, u, _, rest⟩
      obtain ⟨t, u, _, ended, gone, kd, kr⟩ := ended
      have reported := ended.reported
      rw [silent, causeOf_silent silent] at reported
      refine ⟨t, ended.runs, ended.settings, ended.host, ended.cap, fun not_local => ?_, ended.evaluated, reported⟩
      have acct := ended.acct not_local
      exact ⟨(entryOf_of_acct acct c).trans gone, by rw [acct, kd], by rw [acct, kr]⟩

end Sys2Proof.Proofs.Cars
end
section
/-! PROOFS. A reply that carries a verdict (R57, R158, R159), of a car under SEQUENCER authority as before: the status rules make
nothing of it, and the verdict is judged by the state in which the reply found the car. -/

namespace Sys2Proof.Proofs.Cars

open Sys2Proof.Machine Sys2Proof.Safety Sys2Proof.Proofs.Upkeep Sys2Proof.Proofs.IndicationLines Sys2Proof.Proofs.Ends
  Sys2Proof.Proofs.Account Sys2Proof.Proofs.Capacity Sys2Proof.Proofs.Pause Sys2Proof.Proofs.Shedding

/-! ## The reply as the verdict finds it -/

/-- What a reply with a verdict leaves whatever the verdict did, and the report that it brings. -/
structure JudgedEnd (s : State) (c : CarId) (old : CarRecord) (j : Judged) (decline : Option Decline) (t : State) : Prop where
  settings : SettingsKept s t
  host : HostSideKept s t
  cap : t.cap = s.cap
  reported : ∀ new, record j.work.st c = some new → old.state ≠ new.state ∨ decline.isSome = true ∨ j.always = true →
    CarReported s t c old.state new.state (replyCause old new j.cause none decline.isSome) decline

/-- A reply to a command of a car in none of the return lists, as the verdict finds it, and how it ends by what the verdict makes of it. -/
structure Hearing (s : State) (k : Link) (c : CarId) (cmd : Command) (r : CarReply) (old : CarRecord) (h : Work) (now : CarRecord) : Prop where
  found : HeardAt s h c now old
  ret : h.st.ret = s.ret
  notes : h.nt = Notes.none
  link : carLink h.st c = endedLink s (carLink s c)
  authority : now.authority = some .sequencer
  parkOut : now.parkOut = old.parkOut
  stopped : isStopped now = true ↔ StoppedIn r
  moving : isMoving now = !isStopped now
  level : ∀ floor, levelAt now floor = levelIn r floor
  home : atHome s c now = levelIn r (profile s c).recallFloor
  ends : statusRules h c old (isFirstContact s c old) (carried r .sequencer) = unruled h →
    ∀ j, judge h c (.command cmd) r.verdict = j → j.work.st.fixed = s.fixed → QueuedFirst s [] j.work.st →
      ∃ t z, exec (.carReply k r) s = .next t ∧ PortOnly j.work.st z ∧ z.fixed = j.work.st.fixed
        ∧ t = completeWith (handSheds ⟨z, j.work.nt⟩) (declinedStop c (.command cmd) r.verdict)
        ∧ JudgedEnd s c old j (declineOf (.command cmd) r.verdict) t

theorem judgedEnd {s : State} {c : CarId} {old : CarRecord} {j : Judged} {decline : Option Decline} {renew : Option CarId}
    (fixed : j.work.st.fixed = s.fixed) (earlier : QueuedFirst s [] j.work.st) :
    JudgedEnd s c old j decline (completeWith (handSheds ⟨reportReply j.work.st c old none j decline, j.work.nt⟩) renew) := by
  have kept : (completeWith (handSheds ⟨reportReply j.work.st c old none j decline, j.work.nt⟩) renew).fixed = s.fixed :=
    (completeWith_fixed _ _).trans (closed_handSheds (w := ⟨_, _⟩) (closed_fixed _) ((fixed_reportReply _ _ _ _ _ _).trans fixed))
  obtain ⟨settings, host, cap⟩ := kept_of_fixed_eq kept
  exact ⟨settings, host, cap, fun new had reports => carReported_of_report (carReported_reportReply earlier had (reports.imp_right .inr))⟩

theorem exists_hearing {s : State} {k : Link} {c : CarId} {cmd : Command} {r : CarReply} {old : CarRecord}
    (replies : Replies s k ⟨c, .command cmd⟩ r old) (sequencer : authorityIn r = some .sequencer) (not_queued : old.state ≠ .queued)
    (not_staged : old.state ≠ .staged) : ∃ h now, Hearing s k c cmd r old h now := by
  have had : record s c = some old := replies.2.2.2
  refine ⟨_, _, heardAt (k := k) (carried r .sequencer) had, ret_heardWork_of_other k c _ not_queued not_staged, ?_, carLink_heardWork s k c _ old, rfl, rfl,
    isStopped_heard_iff s c r _ old, isMoving_heard s c r _ old, levelAt_heard s c r _ old, atHome_heard s c r _ old,
    fun rules j judges fixed earlier => ?_⟩
  · rw [heardWork_of_other k c _ not_queued not_staged]
    rfl
  · have runs := exec_of_reply replies sequencer (j := j) rules judges
    exact ⟨_, _, runs, portOnly_reportReply _ _ _ _ _ _, fixed_reportReply _ _ _ _ _ _, rfl, judgedEnd fixed earlier⟩

/-! ## The status rules make nothing of the reply -/

section
variable {s : State} {k : Link} {c : CarId} {cmd : Command} {r : CarReply} {old now : CarRecord} {h : Work}
  (hearing : Hearing s k c cmd r old h now)
include hearing

theorem Hearing.isMoving_of_stopped (stopped : StoppedIn r) : isMoving now = false := by
  rw [hearing.moving, hearing.stopped.2 stopped]
  rfl

theorem Hearing.isStopped_of_moving (moves : ¬ StoppedIn r) : isStopped now = false := by
  rw [← Bool.not_eq_true, hearing.stopped]
  exact moves

theorem Hearing.underLocal : underLocal now = false := by
  rw [← Bool.not_eq_true, underLocal_iff, hearing.authority]
  simp [Local]

theorem Hearing.outOfOrder : outOfOrder now = false := by simp [Machine.outOfOrder, hearing.authority]

theorem Hearing.unruled_idle (idle : old.state = .idle) (same : old.authority = some .sequencer) (second : isFirstContact s c old = false)
    (stands : adopts s.plan.state = false ∨ StoppedIn r) :
    statusRules h c old (isFirstContact s c old) (carried r .sequencer) = unruled h := by
  have unchanged : (old.authority != now.authority) = false := by rw [same, hearing.authority]; rfl
  have quiet : adopts h.st.plan.state = false ∨ isMoving now = false := by
    rw [hearing.found.mid.state]
    exact stands.imp_right hearing.isMoving_of_stopped
  have unruled : entrylessRules h c now false = unruled h := by
    unfold entrylessRules
    rcases quiet with is | is <;> simp [is]
  simp only [statusRules, hearing.found.had, second, idle, unchanged, unruled, Bool.false_eq_true, if_false]

/-- Where the account lets the entry stand, and motion ends no run, no rule acts. -/
theorem Hearing.unruled_run {e : Entry} {st : CarState} (state : old.state = st) (run : st = .starting ∨ st = .serving ∨ st = .stopping)
    (grants : Granting s) (found : entryOf s c = some e) (handed : handedOutcome e (carried r .sequencer) now = .stands)
    (motion : motionRules h c st now = unruled h) :
    statusRules h c old (isFirstContact s c old) (carried r .sequencer) = unruled h := by
  have second : isFirstContact s c old = false :=
    isFirstContact_of_runner grants (by rw [state]; rcases run with rfl | rfl | rfl <;> decide)
  have found_h : entryOf h.st c = some e := (hearing.found.entry c).trans found
  have rules : runRules h c st (carried r .sequencer) now = unruled h := by
    rw [runRules_stands found_h handed, afterAccount_motion hearing.underLocal (by rw [hearing.outOfOrder]; rfl), motion]
    rfl
  have entry : entryRules h c st (carried r .sequencer) now = unruled h := by
    rw [← rules, entryRules, if_neg (by rcases run with rfl | rfl | rfl <;> decide)]
  rcases run with rfl | rfl | rfl <;>
    simp only [statusRules, hearing.found.had, second, state, entry, Bool.false_eq_true, if_false]

end

theorem motionRules_starting {w : Work} {c : CarId} {r : CarRecord} {e : Entry} (found : entryOf w.st c = some e)
    (away : (e.target.map (levelAt r)).getD false = false) : motionRules w c .starting r = unruled w := by
  simp [motionRules, found, away]

theorem motionRules_serving (w : Work) (c : CarId) (r : CarRecord) : motionRules w c .serving r = unruled w := by
  unfold motionRules
  split <;> simp

end Sys2Proof.Proofs.Cars
end
section
/-! PROOFS. The verdicts on PARK and RUN-TO (R41, R146), which may have the car evaluated. -/

namespace Sys2Proof.Proofs.Cars

open Sys2Proof.Machine Sys2Proof.Safety Sys2Proof.Proofs.Upkeep Sys2Proof.Proofs.IndicationLines Sys2Proof.Proofs.Ends
  Sys2Proof.Proofs.Account Sys2Proof.Proofs.Capacity Sys2Proof.Proofs.Pause Sys2Proof.Proofs.Shedding

theorem declinedStop_of_ne {cmd : Command} (kind : cmd.kind ≠ .stopNext) (c : CarId) (v : Verdict) :
    declinedStop c (.command cmd) v = none := by
  unfold declinedStop declineOf
  cases v <;> simp [kind]

theorem replyCause_of_verdict (old new : CarRecord) (cause : CarCause) (rule : Option CarCause) (declined : Bool) :
    replyCause old new (some cause) rule declined = cause := rfl

theorem not_local_sequencer : ¬ Local (some .sequencer) := by simp [Local]

section
variable {s : State} {k : Link} {c : CarId} {cmd : Command} {r : CarReply} {old now : CarRecord} {h : Work}
  (hearing : Hearing s k c cmd r old h now)
include hearing

/-- A decline that has the car evaluated. -/
theorem Hearing.evaluates {u : Work} {r1 : CarRecord} {j : Judged} {cause : CarCause} {reason : DeclineReason} (paused : Paused s c)
    (rules : statusRules h c old (isFirstContact s c old) (carried r .sequencer) = unruled h) (kind : cmd.kind ≠ .stopNext)
    (declined : r.verdict = .declined reason) (judges : judge h c (.command cmd) r.verdict = j) (work : j.work = evaluate u c false)
    (gives : j.cause = some cause) (mid : Midway s u.st c) (ret : u.st.ret = s.ret) (gone : entryOf u.st c = none)
    (had : record u.st c = some r1) (authority : r1.authority = some .sequencer) (holdOut : r1.holdOut = old.holdOut)
    (home : atHome s c r1 = levelIn r (profile s c).recallFloor) :
    ∃ t, exec (.carReply k r) s = .next t ∧ SettingsKept s t ∧ HostSideKept s t ∧ t.cap = s.cap ∧ t.acct = u.st.acct
      ∧ Evaluated s t c (some .sequencer) old.holdOut r1.attempts (levelIn r (profile s c).recallFloor)
      ∧ CarReported s t c old.state (evaluationState s (some .sequencer) old.holdOut r1.attempts (levelIn r (profile s c).recallFloor))
          cause (some ⟨cmd.kind, reason⟩) := by
  obtain ⟨grants, stays, _, _, enrols, spaced, away⟩ := paused
  obtain ⟨unshed, calm⟩ := calm_evaluate mid grants stays spaced gone had false
  have fixed : j.work.st.fixed = s.fixed := by
    rw [work]
    exact closed_evaluate (closed_fixed _) mid.fixed
  have earlier : QueuedFirst s [] j.work.st := by
    rw [work]
    exact closed_evaluate (closed_queuedFirst s []) mid.reports
  obtain ⟨t, z, runs, port, same, made, ends⟩ := hearing.ends rules j judges fixed earlier
  rw [declinedStop_of_ne kind] at made
  rw [work] at port same made
  have outcome : Outcome (evaluate u c false).st t c :=
    made ▸ outcome_of_report (nt := (evaluate u c false).nt) port same (.inr unshed) calm
  have judged := judgement mid grants (by rw [ret]; exact away) gone had false outcome
  have evaluated := judged.evaluated enrols
  have state := judged.state
  rw [home, authority, holdOut] at evaluated state
  obtain ⟨new, here, is⟩ := Option.map_eq_some_iff.1 state
  have decline : declineOf (.command cmd) r.verdict = some ⟨cmd.kind, reason⟩ := by rw [declined]; rfl
  have reported := ends.reported new (by rw [work]; exact here) (.inr (.inl (by rw [decline]; rfl)))
  rw [gives, replyCause_of_verdict, decline, is] at reported
  exact ⟨t, runs, ends.settings, ends.host, ends.cap, judged.acct (by rw [authority]; exact not_local_sequencer), evaluated, reported⟩

/-! ## PARK -/

theorem Hearing.awaitsPark (idle : old.state = .idle) (parkOut : old.parkOut = true) : awaitsPark h.st c = true := by
  simp [Machine.awaitsPark, hearing.found.had, hearing.found.state, idle, hearing.parkOut, parkOut]

theorem Hearing.unruled_park (paused : Paused s c) (idle : old.state = .idle) (same : old.authority = some .sequencer) (stopped : StoppedIn r) :
    statusRules h c old (isFirstContact s c old) (carried r .sequencer) = unruled h :=
  hearing.unruled_idle idle same (isFirstContact_of_runner paused.1 (by rw [idle]; decide)) (.inr stopped)

theorem parked_accepted (paused : Paused s c) (kind : cmd.kind = .park) (idle : old.state = .idle) (parkOut : old.parkOut = true)
    (same : old.authority = some .sequencer) (stopped : StoppedIn r) (accepted : r.verdict = .accepted) :
    ∃ t new, exec (.carReply k r) s = .next t ∧ SettingsKept s t ∧ HostSideKept s t ∧ t.cap = s.cap ∧ t.acct = s.acct
      ∧ record t c = some new ∧ new.state = .parked ∧ new.parkOut = false ∧ new.attempts = old.attempts
      ∧ CarReported s t c .idle .parked .park none := by
  have rules := hearing.unruled_park paused idle same stopped
  obtain ⟨grants, stays, _, _, _, spaced, away⟩ := paused
  have judges : judge h c (.command cmd) r.verdict = ⟨parkAccepted h c, some .park, false⟩ := by
    simp only [judge, kind, accepted, judgePark, hearing.awaitsPark idle parkOut, if_true]
  have mid : Midway s (parkAccepted h c).st c := (hearing.found.mid.alterCar fun x => { x with parkOut := false }).moveCar .parked
  have had : record (parkAccepted h c).st c = some (({ now with parkOut := false } : CarRecord).goTo .parked) := by
    show record (moveCar (clearPark h.st c) c .parked) c = _
    rw [record_moveCar_same, record_clearPark hearing.found.had]
    rfl
  have ret : (parkAccepted h c).st.ret = s.ret := hearing.ret
  obtain ⟨t, z, runs, port, fixed, made, ends⟩ := hearing.ends rules _ judges mid.fixed mid.reports
  rw [declinedStop_of_ne (by rw [kind]; decide)] at made
  have calm : Calm (parkAccepted h c).st := calm_of_spaced mid.state mid.fixed (by rw [ret]) grants stays spaced
  have outcome : Outcome (parkAccepted h c).st t c := made ▸ outcome_of_report port fixed (.inl hearing.found.sheds) calm
  have reported := ends.reported _ had (.inl (by rw [idle]; intro eq; cases eq))
  rw [replyCause_of_verdict, idle, accepted] at reported
  exact ⟨t, _, runs, ends.settings, ends.host, ends.cap, outcome.acct.trans hearing.found.acct,
    (outcome.record_of_not_queued (by rw [ret]; exact away)).trans had, rfl, rfl, hearing.found.attempts, reported⟩

theorem parked_declined {reason : DeclineReason} (paused : Paused s c) (kind : cmd.kind = .park) (idle : old.state = .idle)
    (parkOut : old.parkOut = true) (none : entryOf s c = none) (same : old.authority = some .sequencer) (stopped : StoppedIn r)
    (declined : r.verdict = .declined reason) {used : Nat} (uses : used = min 5 (old.attempts + 1)) {st : CarState}
    (is : st = evaluationState s (some .sequencer) old.holdOut used (levelIn r (profile s c).recallFloor)) :
    ∃ t, exec (.carReply k r) s = .next t ∧ SettingsKept s t ∧ HostSideKept s t ∧ t.cap = s.cap ∧ t.acct = s.acct
      ∧ Evaluated s t c (some .sequencer) old.holdOut used (levelIn r (profile s c).recallFloor)
      ∧ CarReported s t c .idle st (if st = .idle then .declined else .evaluation) (some ⟨.park, reason⟩) := by
  have rules := hearing.unruled_park paused idle same stopped
  obtain ⟨u, made_u⟩ : ∃ u : Work, u = h.up (fun s => consumeAttempt (clearPark s c) c) := ⟨_, rfl⟩
  obtain ⟨v, made_v⟩ : ∃ v, v = evaluate u c false := ⟨_, rfl⟩
  have judges : judge h c (.command cmd) r.verdict
      = ⟨evaluate u c false, some (if stateOf v.st c = stateOf h.st c then .declined else .evaluation), false⟩ := by
    rw [made_v, made_u]
    simp only [judge, kind, declined, judgePark, hearing.awaitsPark idle parkOut, if_true]
    rfl
  have mid : Midway s u.st c := by
    rw [made_u]
    exact (hearing.found.mid.alterCar fun x => { x with parkOut := false }).consumeAttempt
  have had : record u.st c = some { now with parkOut := false, attempts := min 5 (now.attempts + 1) } := by
    rw [made_u]
    exact record_consumeAttempt (record_clearPark hearing.found.had)
  have acct : u.st.acct = s.acct := by rw [made_u]; exact hearing.found.acct
  have gone : entryOf u.st c = Option.none := (entryOf_of_acct acct c).trans none
  have attempts : used = min 5 (now.attempts + 1) := by rw [uses, hearing.found.attempts]
  have evaled := (evaled_evaluateFull had gone (mid.granting paused.1) false).record
  have state := evaluatedState_of_setup mid.setup c { now with parkOut := false, attempts := min 5 (now.attempts + 1) }
  have after : stateOf v.st c = some st := by
    obtain ⟨new, here, _, becomes, _⟩ := evaled
    rw [made_v, evaluate_of_granting (mid.granting paused.1), stateOf, here]
    show some new.state = _
    rw [becomes, state, is, attempts]
    show some (evaluationState s now.authority now.holdOut _ (atHome s c now)) = _
    rw [hearing.authority, hearing.found.holdOut, hearing.home]
  have before : stateOf h.st c = some .idle := by
    rw [stateOf, hearing.found.had]
    exact congrArg some (hearing.found.state.trans idle)
  obtain ⟨t, runs, settings, host, cap, acct_t, evaluated, reported⟩ := hearing.evaluates paused rules (by rw [kind]; decide) declined judges
    rfl rfl mid (by rw [made_u]; exact hearing.ret) gone had hearing.authority hearing.found.holdOut hearing.home
  rw [after, before] at reported
  simp only [← attempts, ← is, kind, idle, Option.some.injEq] at reported evaluated
  exact ⟨t, runs, settings, host, cap, acct_t.trans acct, evaluated, reported⟩

end

end Sys2Proof.Proofs.Cars
end
section
/-! PROOFS. The end of a designation (R155, R159, R160): the service record goes, the marker stands, and the car is released to PARKED or
stopped. -/

namespace Sys2Proof.Proofs.Cars

open Sys2Proof.Machine Sys2Proof.Safety Sys2Proof.Proofs.Upkeep Sys2Proof.Proofs.IndicationLines Sys2Proof.Proofs.Ends
  Sys2Proof.Proofs.Account Sys2Proof.Proofs.Capacity Sys2Proof.Proofs.Pause Sys2Proof.Proofs.Shedding Sys2Proof.Proofs.Markers

/-! ## Service records only leave in an event of the account -/

/-- The car has no service record. -/
def Recordless (c : CarId) (s : State) : Prop := s.svc.records.at c = none

theorem recordless_endDesignation_same (s : State) (c : CarId) : Recordless c (endDesignation s c) := Table.put_at_same _ _ _

theorem Recordless.endDesignation {s : State} {c : CarId} (h : Recordless c s) (d : CarId) : Recordless c (endDesignation s d) := by
  show (s.svc.records.put d none).at c = none
  rw [Table.put_at]
  split
  · rfl
  · exact h

theorem Recordless.moveToStop {w : Work} {c : CarId} (h : Recordless c w.st) (d : CarId) (cause : StopCause) :
    Recordless c (moveToStop w d cause).st := by
  rcases moveToStop_cases w d cause with stands | ⟨_, _, _, ⟨_, moved⟩ | ⟨_, moved⟩⟩
  · rw [stands]; exact h
  · rw [moved]; exact h
  · rw [moved]; exact Recordless.endDesignation (s := w.st) h d

theorem Recordless.shedAll {w : Work} {c : CarId} (h : Recordless c w.st) (chosen : List Entry) : Recordless c (shedAll w chosen).st :=
  closed_foldl (Q := fun v : Work => Recordless c v.st) (fun _ _ now => Recordless.moveToStop now _ _) h

theorem Recordless.settleAccount {w : Work} {c : CarId} (h : Recordless c w.st) (eased : Bool) : Recordless c (settleAccount w eased).st := by
  have drawn : Recordless c (shedDraw (flaggedWork w)).1.st := by
    unfold shedDraw
    split
    · exact Recordless.shedAll (w := flaggedWork w) h _
    · exact h
  have shed : Recordless c (notedState w) := by
    show Recordless c (shedRegen (shedDraw (flaggedWork w)).1).1.st
    unfold shedRegen
    split
    · exact drawn.shedAll _
    · exact drawn
  have alerted : (alertedState w).svc = (notedState w).svc := by
    have reads : PortOnly (notedState w) (alertedState w) :=
      closed_foldl (Q := PortOnly (notedState w)) (fun _ _ same => same.trans (portOnly_queueReport _ _)) (PortOnly.refl _)
    rw [reads]
    rfl
  have offered : Recordless c (offeredState w) := by
    have same : (offeredState w).svc = (alertedState w).svc := by
      unfold offeredState
      split
      · exact offerTrigger_svc _ _
      · rfl
    unfold Recordless
    rw [same, alerted]
    exact shed
  rw [settleAccount_eq]
  split
  · exact offered
  · exact offered

/-! ## The release and the stop of a designated car -/

theorem designates_of {e : Entry} (kind : e.kind = .service) (phase : e.phase = .holding) : e.designates = true := by
  simp [Entry.designates, kind, phase]

theorem svc_releaseEntry {w : Work} {c : CarId} {e : Entry} (found : entryOf w.st c = some e) (designates : e.designates = true) :
    Recordless c (releaseEntry w c).st ∧ (NotRisen w.st → (releaseEntry w c).st.svc.setAside = w.st.svc.setAside) := by
  obtain ⟨nt, released, _⟩ := releaseEntry_eq found
  have svc : (releasedState w.st c e).svc = { w.st.svc with records := w.st.svc.records.put c none } := by
    have removed : (removeCommand w.st c (ownCommands e)).svc = w.st.svc := rfl
    show (undesignated (removeCommand w.st c (ownCommands e)) c e).svc = _
    rw [undesignated, if_pos designates]
    show ({ (removeCommand w.st c (ownCommands e)).svc with records := _ } : Selector) = _
    rw [removed]
  have cap : (releasedState w.st c e).cap = w.st.cap := by
    show (undesignated (removeCommand w.st c (ownCommands e)) c e).cap = _
    rw [undesignated, if_pos designates]
    rfl
  have gone : Recordless c (releasedState w.st c e) := by
    unfold Recordless
    rw [svc]
    exact Table.put_at_same _ _ _
  rw [released]
  refine ⟨Recordless.settleAccount (w := ⟨_, nt⟩) gone true, fun still => ?_⟩
  obtain ⟨aside, _⟩ := reads_settleAccount_eased ⟨releasedState w.st c e, nt⟩
  have quiet : (decide ((releasedState w.st c e).svc.lastC < (releasedState w.st c e).cap.c)
      || decide ((releasedState w.st c e).svc.lastS < (releasedState w.st c e).cap.sink)) = false := by
    rw [svc, cap]
    simpa [NotRisen] using still
  refine aside.trans ?_
  show (if (decide ((releasedState w.st c e).svc.lastC < (releasedState w.st c e).cap.c)
      || decide ((releasedState w.st c e).svc.lastS < (releasedState w.st c e).cap.sink)) = true then _ else _) = _
  rw [quiet, if_neg (by decide), svc]

theorem svc_moveToStop {w : Work} {c : CarId} {e : Entry} (found : entryOf w.st c = some e) (designates : e.designates = true)
    (cause : StopCause) : Recordless c (moveToStop w c cause).st ∧ (moveToStop w c cause).st.svc.setAside = w.st.svc.setAside := by
  have movable : e.movable = true := by simp [Entry.movable, designates]
  rw [moveToStop_of_movable found movable, if_pos designates]
  exact ⟨recordless_endDesignation_same _ _, rfl⟩

end Sys2Proof.Proofs.Cars
end
section
/-! PROOFS. What the end of a designation makes of the car (R159, R160). -/

namespace Sys2Proof.Proofs.Cars

open Sys2Proof.Machine Sys2Proof.Safety Sys2Proof.Proofs.Upkeep Sys2Proof.Proofs.IndicationLines Sys2Proof.Proofs.Ends
  Sys2Proof.Proofs.Account Sys2Proof.Proofs.Capacity Sys2Proof.Proofs.Pause Sys2Proof.Proofs.Shedding Sys2Proof.Proofs.Markers

/-- The car released from its designation. -/
structure ReleasedBy (s : State) (w v : Work) (c : CarId) (e : Entry) (r : CarRecord) : Prop where
  mid : Midway s v.st c
  ret : v.st.ret = w.st.ret
  record : record v.st c = some (r.goTo .parked)
  entry : entryOf v.st c = none
  kd : v.st.acct.kd = w.st.acct.kd - e.draw
  kr : v.st.acct.kr = w.st.acct.kr - e.regen
  gone : Recordless c v.st
  aside : NotRisen w.st → v.st.svc.setAside = w.st.svc.setAside

theorem releasedBy_undesignate {s : State} {w : Work} {c : CarId} {e : Entry} {r : CarRecord} (mid : Midway s w.st c)
    (had : record w.st c = some r) (stopped : isStopped r = true) (awake : r.state ≠ .silent) (found : entryOf w.st c = some e)
    (designates : e.designates = true) (cars : OneEntryPerCar w.st) (totals : TotalsMatch w.st) :
    ReleasedBy s w (undesignate w c) c e r := by
  have freed := freed_releaseEntry found cars totals
  obtain ⟨gone, aside⟩ := svc_releaseEntry found designates
  have made : undesignate w c = ((releaseEntry w c).up (fun s => moveCar s c .parked)).noteSs := by
    simp only [undesignate, had, stopped, if_true, awake, if_false]
  rw [made]
  exact ⟨(mid.release freed).moveCar .parked, freed.side.ret, by
    show Machine.record (moveCar (releaseEntry w c).st c .parked) c = _
    rw [record_moveCar_same, freed.side.record, had]; rfl, freed.entry, freed.kd, freed.kr, gone, aside⟩

/-- The car's designation ended by a stop. -/
structure CountedOut (s : State) (w v : Work) (c : CarId) (e : Entry) (r : CarRecord) : Prop where
  fixed : v.st.fixed = s.fixed
  reports : QueuedFirst s [] v.st
  plan : v.st.plan = w.st.plan
  ret : v.st.ret = w.st.ret
  record : record v.st c = some (r.goTo .stopping)
  entry : entryOf v.st c = some { e with phase := .stop, stopCause := some .count, window := none, deadline := none }
  others : ∀ d, d ≠ c → entryOf v.st d = entryOf w.st d
  acct : v.st.acct = { w.st.acct with entries := v.st.acct.entries }
  placed : Placed s v.st c .stopNext none
  gone : Recordless c v.st
  aside : v.st.svc.setAside = w.st.svc.setAside
  sheds : v.nt.sheds = w.nt.sheds

theorem change_rest {a : Account} (h : Summed a) (c : CarId) {f : Entry → Entry} (marks : Marks f) :
    a.change c f = { a with entries := (a.change c f).entries } := by
  obtain ⟨kd, kr⟩ := change_totals h c marks
  have parts : a.change c f = { a with entries := (a.change c f).entries, kd := (a.change c f).kd, kr := (a.change c f).kr } := by
    unfold Account.change
    split <;> rfl
  rw [kd, kr] at parts
  exact parts

theorem countedOut_undesignate {s : State} {w : Work} {c : CarId} {e : Entry} {r : CarRecord} (mid : Midway s w.st c)
    (had : record w.st c = some r) (moves : isStopped r = false) (awake : r.state ≠ .silent) (found : entryOf w.st c = some e)
    (designates : e.designates = true) (totals : TotalsMatch w.st) (enrols : (profile s c).enrolled = true)
    (may : mayPlace s.plan.state .stopNext = true) : CountedOut s w (undesignate w c) c e r := by
  have movable : e.movable = true := by simp [Entry.movable, designates]
  have stopped := stopped_moveToStop found movable .count
  obtain ⟨gone, aside⟩ := svc_moveToStop found designates .count
  obtain ⟨u, made_u⟩ : ∃ u, u = moveToStop w c .count := ⟨_, rfl⟩
  have made : undesignate w c = u.up (fun s => moveCar (place s c .stopNext) c .stopping) := by
    rw [made_u]
    simp only [undesignate, had, moves, Bool.false_eq_true, awake, if_false]
  rw [← made_u] at stopped gone aside
  have fixed_u : u.st.fixed = s.fixed := stopped.fixed.trans mid.fixed
  have profile_u : profile u.st c = profile s c := congrArg (fun x : Fixed => x.setup.profiles.at c) fixed_u
  have link : LinkOnly u.st (place u.st c .stopNext) := linkOnly_placeCommand _ _ _ _ _
  have acct : (place u.st c .stopNext).acct = w.st.acct.change c (Entry.toStop .count) := by rw [link]; exact stopped.acct
  have entries : ∀ d, entryOf (moveCar (place u.st c .stopNext) c .stopping) d
      = if d = c then (entryOf w.st d).map (Entry.toStop .count) else entryOf w.st d := fun d => by
    rw [← entryOf_change (f := Entry.toStop .count) (fun _ => rfl) c d]
    exact entryOf_of_acct (s := w.st.setAcct (w.st.acct.change c (Entry.toStop .count))) acct d
  rw [made]
  refine ⟨?_, ?_, ?_, ?_, ?_, ?_, fun d other => ?_, ?_, ?_, ?_, ?_, stopped.sheds⟩
  · exact closed_moveCar (closed_fixed _) (closed_place (closed_fixed _) fixed_u)
  · refine queuedFirst_of_port mid.reports ?_
    show (place u.st c .stopNext).port = _
    rw [link]
    exact stopped.port
  · show (place u.st c .stopNext).plan = _
    rw [link]
    exact stopped.side.plan
  · show (place u.st c .stopNext).ret = _
    rw [link]
    exact stopped.side.ret
  · show Machine.record (moveCar (place u.st c .stopNext) c .stopping) c = _
    rw [record_moveCar_same, record_place, stopped.side.record, had]
    rfl
  · refine (entries c).trans ?_
    rw [if_pos rfl, found]
    rfl
  · exact (entries d).trans (if_neg other)
  · show (place u.st c .stopNext).acct = { w.st.acct with entries := (place u.st c .stopNext).acct.entries }
    rw [acct]
    exact change_rest totals c (marks_toStop .count)
  · refine (placed_place ?_ ?_ ?_ ?_).moveCar .stopping
    · rw [profile_u]; exact enrols
    · rw [stopped.side.plan, mid.state]; exact may
    · unfold carLink
      rw [stopped.link]
      exact mid.tag
    · exact congrArg Fixed.time fixed_u
  · show Recordless c (place u.st c .stopNext)
    unfold Recordless
    rw [link]
    exact gone
  · show (place u.st c .stopNext).svc.setAside = _
    rw [link]
    exact aside

/-! ## When the event is over -/

theorem released_of_outcome {s t : State} {w v : Work} {c : CarId} {e : Entry} {r : CarRecord} {why : AsideReason} (freed : ReleasedBy s w v c e r)
    (outcome : Outcome v.st t c) (away : ∀ x ∈ w.st.ret.queue, x.car ≠ c) (acct : w.st.acct = s.acct) (still : NotRisen w.st)
    (aside : w.st.svc.setAside.at c = some why) : Released s t c e why ∧ record t c = some (r.goTo .parked) := by
  have had := (outcome.record_of_not_queued (by rw [freed.ret]; exact away)).trans freed.record
  refine ⟨⟨⟨_, had, rfl⟩, (outcome.entry c).trans freed.entry, ?_, ?_, ?_, ?_⟩, had⟩
  · rw [outcome.acct, freed.kd, acct]
  · rw [outcome.acct, freed.kr, acct]
  · rw [outcome.svc]; exact freed.gone
  · rw [outcome.svc, freed.aside still]; exact aside

theorem stoppedForCount_of_outcome {s t : State} {w v : Work} {c : CarId} {e : Entry} {r : CarRecord} {why : AsideReason}
    (out : CountedOut s w v c e r) (outcome : Outcome v.st t c) (away : ∀ x ∈ w.st.ret.queue, x.car ≠ c) (acct : w.st.acct = s.acct)
    (aside : w.st.svc.setAside.at c = some why) : StoppedForCount s t c e why ∧ record t c = some (r.goTo .stopping) := by
  have had := (outcome.record_of_not_queued (by rw [out.ret]; exact away)).trans out.record
  refine ⟨⟨⟨_, had, rfl⟩, (outcome.entry c).trans out.entry, ?_, fun d other => ?_, ?_, ?_, ?_⟩, had⟩
  · rw [outcome.acct, ← acct]
    exact out.acct
  · rw [outcome.entry d, out.others d other]
    exact entryOf_of_acct acct d
  · exact slotted_of_placed outcome.link out.placed (congrArg Fixed.setup out.fixed)
  · rw [outcome.svc]; exact out.gone
  · rw [outcome.svc, out.aside]; exact aside

end Sys2Proof.Proofs.Cars
end
section
/-! PROOFS. The verdicts on RUN-TO and SERVE (R146, R158, R159). -/

namespace Sys2Proof.Proofs.Cars

open Sys2Proof.Machine Sys2Proof.Safety Sys2Proof.Proofs.Upkeep Sys2Proof.Proofs.IndicationLines Sys2Proof.Proofs.Ends
  Sys2Proof.Proofs.Account Sys2Proof.Proofs.Capacity Sys2Proof.Proofs.Pause Sys2Proof.Proofs.Shedding Sys2Proof.Proofs.Markers

theorem serveActs_of_stands {s : State} {c : CarId} {permit : Option Nat} {e : Entry} (stands : ServeStands s c permit e) :
    serveActs s c permit = true := by
  obtain ⟨found, kind, phase, rec, has, awaits, is⟩ := stands
  simp [serveActs, has, found, awaits, is, designates_of kind phase]

theorem setAside_aside (s : State) (c : CarId) (why : AsideReason) : (setAside s c why).svc.setAside.at c = some why := Table.put_at_same _ _ _

/-- The work on which a declined SERVE ends the designation. -/
def asideWork (h : Work) (c : CarId) : Work := h.up (fun s => setAside (consumeAttempt s c) c .declined)

section
variable {s : State} {k : Link} {c : CarId} {cmd : Command} {r : CarReply} {old now : CarRecord} {h : Work}
  (hearing : Hearing s k c cmd r old h now)
include hearing

theorem Hearing.found_entry {e : Entry} (found : entryOf s c = some e) : entryOf h.st c = some e := (hearing.found.entry c).trans found

theorem Hearing.cars (cars : OneEntryPerCar s) : OneEntryPerCar h.st := by
  unfold OneEntryPerCar
  rw [hearing.found.acct]
  exact cars

theorem Hearing.totals (totals : TotalsMatch s) : TotalsMatch h.st := by
  unfold TotalsMatch
  rw [hearing.found.acct]
  exact totals

/-! ## RUN-TO -/

theorem run_declined {e : Entry} {reason : DeclineReason} {used : Nat} (paused : Paused s c) (kind : cmd.kind = .runTo)
    (starting : old.state = .starting) (found : entryOf s c = some e) (returning : e.kind = .returning) (phase : e.phase = .start)
    (fresh : WindowOpen e) (permit : cmd.permit = some e.permit) (stopped : StoppedIn r) (quiet : r.bits.getLsbD 1 = false)
    (away : ¬ Arrives e r) (declined : r.verdict = .declined reason) (uses : used = min 5 (old.attempts + 1)) :
    ∃ t, exec (.carReply k r) s = .next t ∧ SettingsKept s t ∧ HostSideKept s t ∧ t.cap = s.cap
      ∧ entryOf t c = none ∧ t.acct.kd = s.acct.kd - e.draw ∧ t.acct.kr = s.acct.kr - e.regen
      ∧ Evaluated s t c (some .sequencer) old.holdOut used (levelIn r (profile s c).recallFloor)
      ∧ CarReported s t c .starting
          (evaluationState s (some .sequencer) old.holdOut used (levelIn r (profile s c).recallFloor)) .declined (some ⟨.runTo, reason⟩) := by
  have found_h := hearing.found_entry found
  have elsewhere : (e.target.map (levelAt now)).getD false = false :=
    Bool.eq_false_iff.2 fun is => away ((atTarget_iff hearing.level returning).1 is)
  have rules := hearing.unruled_run starting (.inl rfl) paused.1 found (handed_of_open fresh (showsSpeed_of_stopped _ stopped quiet))
    (motionRules_starting found_h elsewhere)
  have acts : declineActs h.st c cmd.permit = true := by
    simp [declineActs, found_h, hearing.found.had, permit, starting_of returning phase, hearing.stopped.2 stopped]
  have judges : judge h c (.command cmd) r.verdict
      = ⟨evaluate ((releaseEntry h c).up (fun s => consumeAttempt s c)) c false, some .declined, false⟩ := by
    simp only [judge, kind, declined, judgeRun, acts, if_true]
  have freed := freed_releaseEntry found_h (hearing.cars paused.2.2.2.1) (hearing.totals paused.2.2.1)
  have mid := (hearing.found.mid.release freed).consumeAttempt
  have had := record_consumeAttempt ((freed.side.record c).trans hearing.found.had)
  obtain ⟨t, runs, settings, host, cap, acct, evaluated, reported⟩ := hearing.evaluates
    (u := (releaseEntry h c).up (fun s => consumeAttempt s c)) paused rules (by rw [kind]; decide)
    declined judges rfl rfl mid (freed.side.ret.trans hearing.ret) freed.entry had hearing.authority hearing.found.holdOut hearing.home
  have attempts : used = min 5 (now.attempts + 1) := by rw [uses, hearing.found.attempts]
  simp only [← attempts, kind, starting] at evaluated reported
  refine ⟨t, runs, settings, host, cap, (entryOf_of_acct acct c).trans freed.entry, ?_, ?_, evaluated, reported⟩
  · rw [acct]
    exact freed.kd.trans (by rw [hearing.found.acct])
  · rw [acct]
    exact freed.kr.trans (by rw [hearing.found.acct])

/-! ## SERVE -/

theorem Hearing.serve_unruled {e : Entry} (paused : Paused s c) (serving : old.state = .serving) (stands : ServeStands s c cmd.permit e) :
    statusRules h c old (isFirstContact s c old) (carried r .sequencer) = unruled h :=
  hearing.unruled_run serving (.inr (.inl rfl)) paused.1 stands.1 (handed_of_not_starting _ _ (by rw [stands.2.2.1]; decide))
    (motionRules_serving _ _ _)

theorem Hearing.serve_acts {e : Entry} (stands : ServeStands s c cmd.permit e) : serveActs h.st c cmd.permit = true := by
  have stands' : ServeStands h.st c cmd.permit e := by
    unfold ServeStands
    rw [hearing.found.svc]
    exact ⟨hearing.found_entry stands.1, stands.2⟩
  exact serveActs_of_stands stands'

theorem serve_accepted {e : Entry} {rec : ServiceRecord} (paused : Paused s c) (kind : cmd.kind = .serve) (serving : old.state = .serving)
    (stands : ServeStands s c cmd.permit e) (has : s.svc.records.at c = some rec) (accepted : r.verdict = .accepted) :
    ∃ t new, exec (.carReply k r) s = .next t ∧ SettingsKept s t ∧ HostSideKept s t ∧ t.cap = s.cap ∧ t.acct = s.acct
      ∧ t.svc.records.at c = some { rec with status := .confirmed } ∧ t.svc.setAside = s.svc.setAside
      ∧ record t c = some new ∧ new.state = .serving ∧ new.attempts = old.attempts
      ∧ CarReported s t c .serving .serving .service none := by
  have rules := hearing.serve_unruled paused serving stands
  obtain ⟨grants, stays, _, _, _, spaced, away⟩ := paused
  have judges : judge h c (.command cmd) r.verdict = ⟨h.up (fun s => confirmService s c), some .service, true⟩ := by
    simp only [judge, kind, accepted, judgeServe, hearing.serve_acts stands, if_true]
  have mid := hearing.found.mid
  obtain ⟨t, z, runs, port, fixed, made, ends⟩ := hearing.ends rules _ judges mid.fixed (queuedFirst_of_port mid.reports rfl)
  rw [declinedStop_of_ne (by rw [kind]; decide)] at made
  have calm : Calm (confirmService h.st c) := calm_of_spaced mid.state mid.fixed mid.spacing grants stays spaced
  have outcome : Outcome (confirmService h.st c) t c := made ▸ outcome_of_report port fixed (.inl hearing.found.sheds) calm
  have state : now.state = .serving := hearing.found.state.trans serving
  have reported := ends.reported now hearing.found.had (.inr (.inr rfl))
  rw [replyCause_of_verdict, serving, state, accepted] at reported
  have svc : t.svc = { s.svc with records := s.svc.records.alter c (Option.map (fun r => { r with status := .confirmed })) } := by
    rw [outcome.svc, ← hearing.found.svc]
    rfl
  refine ⟨t, now, runs, ends.settings, ends.host, ends.cap, outcome.acct.trans hearing.found.acct, ?_, ?_, ?_, state, hearing.found.attempts,
    reported⟩
  · rw [svc]
    show (s.svc.records.alter c _).at c = _
    rw [Table.alter_at, if_pos rfl, has]
    rfl
  · rw [svc]
  · exact (outcome.record_of_not_queued (by show ∀ x ∈ h.st.ret.queue, _; rw [hearing.ret]; exact away)).trans hearing.found.had

theorem serve_declined {e : Entry} {reason : DeclineReason} (paused : Paused s c) (kind : cmd.kind = .serve) (serving : old.state = .serving)
    (stands : ServeStands s c cmd.permit e) (declined : r.verdict = .declined reason) :
    ∃ t, exec (.carReply k r) s = .next t ∧ SettingsKept s t ∧ HostSideKept s t ∧ t.cap = s.cap
      ∧ (record t c).map (·.attempts) = some (min 5 (old.attempts + 1))
      ∧ (StoppedIn r → NotRisen s →
          Released s t c e .declined ∧ CarReported s t c .serving .parked .declined (some ⟨.serve, reason⟩))
      ∧ (¬ StoppedIn r →
          StoppedForCount s t c e .declined ∧ CarReported s t c .serving .stopping .declined (some ⟨.serve, reason⟩)) := by
  have rules := hearing.serve_unruled paused serving stands
  obtain ⟨grants, stays, totals, cars, enrols, spaced, away⟩ := paused
  obtain ⟨w, made_w⟩ : ∃ w, w = asideWork h c := ⟨_, rfl⟩
  have judges : judge h c (.command cmd) r.verdict = ⟨undesignate w c, some .declined, false⟩ := by
    simp only [judge, kind, declined, judgeServe, hearing.serve_acts stands, if_true, made_w]
    rfl
  have acct : w.st.acct = s.acct := by rw [made_w]; exact hearing.found.acct
  have ret : w.st.ret = s.ret := by rw [made_w]; exact hearing.ret
  have sheds : w.nt.sheds = [] := by rw [made_w]; exact hearing.found.sheds
  have mid : Midway s w.st c := by
    have consumed := hearing.found.mid.consumeAttempt
    rw [made_w]
    exact ⟨⟨consumed.fixed, consumed.spacing, consumed.seq, consumed.state, consumed.tag, queuedFirst_of_port consumed.reports rfl⟩, consumed.cancelled⟩
  have had : record w.st c = some { now with attempts := min 5 (now.attempts + 1) } := by
    rw [made_w]
    exact record_consumeAttempt hearing.found.had
  have aside : w.st.svc.setAside.at c = some .declined := by rw [made_w]; exact setAside_aside _ _ _
  have found : entryOf w.st c = some e := (entryOf_of_acct acct c).trans stands.1
  have designates := designates_of stands.2.1 stands.2.2.1
  have sums : TotalsMatch w.st := by unfold TotalsMatch; rw [acct]; exact totals
  have one : OneEntryPerCar w.st := by unfold OneEntryPerCar; rw [acct]; exact cars
  have awake : now.state ≠ .silent := by rw [hearing.found.state, serving]; decide
  have away_w : ∀ x ∈ w.st.ret.queue, x.car ≠ c := by rw [ret]; exact away
  have decline : declineOf (.command cmd) r.verdict = some ⟨.serve, reason⟩ := by rw [declined, ← kind]; rfl
  have used : min 5 (now.attempts + 1) = min 5 (old.attempts + 1) := by rw [hearing.found.attempts]
  obtain ⟨v, made_v⟩ : ∃ v, v = undesignate w c := ⟨_, rfl⟩
  rw [← made_v] at judges
  by_cases stopped : StoppedIn r
  · have by_release := releasedBy_undesignate mid had (hearing.stopped.2 stopped) awake found designates one sums
    rw [← made_v] at by_release
    obtain ⟨t, z, runs, port, fixed, made, ends⟩ := hearing.ends rules _ judges by_release.mid.fixed by_release.mid.reports
    rw [declinedStop_of_ne (by rw [kind]; decide)] at made
    have calm : Calm v.st := calm_of_spaced by_release.mid.state by_release.mid.fixed by_release.mid.spacing grants stays spaced
    have unshed : Unshed v.st c := fun x here => by rw [by_release.entry] at here; cases here
    have outcome : Outcome v.st t c := made ▸ outcome_of_report (nt := v.nt) port fixed (.inr unshed) calm
    have reported := ends.reported _ by_release.record (.inr (.inl (by rw [decline]; rfl)))
    rw [replyCause_of_verdict, serving, decline] at reported
    have had_t := (outcome.record_of_not_queued (by rw [by_release.ret]; exact away_w)).trans by_release.record
    refine ⟨t, runs, ends.settings, ends.host, ends.cap, by rw [had_t]; exact congrArg some used, fun _ still => ?_, fun moves => absurd stopped moves⟩
    have still_w : NotRisen w.st := by
      unfold NotRisen
      rw [made_w]
      show h.st.cap.c ≤ h.st.svc.lastC ∧ h.st.cap.sink ≤ h.st.svc.lastS
      rw [hearing.found.svc, hearing.found.mid.cap]
      exact still
    exact ⟨(released_of_outcome by_release outcome away_w acct still_w aside).1, reported⟩
  · have out := countedOut_undesignate mid had (hearing.isStopped_of_moving stopped) awake found designates sums enrols
      (by rcases grants with is | is <;> rw [is] <;> rfl)
    rw [← made_v] at out
    obtain ⟨t, z, runs, port, fixed, made, ends⟩ := hearing.ends rules _ judges out.fixed out.reports
    rw [declinedStop_of_ne (by rw [kind]; decide)] at made
    have calm : Calm v.st := calm_of_spaced (by rw [out.plan]; exact mid.state) out.fixed (by rw [out.ret]; exact mid.spacing) grants stays spaced
    have outcome : Outcome v.st t c := made ▸ outcome_of_report (nt := v.nt) port fixed (.inl (out.sheds.trans sheds)) calm
    have reported := ends.reported _ out.record (.inr (.inl (by rw [decline]; rfl)))
    rw [replyCause_of_verdict, serving, decline] at reported
    obtain ⟨ended, had_t⟩ := stoppedForCount_of_outcome out outcome away_w acct aside
    exact ⟨t, runs, ends.settings, ends.host, ends.cap, by rw [had_t]; exact congrArg some used, fun is => absurd is stopped,
      fun _ => ⟨ended, reported⟩⟩

end

end Sys2Proof.Proofs.Cars
end
section
/-! PROOFS. The renewal of a STOP-NEXT (R62), and the verdicts on STOP-NEXT and HAND-BACK (R62, R73). -/

namespace Sys2Proof.Proofs.Cars

open Sys2Proof.Machine Sys2Proof.Safety Sys2Proof.Proofs.Upkeep Sys2Proof.Proofs.IndicationLines Sys2Proof.Proofs.Ends
  Sys2Proof.Proofs.Account Sys2Proof.Proofs.Capacity Sys2Proof.Proofs.Pause Sys2Proof.Proofs.Shedding

/-! ## Renewal -/

theorem mayRenew_iff (s : State) (c : CarId) : mayRenew s c = true ↔ (∃ e, entryOf s c = some e ∧ (e.phase = .stop ∨ e.kind = .adopted))
    ∧ (∃ r, record s c = some r ∧ r.authority = some .sequencer ∧ isMoving r = true)
    ∧ ∀ cmd, (carLink s c).slot = some cmd → cmd.kind ≠ .stopNext := by
  have slots : ((carLink s c).slot.map (·.kind) != some .stopNext) = true ↔ ∀ cmd, (carLink s c).slot = some cmd → cmd.kind ≠ .stopNext := by
    cases slot : (carLink s c).slot <;> simp
  unfold mayRenew
  cases entry : entryOf s c with
  | none => simp
  | some e =>
    cases had : record s c with
    | none => simp
    | some r => simp [slots, and_assoc]

/-- What a renewal reads of a car stands from one state to the other. -/
theorem mayRenew_congr {s t : State} {c : CarId} (entry : entryOf t c = entryOf s c) (cars : record t c = record s c)
    (slot : (carLink t c).slot = (carLink s c).slot) : mayRenew t c = mayRenew s c := by
  unfold mayRenew
  rw [entry, cars, slot]

theorem renewFor_of_may {s : State} {c : CarId} (renews : mayRenew s c = true) : renewFor s (some c) = place s c .stopNext := if_pos renews

theorem renewFor_of_not {s : State} {c : CarId} (renews : mayRenew s c = false) : renewFor s (some c) = s := if_neg (by rw [renews]; decide)

/-- An event of RETURN or SERVICE that grants nothing, and its renewal for a car that is in no return list. -/
structure Renewal (v t : State) (c : CarId) : Prop where
  fixed : t.fixed = v.fixed
  acct : t.acct = v.acct
  record : record t c = record v c
  slotted : mayRenew v c = true → (profile v c).enrolled = true → Slotted v t c .stopNext none
  stands : mayRenew v c = false → LinkEnd v t c

theorem renewal {v : State} {w : Work} {c : CarId} (apart : Apart v w.st c) (fixed : w.st.fixed = v.fixed) (grants : Granting w.st)
    (stays : GeneratorStays w.st) (spaced : w.st.ret.spacing ≠ none) (away : ∀ q ∈ w.st.ret.queue, q.car ≠ c) :
    Renewal v (completeWith w (some c)) c := by
  obtain ⟨x, granted, leaves⟩ := ended_completeWith (.inr ⟨grants, stays, spaced⟩) (some c)
  obtain ⟨t, made⟩ : ∃ t, t = completeWith w (some c) := ⟨_, rfl⟩
  rw [← made] at leaves ⊢
  have kept : t.fixed = w.st.fixed := by rw [made]; exact completeWith_fixed _ _
  have acct : x.acct = v.acct := granted.acct.trans (by rw [apart.side])
  obtain ⟨had, link⟩ : record x c = record v c ∧ carLink x c = carLink v c := by
    rcases granted.cars c with ⟨had, link, _⟩ | ⟨⟨q, mem, car⟩, _⟩
    · exact ⟨had.trans apart.record, link.trans apart.link⟩
    · exact absurd car (away q mem)
  have fixed_x : x.fixed = v.fixed := granted.fixed.trans fixed
  have setup : x.setup = v.setup := congrArg Fixed.setup fixed_x
  have same : mayRenew x c = mayRenew v c := mayRenew_congr (entryOf_of_acct acct c) had (by rw [link])
  have may : mayPlace x.plan.state .stopNext = true := by
    rcases granted.state with is | ⟨_, is⟩
    · rw [is]
      rcases grants with is | is <;> rw [is] <;> rfl
    · rw [is]; rfl
  refine ⟨kept.trans fixed, ?_, ?_, fun renews enrols => ?_, fun renews => ?_⟩
  · rw [leaves]; exact acct
  · rw [leaves]; exact had
  · have link_t : t.link = (arbiters (place x c .stopNext)).link := by
      rw [leaves, renewFor_of_may (same.trans renews)]
    have placed : Placed v (place x c .stopNext) c .stopNext none :=
      placed_place (by unfold profile; rw [setup]; exact enrols) may (by rw [link]) (congrArg Fixed.time fixed_x)
    refine slotted_of_placed (linkEnd_of_arbiters link_t c) placed ?_
    rw [show (place x c .stopNext).setup = x.setup from congrArg Fixed.setup (closed_place (closed_fixed x.fixed) rfl)]
    exact setup
  · have link_t : t.link = (arbiters x).link := by
      rw [leaves, renewFor_of_not (same.trans renews)]
    exact (linkEnd_of_arbiters link_t c).congr setup (by rw [link]) (by rw [link]) fun k => (granted.lines k).trans (apart.lines k)

/-! ## STOP-NEXT -/

theorem Slotted.of_near {s u t : State} {c : CarId} {kind : CmdKind} {permit : Option Nat} (near : Near s u c) (h : Slotted u t c kind permit) :
    Slotted s t c kind permit := by
  obtain ⟨waits, tag⟩ := h
  have tag_u : (u.link.cars.at c).nextTag = (s.link.cars.at c).nextTag := near.tag
  rw [tag_u, near.time] at waits
  rw [tag_u] at tag
  exact ⟨waits_congr near.setup waits, tag⟩

theorem replyCause_of_decline (old new : CarRecord) : replyCause old new none none true = .declined := by simp [replyCause]

section
variable {s : State} {k : Link} {c : CarId} {cmd : Command} {r : CarReply} {old now : CarRecord} {h : Work}
  (hearing : Hearing s k c cmd r old h now)
include hearing

theorem stop_declined {e : Entry} {reason : DeclineReason} (paused : Paused s c) (kind : cmd.kind = .stopNext) (stopping : old.state = .stopping)
    (found : entryOf s c = some e) (phase : e.phase = .stop) (moves : ¬ StoppedIn r) (declined : r.verdict = .declined reason)
    (free : ∀ newer, (s.link.cars.at c).slot = some newer → newer.kind ≠ .stopNext) :
    ∃ t, exec (.carReply k r) s = .next t ∧ SettingsKept s t ∧ HostSideKept s t ∧ t.cap = s.cap ∧ t.acct = s.acct
      ∧ Slotted s t c .stopNext none ∧ CarReported s t c .stopping .stopping .declined (some ⟨.stopNext, reason⟩) := by
  have moves_now := hearing.isStopped_of_moving moves
  have rules := hearing.unruled_run stopping (.inr (.inr rfl)) paused.1 found (handed_of_not_starting _ _ (by rw [phase]; decide))
    (motionRules_moving moves_now)
  obtain ⟨grants, stays, _, _, enrols, spaced, away⟩ := paused
  have judges : judge h c (.command cmd) r.verdict = noVerdict h := by simp only [judge, kind]
  have mid := hearing.found.mid
  obtain ⟨t, z, runs, port, fixed, made, ends⟩ := hearing.ends rules _ judges mid.fixed mid.reports
  have decline : declineOf (.command cmd) r.verdict = some ⟨.stopNext, reason⟩ := by rw [declined, ← kind]; rfl
  have renewed : declinedStop c (.command cmd) r.verdict = some c := by simp only [declinedStop, decline, if_true]
  have apart : Apart h.st (handSheds ⟨z, h.nt⟩).st c := apart_of_report port (.inl hearing.found.sheds)
  have fixed_w : (handSheds ⟨z, h.nt⟩).st.fixed = h.st.fixed := (closed_handSheds (w := ⟨z, h.nt⟩) (closed_fixed z.fixed) rfl).trans fixed
  have ret_w : (handSheds ⟨z, h.nt⟩).st.ret = s.ret := by rw [apart.side]; exact hearing.ret
  have state_w : (handSheds ⟨z, h.nt⟩).st.plan.state = s.plan.state := by rw [apart.side]; exact mid.state
  have ended := renewal apart fixed_w (by unfold Granting; rw [state_w]; exact grants)
    (generatorStays_of_fixed (fixed_w.trans mid.fixed) stays) (by rw [ret_w]; exact spaced) (by rw [ret_w]; exact away)
  rw [renewed] at made
  rw [show (noVerdict h).work = h from rfl] at made
  rw [← made] at ended
  have renews : mayRenew h.st c = true := by
    refine (mayRenew_iff _ _).2 ⟨⟨e, hearing.found_entry found, .inl phase⟩, ⟨now, hearing.found.had, hearing.authority, ?_⟩, fun cmd' slot => free cmd' ?_⟩
    · rw [hearing.moving, moves_now]; rfl
    · rw [hearing.link] at slot
      exact slot
  have state : now.state = .stopping := hearing.found.state.trans stopping
  have reported := ends.reported now hearing.found.had (.inr (.inl (by rw [decline]; rfl)))
  rw [decline, state, stopping] at reported
  have slotted := ended.slotted renews (by rw [mid.profile]; exact enrols)
  refine ⟨t, runs, ends.settings, ends.host, ends.cap, ended.acct.trans hearing.found.acct, ?_, ?_⟩
  · exact Slotted.of_near mid.toNear slotted
  · rw [show replyCause old now (noVerdict h).cause none (some (⟨.stopNext, reason⟩ : Decline)).isSome = .declined from
      replyCause_of_decline old now] at reported
    exact reported

end

end Sys2Proof.Proofs.Cars
end
section
/-! PROOFS. The verdict on a HAND-BACK in WATCHING (R73, R128), and what every verdict does. -/

namespace Sys2Proof.Proofs.Cars

open Sys2Proof.Machine Sys2Proof.Safety Sys2Proof.Proofs.Upkeep Sys2Proof.Proofs.IndicationLines Sys2Proof.Proofs.Ends
  Sys2Proof.Proofs.Account Sys2Proof.Proofs.Capacity Sys2Proof.Proofs.Pause Sys2Proof.Proofs.Shedding

theorem isFirstContact_in_watching {s : State} {c : CarId} {old : CarRecord} (watching : s.plan.state = .watching) (idle : old.state = .idle) :
    isFirstContact s c old = false := by simp [isFirstContact, watching, idle]

section
variable {s : State} {k : Link} {c : CarId} {cmd : Command} {r : CarReply} {old now : CarRecord} {h : Work}
  (hearing : Hearing s k c cmd r old h now)
include hearing

/-- How a HAND-BACK's verdict ends in WATCHING, where it left the car's record and the settings. -/
theorem Hearing.watching_ends {u : State} (watching : s.plan.state = .watching) (util : effective s utilLine = .active) (idle : old.state = .idle)
    (same : old.authority = some .sequencer) (kind : cmd.kind = .handBack)
    (judges : judge h c (.command cmd) r.verdict = noVerdict ⟨u, h.nt⟩) (fixed : u.fixed = s.fixed) (reports : QueuedFirst s [] u)
    (state : u.plan.state = s.plan.state) (had : record u c = some now) (acct : u.acct = s.acct) :
    ∃ t, exec (.carReply k r) s = .next t ∧ SettingsKept s t ∧ HostSideKept s t ∧ t.cap = s.cap ∧ t.acct = s.acct
      ∧ t.plan = u.plan ∧ (record t c).map (·.state) = some .idle ∧ LinkEnd u t c
      ∧ ∀ reason, r.verdict = .declined reason → CarReported s t c .idle .idle .declined (some ⟨.handBack, reason⟩) := by
  have rules := hearing.unruled_idle idle same (isFirstContact_in_watching watching idle) (.inl (by rw [watching]; rfl))
  obtain ⟨t, z, runs, port, fixed_z, made, ends⟩ := hearing.ends rules _ judges fixed reports
  rw [declinedStop_of_ne (by rw [kind]; decide)] at made
  have rests : Rests u := rests_watching (state.trans watching) ((effective_of_fixed fixed _).trans util)
  have outcome : Outcome u t c := made ▸ outcome_of_report port fixed_z (.inl hearing.found.sheds) rests.calm
  obtain ⟨same_t, _, plan_t⟩ : record t c = record u c ∧ t.ret = u.ret ∧ t.plan = u.plan :=
    made ▸ rested_of_report port (.inl hearing.found.sheds) rests
  have is : now.state = .idle := hearing.found.state.trans idle
  refine ⟨t, runs, ends.settings, ends.host, ends.cap, outcome.acct.trans acct, plan_t, ?_, outcome.link, fun reason declined => ?_⟩
  · rw [same_t, had]
    exact congrArg some is
  · have decline : declineOf (.command cmd) r.verdict = some ⟨.handBack, reason⟩ := by rw [declined, ← kind]; rfl
    have reported := ends.reported now had (.inr (.inl (by rw [decline]; rfl)))
    rw [decline, is, idle, show replyCause old now (noVerdict ⟨u, h.nt⟩).cause none (some (⟨.handBack, reason⟩ : Decline)).isSome = .declined from
      replyCause_of_decline old now] at reported
    exact reported

theorem handBack_accepted (watching : s.plan.state = .watching) (util : effective s utilLine = .active) (idle : old.state = .idle)
    (same : old.authority = some .sequencer) (kind : cmd.kind = .handBack) (accepted : r.verdict = .accepted) :
    ∃ t, exec (.carReply k r) s = .next t ∧ SettingsKept s t ∧ HostSideKept s t ∧ t.cap = s.cap ∧ t.acct = s.acct
      ∧ t.plan.owed.at c = false ∧ (record t c).map (·.state) = some .idle := by
  have mid := hearing.found.mid
  have judges : judge h c (.command cmd) r.verdict = noVerdict ⟨setOwed h.st c false, h.nt⟩ := by
    simp only [judge, kind, accepted, judgeHandBack]
    rfl
  obtain ⟨t, runs, settings, host, cap, acct, plan, state, _⟩ := hearing.watching_ends watching util idle same kind judges mid.fixed
    (queuedFirst_of_port mid.reports rfl) mid.state hearing.found.had hearing.found.acct
  refine ⟨t, runs, settings, host, cap, acct, ?_, state⟩
  rw [plan]
  exact Table.put_at_same _ _ _

theorem handBack_declined {reason : DeclineReason} (watching : s.plan.state = .watching) (util : effective s utilLine = .active)
    (idle : old.state = .idle) (same : old.authority = some .sequencer) (kind : cmd.kind = .handBack) (enrols : (profile s c).enrolled = true)
    (declined : r.verdict = .declined reason) :
    ∃ t, exec (.carReply k r) s = .next t ∧ SettingsKept s t ∧ HostSideKept s t ∧ t.cap = s.cap ∧ t.acct = s.acct
      ∧ t.plan.owed.at c = s.plan.owed.at c ∧ (record t c).map (·.state) = some .idle ∧ Slotted s t c .handBack none
      ∧ CarReported s t c .idle .idle .declined (some ⟨.handBack, reason⟩) := by
  have mid := hearing.found.mid
  have watching_h : h.st.plan.state = .watching := mid.state.trans watching
  have heard : withheld h.st c = false := by
    unfold withheld
    rw [hearing.found.had]
    show (now.linkStatus == .silent) = false
    rw [hearing.found.contact]
    rfl
  have replaced : replaceHandBack h.st c = place h.st c .handBack := if_pos ⟨watching_h, by rw [heard]; rfl⟩
  have judges : judge h c (.command cmd) r.verdict = noVerdict ⟨place h.st c .handBack, h.nt⟩ := by
    rw [← replaced]
    simp only [judge, kind, declined, judgeHandBack]
    rfl
  have link : LinkOnly h.st (place h.st c .handBack) := linkOnly_placeCommand _ _ _ _ _
  have fixed : (place h.st c .handBack).fixed = s.fixed := closed_place (closed_fixed _) mid.fixed
  obtain ⟨t, runs, settings, host, cap, acct, plan, state, ends, reported⟩ := hearing.watching_ends watching util idle same kind judges
    fixed (queuedFirst_of_port mid.reports (by rw [link]; rfl)) (by rw [link]; exact mid.state)
    ((record_place _ _ _ _).trans hearing.found.had) (by rw [link]; exact hearing.found.acct)
  refine ⟨t, runs, settings, host, cap, acct, ?_, state, ?_, reported reason declined⟩
  · rw [plan, link]
    exact congrArg (·.at c) hearing.found.owed
  · exact slotted_of_placed ends (placed_place (by rw [mid.profile]; exact enrols) (by rw [watching_h]; rfl) mid.tag mid.time) (congrArg Fixed.setup fixed)

end

/-- Settles O25: no rule acts on the status (`Hearing`), and each verdict's lemma says what its judgement leaves when the event is over. -/
theorem verdictsAct : Obligations.VerdictsAct := by
  unfold Obligations.VerdictsAct
  intro s k c cmd r old replies sequencer same
  have enrols : (profile s c).enrolled = true := replies.2.2.1
  have meets : old.state ≠ .queued → old.state ≠ .staged → ∃ h now, Hearing s k c cmd r old h now := exists_hearing replies sequencer
  refine ⟨fun paused => ⟨fun kind idle parkOut none stopped => ?park, fun e reason used kind starting found returning phase fresh permit stopped
    quiet away declined uses => ?run, fun e rec kind serving stands has => ?serve, fun e reason kind stopping found _ phase moves declined free =>
    ?stop⟩, fun watching util idle kind => ?handBack⟩
  case park =>
    obtain ⟨h, now, hearing⟩ := meets (by rw [idle]; decide) (by rw [idle]; decide)
    exact ⟨parked_accepted hearing paused kind idle parkOut same stopped,
      fun reason used st declined uses is => parked_declined hearing paused kind idle parkOut none same stopped declined uses is⟩
  case run =>
    obtain ⟨h, now, hearing⟩ := meets (by rw [starting]; decide) (by rw [starting]; decide)
    exact run_declined hearing paused kind starting found returning phase fresh permit stopped quiet away declined uses
  case serve =>
    obtain ⟨h, now, hearing⟩ := meets (by rw [serving]; decide) (by rw [serving]; decide)
    exact ⟨serve_accepted hearing paused kind serving stands has, fun reason declined => serve_declined hearing paused kind serving stands declined⟩
  case stop =>
    obtain ⟨h, now, hearing⟩ := meets (by rw [stopping]; decide) (by rw [stopping]; decide)
    exact stop_declined hearing paused kind stopping found phase moves declined free
  case handBack =>
    obtain ⟨h, now, hearing⟩ := meets (by rw [idle]; decide) (by rw [idle]; decide)
    exact ⟨handBack_accepted hearing watching util idle same kind,
      fun reason declined => handBack_declined hearing watching util idle same kind enrols declined⟩

end Sys2Proof.Proofs.Cars
end
section
/-! PROOFS. A missed exchange that carried a command, short of the silence threshold (R61, R62): the slot when the event is over. -/

namespace Sys2Proof.Proofs.Cars

open Sys2Proof.Machine Sys2Proof.Safety Sys2Proof.Proofs.Upkeep Sys2Proof.Proofs.IndicationLines Sys2Proof.Proofs.Ends
  Sys2Proof.Proofs.Account Sys2Proof.Proofs.Capacity Sys2Proof.Proofs.Pause Sys2Proof.Proofs.Shedding

/-! ## The miss as the command's rules find it -/

/-- The state in which a missed command is looked at, and how the event ends. -/
structure Missed (s : State) (k : Link) (order : DropOrder) (c : CarId) (cmd : Command) (old : CarRecord) (h : State) : Prop where
  mid : Midway s h c
  side : LinkOnly s h
  slot : (carLink h c).slot = (carLink s c).slot
  out : NoneOut h c
  had : record h c = some old
  runs : exec (.missedExchange k order) s
    = .next (completeWith (missedCommand (begin h) c cmd) (droppedStop h ⟨c, .command cmd⟩))

theorem missed {s : State} {k : Link} {c : CarId} {cmd : Command} {old : CarRecord} (order : DropOrder)
    (out : (linkLine s k).exchange = some ⟨c, .command cmd⟩) (link : (profile s c).link = k) (had : record s c = some old)
    (short : min 255 ((s.link.cars.at c).missed + 1) ≠ s.setup.limits.silenceThreshold) :
    Missed s k order c cmd old (endMissed s k c) := by
  have side := linkOnly_endMissed s k c
  have same : carLink (endMissed s k c) c = missedLink s (carLink s c) := carLink_endMissed_same s k c
  have runs := exec_missedExchange out order
  obtain ⟨h, made⟩ : ∃ h, h = endMissed s k c := ⟨_, rfl⟩
  rw [← made] at side same
  have setup : h.setup = s.setup := by rw [side]; rfl
  have handed : handMiss (begin h) ⟨c, .command cmd⟩ order = missedCommand (begin h) c cmd := by
    have declares : ((carLink (begin h).st c).missed == (begin h).st.setup.limits.silenceThreshold) = false := by
      show ((carLink h c).missed == h.setup.limits.silenceThreshold) = false
      rw [same, setup, beq_eq_false_iff_ne]
      exact short
    unfold handMiss
    simp only [declares, Bool.false_eq_true, if_false]
    rfl
  have free : (linkLine h k).exchange = none := by rw [made]; exact linkLine_endMissed_same s k c
  rw [show endMissed s k (⟨c, .command cmd⟩ : Exchange).car = h from made.symm, handed] at runs
  rw [← made]
  refine ⟨⟨⟨fixed_of_linkOnly side, by rw [side]; rfl, by rw [side]; rfl, by rw [side]; rfl, by rw [same]; rfl, ?_⟩, by rw [side]; rfl⟩, side,
    by rw [same]; rfl, fun x exchange _ => ?_, (record_of_linkOnly side c).trans had, runs⟩
  · exact queuedFirst_of_port ⟨[], reportsQueued_refl s⟩ (by rw [side]; rfl)
  · have line : (profile h c).link = k := by
      unfold profile at *
      rw [setup]
      exact link
    rw [line, free] at exchange
    cases exchange

/-! ## An event that reaches the links alone -/

theorem completeWith_cars (w : Work) (renew : Option CarId) : (completeWith w renew).cars = (grantWork w).st.cars := by
  rw [completeWith, arbiters_driven]

section
variable {s h : State} {k : Link} {order : DropOrder} {c : CarId} {cmd : Command} {old : CarRecord} (miss : Missed s k order c cmd old h)
include miss

/-- Where the command's rules have reached the links alone. -/
theorem Missed.ends {u : State} (paused : Paused s c) (side : LinkOnly h u) (work : missedCommand (begin h) c cmd = begin u)
    (renew : droppedStop h ⟨c, .command cmd⟩ = none) :
    ∃ t, exec (.missedExchange k order) s = .next t ∧ SettingsKept s t ∧ HostSideKept s t ∧ t.cap = s.cap ∧ t.acct = s.acct ∧ t.cars = s.cars
      ∧ LinkEnd u t c := by
  have runs := miss.runs
  rw [work, renew] at runs
  have reach : LinkOnly s u := miss.side.trans side
  have fixed := fixed_of_linkOnly reach
  obtain ⟨grants, stays, _, _, _, spaced, _⟩ := paused
  have calm : Calm u := calm_of_spaced (by rw [reach]; rfl) fixed (by rw [reach]; rfl) grants stays spaced
  have outcome := outcome_completeWith (w := begin u) (Apart.refl u c) rfl calm
  have cars : (completeWith (begin u) none).cars = s.cars := by
    rw [completeWith_cars, grantWork_cars_of_unnoted (w := begin u) (granting_of_plan (by rw [reach]; rfl) grants)
      (generatorStays_of_fixed fixed stays) (by show u.ret.spacing ≠ none; rw [reach]; exact spaced) rfl]
    show u.cars = s.cars
    rw [reach]
    rfl
  obtain ⟨settings, host, cap⟩ := kept_of_fixed_eq (outcome.fixed.trans fixed)
  exact ⟨_, runs, settings, host, cap, outcome.acct.trans (by rw [reach]; rfl), cars, outcome.link⟩

theorem Missed.nextTag {t : State} (ends : LinkEnd h t c) : (t.link.cars.at c).nextTag = (s.link.cars.at c).nextTag :=
  ends.nextTag.trans miss.mid.tag

theorem Missed.unrenewed (first : (carLink s c).slot ≠ none ∨ cmd.tries < 3 ∨ cmd.kind ≠ .stopNext) : droppedStop h ⟨c, .command cmd⟩ = none := by
  unfold droppedStop
  simp only
  refine if_neg fun ⟨kind, empty, tries⟩ => ?_
  rcases first with full | few | other
  · exact full (miss.slot.symm.trans empty)
  · exact absurd few (Nat.not_lt.2 tries)
  · exact other kind

theorem missed_superseded {newer : Command} (paused : Paused s c) (slot : (s.link.cars.at c).slot = some newer) :
    ∃ t, exec (.missedExchange k order) s = .next t ∧ SettingsKept s t ∧ HostSideKept s t ∧ t.cap = s.cap
      ∧ t.acct = s.acct ∧ t.cars = s.cars ∧ Waits s t c newer ∧ (t.link.cars.at c).nextTag = (s.link.cars.at c).nextTag := by
  have slot_h : (carLink h c).slot = some newer := miss.slot.trans slot
  have work : missedCommand (begin h) c cmd = begin h := if_pos (by show (carLink h c).slot.isSome = true; rw [slot_h]; rfl)
  have full : (carLink s c).slot ≠ none := by
    show (s.link.cars.at c).slot ≠ none
    rw [slot]
    exact Option.some_ne_none _
  obtain ⟨t, runs, settings, host, cap, acct, cars, ends⟩ := miss.ends paused (LinkOnly.refl h) work (miss.unrenewed (.inl full))
  exact ⟨t, runs, settings, host, cap, acct, cars, waits_congr miss.mid.setup (ends.waits _ slot_h), miss.nextTag ends⟩

theorem Missed.empty (slot : (s.link.cars.at c).slot = none) : (carLink h c).slot = none := miss.slot.trans slot

theorem missed_again (paused : Paused s c) (slot : (s.link.cars.at c).slot = none) (few : cmd.tries < 3) :
    ∃ t, exec (.missedExchange k order) s = .next t ∧ SettingsKept s t ∧ HostSideKept s t ∧ t.cap = s.cap
      ∧ t.acct = s.acct ∧ t.cars = s.cars ∧ Waits s t c cmd ∧ (t.link.cars.at c).nextTag = (s.link.cars.at c).nextTag := by
  have empty := miss.empty slot
  have work : missedCommand (begin h) c cmd = begin (alterLink h c (fun l => { l with slot := some cmd })) := by
    have none_h : ¬ (carLink (begin h).st c).slot.isSome = true := by
      show ¬ (carLink h c).slot.isSome = true
      rw [empty]
      decide
    rw [missedCommand, if_neg none_h, if_pos (show cmd.tries < Config.tries from few)]
    rfl
  obtain ⟨t, runs, settings, host, cap, acct, cars, ends⟩ := miss.ends paused (linkOnly_alterLink h c _) work (miss.unrenewed (.inr (.inl few)))
  have link : carLink (alterLink h c (fun l => { l with slot := some cmd })) c = { carLink h c with slot := some cmd } := carLink_alterLink_same _ _ _
  refine ⟨t, runs, settings, host, cap, acct, cars, waits_congr miss.mid.setup (ends.waits _ (by rw [link])), ?_⟩
  refine ends.nextTag.trans ?_
  rw [link]
  exact miss.mid.tag

theorem Missed.dropped (slot : (s.link.cars.at c).slot = none) (many : 3 ≤ cmd.tries) : missedCommand (begin h) c cmd = dropCommand (begin h) c cmd := by
  have none_h : ¬ (carLink (begin h).st c).slot.isSome = true := by
    show ¬ (carLink h c).slot.isSome = true
    rw [miss.empty slot]
    decide
  rw [missedCommand, if_neg none_h, if_neg (show ¬ cmd.tries < Config.tries from Nat.not_lt.2 many)]

theorem missed_discarded (paused : Paused s c) (slot : (s.link.cars.at c).slot = none) (many : 3 ≤ cmd.tries)
    (kind : cmd.kind = .runTo ∨ cmd.kind = .hold ∨ cmd.kind = .handBack) :
    ∃ t, exec (.missedExchange k order) s = .next t ∧ SettingsKept s t ∧ HostSideKept s t ∧ t.cap = s.cap
      ∧ t.acct = s.acct ∧ t.cars = s.cars ∧ NoCommand s t c ∧ (t.link.cars.at c).nextTag = (s.link.cars.at c).nextTag := by
  have granted : Granting h := granting_of_plan miss.mid.state paused.1
  have drops : dropCommand (begin h) c cmd = begin h := by
    rcases kind with is | is | is <;> simp only [dropCommand, is]
    have away : ¬ (h.plan.state = .watching ∧ (!withheld h c) = true) := by
      rintro ⟨watching, _⟩
      rcases granted with is | is <;> rw [is] at watching <;> cases watching
    show begin (replaceHandBack h c) = begin h
    rw [replaceHandBack, if_neg away]
  have other : cmd.kind ≠ .stopNext := by rcases kind with is | is | is <;> rw [is] <;> decide
  obtain ⟨t, runs, settings, host, cap, acct, cars, ends⟩ := miss.ends paused (LinkOnly.refl h) ((miss.dropped slot many).trans drops)
    (miss.unrenewed (.inr (.inr other)))
  exact ⟨t, runs, settings, host, cap, acct, cars, noCommand_congr miss.mid.setup (ends.silent miss.out (miss.empty slot)), miss.nextTag ends⟩

/-! ## STOP-NEXT -/

theorem missed_stop (paused : Paused s c) (slot : (s.link.cars.at c).slot = none) (many : 3 ≤ cmd.tries) (kind : cmd.kind = .stopNext) :
    ∃ t, exec (.missedExchange k order) s = .next t ∧ SettingsKept s t ∧ HostSideKept s t ∧ t.cap = s.cap
      ∧ t.acct = s.acct ∧ t.cars = s.cars
      ∧ ((∃ e, entryOf s c = some e ∧ (e.phase = .stop ∨ e.kind = .adopted)) → old.authority = some .sequencer →
          (∃ m, old.motion = some m ∧ m ≠ .stopped) → Slotted s t c .stopNext none)
      ∧ (entryOf s c = none ∨ old.authority ≠ some .sequencer ∨ old.motion = some .stopped → NoCommand s t c) := by
  have drops : dropCommand (begin h) c cmd = begin h := by simp only [dropCommand, kind]
  have empty := miss.empty slot
  have renewed : droppedStop h ⟨c, .command cmd⟩ = some c := if_pos ⟨kind, empty, many⟩
  have runs := miss.runs
  rw [miss.dropped slot many, drops, renewed] at runs
  obtain ⟨grants, stays, _, _, enrols, spaced, away⟩ := paused
  have grants_h : Granting h := granting_of_plan miss.mid.state grants
  have stays_h : GeneratorStays h := generatorStays_of_fixed miss.mid.fixed stays
  have ret_h : h.ret = s.ret := by rw [miss.side]; rfl
  have spaced_h : h.ret.spacing ≠ none := by rw [ret_h]; exact spaced
  have ended := renewal (w := begin h) (Apart.refl h c) rfl grants_h stays_h spaced_h (by show ∀ q ∈ h.ret.queue, _; rw [ret_h]; exact away)
  have cars : (completeWith (begin h) (some c)).cars = s.cars := by
    rw [completeWith_cars, grantWork_cars_of_unnoted (w := begin h) grants_h stays_h spaced_h rfl]
    show h.cars = s.cars
    rw [miss.side]
    rfl
  obtain ⟨settings, host, cap⟩ := kept_of_fixed_eq (ended.fixed.trans miss.mid.fixed)
  have entry : entryOf h c = entryOf s c := entryOf_of_acct (by rw [miss.side]; rfl) c
  have may := mayRenew_iff h c
  rw [entry] at may
  refine ⟨_, runs, settings, host, cap, ended.acct.trans (by rw [miss.side]; rfl), cars, fun holds sequencer ⟨m, motion, moves⟩ => ?_, fun rests => ?_⟩
  · refine Slotted.of_near miss.mid.toNear (ended.slotted (may.2 ⟨holds, ⟨old, miss.had, sequencer, ?_⟩, fun cmd' slot' => ?_⟩) (by rw [miss.mid.profile]; exact enrols))
    · cases m with
      | stopped => exact absurd rfl moves
      | accelerating | atSpeed | decelerating => simp [isMoving, motion]
    · rw [empty] at slot'
      cases slot'
  · have not_may : mayRenew h c = false := by
      rw [← Bool.not_eq_true, may]
      rintro ⟨⟨e, found, _⟩, ⟨r, had, sequencer, moves⟩, _⟩
      rw [miss.had] at had
      rw [← Option.some.inj had] at sequencer moves
      rcases rests with none | other | stopped
      · rw [none] at found; cases found
      · exact other sequencer
      · simp [isMoving, stopped] at moves
    exact noCommand_congr miss.mid.setup ((ended.stands not_may).silent miss.out empty)

/-! ## HAND-BACK in WATCHING -/

theorem missed_handBack (watching : s.plan.state = .watching) (util : effective s utilLine = .active) (kind : cmd.kind = .handBack)
    (slot : (s.link.cars.at c).slot = none) (many : 3 ≤ cmd.tries) (enrols : (profile s c).enrolled = true) (contact : old.linkStatus = .inContact) :
    ∃ t, exec (.missedExchange k order) s = .next t ∧ SettingsKept s t ∧ HostSideKept s t ∧ t.cap = s.cap
      ∧ t.acct = s.acct ∧ t.cars = s.cars ∧ Slotted s t c .handBack none := by
  have watching_h : h.plan.state = .watching := miss.mid.state.trans watching
  have heard : withheld h c = false := by
    unfold withheld
    rw [miss.had]
    show (old.linkStatus == .silent) = false
    rw [contact]
    rfl
  obtain ⟨u, made⟩ : ∃ u, u = place h c .handBack := ⟨_, rfl⟩
  have drops : dropCommand (begin h) c cmd = begin u := by
    simp only [dropCommand, kind]
    show begin (replaceHandBack h c) = _
    rw [made, replaceHandBack, if_pos ⟨watching_h, by rw [heard]; rfl⟩]
  have runs := miss.runs
  rw [miss.dropped slot many, drops, miss.unrenewed (.inr (.inr (by rw [kind]; decide)))] at runs
  have side : LinkOnly s u := miss.side.trans (by rw [made]; exact linkOnly_placeCommand _ _ _ _ _)
  have fixed := fixed_of_linkOnly side
  have rests : Rests u := rests_watching (by rw [side]; exact watching) ((effective_of_fixed fixed _).trans util)
  have outcome := outcome_completeWith (w := begin u) (Apart.refl u c) rfl rests.calm
  have cars : (completeWith (begin u) none).cars = s.cars := by
    rw [completeWith_of_resting (w := begin u) rests.1 rests.2, arbiters_driven]
    show u.cars = s.cars
    rw [side]
    rfl
  obtain ⟨settings, host, cap⟩ := kept_of_fixed_eq (outcome.fixed.trans fixed)
  refine ⟨_, runs, settings, host, cap, outcome.acct.trans (by rw [side]; rfl), cars, ?_⟩
  refine slotted_of_placed outcome.link (made ▸ placed_place ?_ ?_ miss.mid.tag miss.mid.time) (congrArg Fixed.setup fixed)
  · rw [miss.mid.profile]; exact enrols
  · rw [watching_h]; rfl

end

end Sys2Proof.Proofs.Cars
end
section
/-! PROOFS. A PARK or SERVE dropped after its third try (R41, R61, R160), and what every missed command comes to. -/

namespace Sys2Proof.Proofs.Cars

open Sys2Proof.Machine Sys2Proof.Safety Sys2Proof.Proofs.Upkeep Sys2Proof.Proofs.IndicationLines Sys2Proof.Proofs.Ends
  Sys2Proof.Proofs.Account Sys2Proof.Proofs.Capacity Sys2Proof.Proofs.Pause Sys2Proof.Proofs.Shedding Sys2Proof.Proofs.Markers

section
variable {s h : State} {k : Link} {order : DropOrder} {c : CarId} {cmd : Command} {old : CarRecord} (miss : Missed s k order c cmd old h)
include miss

theorem Missed.acct : h.acct = s.acct := by rw [miss.side]; rfl

theorem Missed.ret : h.ret = s.ret := by rw [miss.side]; rfl

theorem Missed.svc : h.svc = s.svc := by rw [miss.side]; rfl

/-! ## PARK -/

theorem missed_park (paused : Paused s c) (slot : (s.link.cars.at c).slot = none) (many : 3 ≤ cmd.tries) (kind : cmd.kind = .park)
    (idle : old.state = .idle) (parkOut : old.parkOut = true) (none : entryOf s c = none) :
    ∃ t, exec (.missedExchange k order) s = .next t ∧ SettingsKept s t ∧ HostSideKept s t ∧ t.cap = s.cap
      ∧ Evaluated s t c old.authority old.holdOut old.attempts (atHome s c old)
      ∧ (evaluationState s old.authority old.holdOut old.attempts (atHome s c old) ≠ .idle →
          CarReported s t c .idle (evaluationState s old.authority old.holdOut old.attempts (atHome s c old)) .evaluation Option.none) := by
  have had : record (begin h).st c = some old := miss.had
  have awaits : awaitsPark (begin h).st c = true := by
    simp only [awaitsPark, had, idle, parkOut]
    rfl
  obtain ⟨v, made_v⟩ : ∃ v, v = evaluate (begin h) c false := ⟨_, rfl⟩
  have drops : dropCommand (begin h) c cmd = handSheds ⟨reportCar v.st c (some old) .evaluation Option.none, v.nt⟩ := by
    simp only [dropCommand, kind, parkDropped, awaits, if_true, had, made_v]
    rfl
  have runs := miss.runs
  rw [miss.dropped slot many, drops, miss.unrenewed (.inr (.inr (by rw [kind]; decide)))] at runs
  obtain ⟨grants, stays, _, _, enrols, spaced, away⟩ := paused
  have gone : entryOf (begin h).st c = Option.none := (entryOf_of_acct miss.acct c).trans none
  have mid : Midway s (begin h).st c := miss.mid
  have away_h : ∀ x ∈ (begin h).st.ret.queue, x.car ≠ c := by
    show ∀ x ∈ h.ret.queue, _
    rw [miss.ret]
    exact away
  obtain ⟨unshed, calm⟩ := calm_evaluate mid grants stays spaced gone had false
  rw [← made_v] at unshed calm
  have fixed : (reportCar v.st c (some old) .evaluation Option.none).fixed = v.st.fixed := closed_reportCar (closed_fixed _) rfl
  have outcome : Outcome v.st (complete (handSheds ⟨reportCar v.st c (some old) .evaluation Option.none, v.nt⟩)) c :=
    outcome_of_report (portOnly_reportCar _ _ _ _ _) fixed (.inr unshed) calm
  have judged := judgement mid grants away_h gone had false (made_v ▸ outcome)
  rw [← made_v] at judged
  obtain ⟨settings, host, cap⟩ := kept_of_fixed_eq judged.fixed
  refine ⟨_, runs, settings, host, cap, judged.evaluated enrols, fun moved => ?_⟩
  obtain ⟨new, here, is⟩ := Option.map_eq_some_iff.1 judged.state
  have reported := carReported_reportCar (cause := .evaluation) (decline := Option.none) judged.reports here
    (.inl (by rw [idle, is]; exact fun same => moved same.symm))
  rw [idle, is] at reported
  exact carReported_of_report reported

/-! ## SERVE -/

theorem missed_serve {e : Entry} (paused : Paused s c) (slot : (s.link.cars.at c).slot = none) (many : 3 ≤ cmd.tries) (kind : cmd.kind = .serve)
    (serving : old.state = .serving) (stands : ServeStands s c cmd.permit e) :
    ∃ t, exec (.missedExchange k order) s = .next t ∧ SettingsKept s t ∧ HostSideKept s t ∧ t.cap = s.cap
      ∧ (record t c).map (·.attempts) = some old.attempts
      ∧ (old.motion = some .stopped → NotRisen s → Released s t c e .dropped ∧ CarReported s t c .serving .parked .service none)
      ∧ ((∃ m, old.motion = some m ∧ m ≠ .stopped) →
          StoppedForCount s t c e .dropped ∧ CarReported s t c .serving .stopping .service none) := by
  obtain ⟨w, made_w⟩ : ∃ w, w = (begin h).up (fun s => setAside s c .dropped) := ⟨_, rfl⟩
  obtain ⟨v, made_v⟩ : ∃ v, v = undesignate w c := ⟨_, rfl⟩
  have had_h : record (begin h).st c = some old := miss.had
  have acts : serveActs (begin h).st c cmd.permit = true := by
    refine serveActs_of_stands (e := e) ?_
    unfold ServeStands
    rw [show (begin h).st.svc = s.svc from miss.svc, show entryOf (begin h).st c = entryOf s c from entryOf_of_acct miss.acct c]
    exact stands
  have drops : dropCommand (begin h) c cmd = handSheds ⟨reportAlways v.st c (some old) .service, v.nt⟩ := by
    simp only [dropCommand, kind, serveDropped, acts, if_true, had_h, made_v, made_w]
    rfl
  have runs := miss.runs
  rw [miss.dropped slot many, drops, miss.unrenewed (.inr (.inr (by rw [kind]; decide)))] at runs
  obtain ⟨grants, stays, totals, cars, enrols, spaced, away⟩ := paused
  have acct : w.st.acct = s.acct := by rw [made_w]; exact miss.acct
  have sheds : w.nt.sheds = [] := by rw [made_w]; rfl
  have mid : Midway s w.st c := by
    have mid := miss.mid
    rw [made_w]
    exact ⟨⟨mid.fixed, mid.spacing, mid.seq, mid.state, mid.tag, queuedFirst_of_port mid.reports rfl⟩, mid.cancelled⟩
  have had : record w.st c = some old := by rw [made_w]; exact miss.had
  have aside : w.st.svc.setAside.at c = some .dropped := by rw [made_w]; exact setAside_aside _ _ _
  have found : entryOf w.st c = some e := (entryOf_of_acct acct c).trans stands.1
  have designates := designates_of stands.2.1 stands.2.2.1
  have sums : TotalsMatch w.st := by unfold TotalsMatch; rw [acct]; exact totals
  have one : OneEntryPerCar w.st := by unfold OneEntryPerCar; rw [acct]; exact cars
  have awake : old.state ≠ .silent := by rw [serving]; decide
  have away_w : ∀ x ∈ w.st.ret.queue, x.car ≠ c := by
    rw [made_w]
    show ∀ x ∈ h.ret.queue, _
    rw [miss.ret]
    exact away
  have port : PortOnly v.st (reportAlways v.st c (some old) .service) := portOnly_reportAlways _ _ _ _
  have fixed_z : (reportAlways v.st c (some old) .service).fixed = v.st.fixed := closed_reportAlways (closed_fixed _) rfl
  have reports : ∀ new, QueuedFirst s [] v.st → record v.st c = some new →
      CarReported s (complete (handSheds ⟨reportAlways v.st c (some old) .service, v.nt⟩)) c .serving new.state .service none := by
    intro new earlier here
    have queues : reportAlways v.st c (some old) .service = queueReport v.st (carReport v.st c old new .service none) := by
      simp only [reportAlways, here]
    have reported := carReported_queueReport (old := old) (new := new) (c := c) (cause := .service) (decline := none) earlier
    rw [← queues, serving] at reported
    exact carReported_of_report reported
  by_cases stopped : isStopped old = true
  · have freed := releasedBy_undesignate mid had stopped awake found designates one sums
    rw [← made_v] at freed
    have calm : Calm v.st := calm_of_spaced freed.mid.state freed.mid.fixed freed.mid.spacing grants stays spaced
    have unshed : Unshed v.st c := fun x here => by rw [freed.entry] at here; cases here
    have outcome := outcome_of_report (nt := v.nt) port fixed_z (.inr unshed) calm
    have had_t := (outcome.record_of_not_queued (by rw [freed.ret]; exact away_w)).trans freed.record
    obtain ⟨settings, host, cap⟩ := kept_of_fixed_eq (outcome.fixed.trans freed.mid.fixed)
    refine ⟨_, runs, settings, host, cap, congrArg (Option.map (·.attempts)) had_t, fun _ still => ⟨?_, reports _ freed.mid.reports freed.record⟩, fun ⟨m, motion, moves⟩ => ?_⟩
    · have still_w : NotRisen w.st := by
        unfold NotRisen
        rw [made_w]
        show h.cap.c ≤ h.svc.lastC ∧ h.cap.sink ≤ h.svc.lastS
        rw [miss.svc, miss.mid.cap]
        exact still
      exact (released_of_outcome freed outcome away_w acct still_w aside).1
    · rw [isStopped, motion, beq_iff_eq] at stopped
      exact absurd (Option.some.inj stopped) moves
  · have out := countedOut_undesignate mid had (Bool.not_eq_true _ ▸ stopped) awake found designates sums enrols
      (by rcases grants with is | is <;> rw [is] <;> rfl)
    rw [← made_v] at out
    have calm : Calm v.st := calm_of_spaced (by rw [out.plan]; exact mid.state) out.fixed (by rw [out.ret]; exact mid.spacing) grants stays spaced
    have outcome := outcome_of_report (nt := v.nt) (c := c) port fixed_z (.inl (out.sheds.trans sheds)) calm
    obtain ⟨settings, host, cap⟩ := kept_of_fixed_eq (outcome.fixed.trans out.fixed)
    obtain ⟨ended, had_t⟩ := stoppedForCount_of_outcome out outcome away_w acct aside
    refine ⟨_, runs, settings, host, cap, congrArg (Option.map (·.attempts)) had_t, fun motion => ?_, fun _ => ⟨ended, reports _ out.reports out.record⟩⟩
    exact absurd (by rw [isStopped, motion]; rfl) stopped

end

/-- Settles O26: the exchange ended (`Missed`), the command meets the slot, or its drop's own rule. -/
theorem missedCommands : Obligations.MissedCommands := by
  unfold Obligations.MissedCommands
  intro s k order c cmd old out link enrols had contact short
  have miss := missed order out link had short
  refine ⟨fun paused => ⟨fun newer slot => missed_superseded miss paused slot, fun slot few => missed_again miss paused slot few, fun slot many =>
    ⟨fun kind => missed_discarded miss paused slot many kind, fun kind => missed_stop miss paused slot many kind,
      fun kind idle parkOut none _ => missed_park miss paused slot many kind idle parkOut none,
      fun e kind serving stands => missed_serve miss paused slot many kind serving stands⟩⟩,
    fun watching util kind many slot => missed_handBack miss watching util kind slot many enrols contact⟩

end Sys2Proof.Proofs.Cars
end
section
/-! PROOFS. READMIT of a SILENT car (R50) in a state that R131 and R144 exclude: the car waits in the queue although it is HELD. -/

namespace Sys2Proof.Proofs.Cars

open Sys2Proof.Machine Sys2Proof.Safety

/-- A HELD car that is SILENT. -/
def strayRecord : CarRecord := { CarRecord.initial with state := .held, linkStatus := .silent }

/-- RETURN with a set ONLINE and RETX active, and car 1 HELD, SILENT and yet in the return queue. -/
def strayed : State :=
  { State.reset with
    setup := { Setup.empty with profiles := Setup.empty.profiles.put 0 { CarProfile.defaults with enrolled := true } }
    cars := State.reset.cars.put 0 (some strayRecord)
    lines := State.reset.lines.put retxLine ⟨some .active, none, none, none, none, 0, 0⟩
    cap := { State.reset.cap with sets := State.reset.cap.sets.put 0 ⟨100, .online⟩ }
    plan := { State.reset.plan with state := .returning }
    ret := { State.reset.ret with queue := [⟨0, 1, false, true, 0, 0⟩] } }

/-- The state of car 1 after a command. -/
def firstCarAfter (o : Host.Outcome State Fault Refusal) : Option CarState :=
  match o with
  | .next t => stateOf t 0
  | _ => none

theorem strayed_readmitted : firstCarAfter (exec (.readmit 1 (.fields 1)) strayed) = some .idle := by decide +kernel

/-- Refutes O27: READMIT takes the SILENT car to ABSENT, but the exit to RESTORING that RETX holds open is taken at the completion of the
same event, and its entry actions (R125) make every car in the queue IDLE with HOLD. The statement names no premise that keeps a HELD car
out of the queue. -/
theorem not_holdOutFlagWritten : ¬ Obligations.HoldOutFlagWritten := by
  unfold Obligations.HoldOutFlagWritten
  intro holds
  obtain ⟨_, t, new, runs, _, _, had, _, _, _, _, _, _, _, acts⟩ :=
    holds strayed 1 0 strayRecord (by unfold Taking; decide +kernel) (by decide) (by decide +kernel) (by decide +kernel)
  have absent : new.state = .absent := (acts (.inl rfl)).1 rfl
  have idle : stateOf t 0 = some .idle := by
    have after := strayed_readmitted
    rw [show exec (.readmit 1 (.fields 1)) strayed = .next t from runs] at after
    exact after
  rw [stateOf, had] at idle
  exact absurd (absent.symm.trans (Option.some.inj idle)) (by decide)

end Sys2Proof.Proofs.Cars
end
section
/-! PROOFS. A new entry that fits (R93, R100): an event of the account that sheds nothing and reports nothing; and a run started on it
(R138, R142). -/

namespace Sys2Proof.Proofs.Grants

open Sys2Proof.Machine Sys2Proof.Safety Sys2Proof.Proofs.Upkeep Sys2Proof.Proofs.IndicationLines Sys2Proof.Proofs.Ends
  Sys2Proof.Proofs.Account Sys2Proof.Proofs.Capacity Sys2Proof.Proofs.Cars Sys2Proof.Proofs.Shedding

/-! ## The account at ease -/

/-- The account without overcommit and with no shedding run exhausted. -/
def atEase (a : Machine.Account) : Machine.Account :=
  { a with drawOver := false, regenOver := false, drawExhausted := false, regenExhausted := false }

/-- No overcommit stands (R100). -/
def NoOvercommit (s : State) : Prop := s.acct.drawOver = false ∧ s.acct.regenOver = false

/-- An event that leaves both totals within their limits, where no overcommit stood: nothing is shed and nothing reported (R100, R103). -/
theorem settleAccount_of_calm {w : Work} (draw : w.st.acct.kd ≤ w.st.cap.c) (regen : w.st.acct.kr ≤ w.st.cap.sink)
    (clear : NoOvercommit w.st) : settleAccount w false = w.up (fun s => s.setAcct (atEase s.acct)) := by
  have flag_d : (flaggedWork w).st.acct.drawOver = false := decide_eq_false (Nat.not_lt.2 draw)
  have flag_r : (flaggedWork w).st.acct.regenOver = false := decide_eq_false (Nat.not_lt.2 regen)
  have flagged : flaggedWork w = w.up (fun s => s.setAcct { s.acct with drawOver := false, regenOver := false }) := by
    show (⟨w.st.setAcct (w.st.acct.flagged w.st.cap.c w.st.cap.sink), w.nt⟩ : Work) = _
    unfold Account.flagged
    rw [decide_eq_false (Nat.not_lt.2 draw), decide_eq_false (Nat.not_lt.2 regen)]
    rfl
  have first : shedDraw (flaggedWork w) = (flaggedWork w, noRun) := by simp [shedDraw, flag_d]
  have second : shedRegen (flaggedWork w) = (flaggedWork w, noRun) := by simp [shedRegen, flag_r]
  have both : shedBoth w = flaggedWork w := by
    unfold shedBoth
    rw [first]
    exact congrArg Prod.fst second
  have runs : runsOf w = (noRun, noRun) := by
    unfold runsOf
    rw [first]
    exact congrArg (fun x => (noRun, x.2)) second
  have noted : notedState w = w.st.setAcct (atEase w.st.acct) := by
    unfold notedState
    rw [both, runs, flagged]
    rfl
  have alerted : alertedState w = w.st.setAcct (atEase w.st.acct) := by
    unfold alertedState
    rw [noted, runs]
    have quiet : alertCauses w.st.acct (w.st.setAcct (atEase w.st.acct)).acct noRun noRun = [] := by
      simp [alertCauses, clear.1, clear.2, noRun, atEase]
    rw [quiet]
    rfl
  have offered : offeredState w = w.st.setAcct (atEase w.st.acct) := by
    unfold offeredState
    rw [alerted]
    exact if_neg (by simp [atEase])
  rw [settleAccount_eq, if_neg (by decide), offered, both]
  rfl

/-- The entry as the table takes it in (R91). -/
def taken (a : Machine.Account) (e : Entry) : Entry := { e with permit := takenPermit a }

/-- A new entry within both limits: appended, with its permit number, and nothing else of the state touched (R93). -/
theorem enterEntry_of_fits {w : Work} {e : Entry} (free : entryOf w.st e.car = none) (draw : w.st.acct.kd + e.draw ≤ w.st.cap.c)
    (regen : w.st.acct.kr + e.regen ≤ w.st.cap.sink) (clear : NoOvercommit w.st) :
    enterEntry w e = w.up (fun s => s.setAcct (atEase (s.acct.add e))) := by
  unfold enterEntry
  rw [if_neg (by rw [free]; decide)]
  exact settleAccount_of_calm (w := w.up (fun s => s.setAcct (s.acct.add e))) draw regen clear

/-! ## A run started -/

/-- The state in which a run has been started for a car (R138, R142). -/
structure Started (s t : State) (c : CarId) (f : RunFigures) (e : Entry) : Prop where
  acct : t.acct = atEase (s.acct.add (returnEntry s c f (deadlineFor s c)))
  entry : e = taken s.acct (returnEntry s c f (deadlineFor s c))
  fixed : t.fixed = s.fixed
  hist : t.hist = s.hist
  plan : t.plan = s.plan
  svc : t.svc = s.svc
  ret : t.ret = s.ret
  record : record t c = (record s c).map (CarRecord.goTo .starting)
  others : ∀ d, d ≠ c → Machine.record t d = Machine.record s d

theorem started_startRun {w : Work} {c : CarId} {f : RunFigures} (free : entryOf w.st c = none) (draw : w.st.acct.kd + f.startDraw ≤ w.st.cap.c)
    (regen : w.st.acct.kr + f.regen ≤ w.st.cap.sink) (clear : NoOvercommit w.st) :
    Started w.st (startRun w c f).st c f (taken w.st.acct (returnEntry w.st c f (deadlineFor w.st c))) ∧ (startRun w c f).nt = w.nt := by
  obtain ⟨u, made⟩ : ∃ u, u = w.st.setAcct (atEase (w.st.acct.add (returnEntry w.st c f (deadlineFor w.st c)))) := ⟨_, rfl⟩
  have entered : enterEntry w (returnEntry w.st c f (deadlineFor w.st c)) = ⟨u, w.nt⟩ := by
    rw [enterEntry_of_fits (e := returnEntry w.st c f (deadlineFor w.st c)) free draw regen clear, made]
    rfl
  obtain ⟨p, placed⟩ : ∃ p, p = placeCommand u c .runTo (some (profile u c).recallFloor) ((entryOf u c).map (·.permit)) := ⟨_, rfl⟩
  have runs : startRun w c f = ⟨reportCar (moveCar p c .starting) c (record u c) .grant none, w.nt⟩ := by
    unfold startRun
    rw [entered, placed]
    rfl
  have link : LinkOnly u p := by rw [placed]; exact linkOnly_placeCommand _ _ _ _ _
  have port := portOnly_reportCar (moveCar p c .starting) c (record u c) .grant none
  have side : CarSide u (reportCar (moveCar p c .starting) c (record u c) .grant none) :=
    ((CarSide.of_linkOnly link).trans (Cars.carSide_moveCar _ _ _)).trans (.of_portOnly port)
  have had : ∀ d, record p d = record w.st d := fun d => by
    rw [record_of_linkOnly link, made]
    rfl
  rw [runs]
  refine ⟨⟨by rw [side, made]; rfl, rfl, ?_, by rw [side, made]; rfl, by rw [side, made]; rfl, by rw [side, made]; rfl, by rw [side, made]; rfl, ?_,
    fun d other => ?_⟩, rfl⟩
  · have kept : u.fixed = w.st.fixed := by rw [made]; rfl
    exact closed_reportCar (closed_fixed _) (closed_moveCar (closed_fixed _) (placed ▸ closed_placeCommand (closed_fixed _) kept))
  · rw [record_reportCar, record_moveCar_same, had]
  · rw [record_reportCar, record_moveCar_other _ _ other, had]

theorem Started.noOvercommit {s t : State} {c : CarId} {f : RunFigures} {e : Entry} (h : Started s t c f e) : NoOvercommit t := by
  unfold NoOvercommit
  rw [h.acct]
  exact ⟨rfl, rfl⟩

theorem Started.entries {s t : State} {c : CarId} {f : RunFigures} {e : Entry} (h : Started s t c f e) : t.acct.entries = s.acct.entries ++ [e] := by
  rw [h.acct, h.entry]
  rfl

theorem Started.kd {s t : State} {c : CarId} {f : RunFigures} {e : Entry} (h : Started s t c f e) : t.acct.kd = s.acct.kd + f.startDraw := by
  rw [h.acct]
  rfl

theorem Started.kr {s t : State} {c : CarId} {f : RunFigures} {e : Entry} (h : Started s t c f e) : t.acct.kr = s.acct.kr + f.regen := by
  rw [h.acct]
  rfl

/-! ## The spacing expiry (R139) -/

/-- The state once the spacing timer has stopped. -/
def unspaced (s : State) : State := s.setRet { s.ret with spacing := none }

/-- The spacing expiry's event, when no exit of the plan state is open: the Return Sequencer's work, then the Service Selector's. -/
theorem exec_spacingExpiry {s : State} {expiry : Time} (runs : s.ret.spacing = some expiry) (due : Due s.time expiry)
    (exits : planExit (unspaced s) = none) {v x : Work} (sequencer : sequencerWork (begin (unspaced s)).noteBoth = v) (notes : v.nt.ss = true)
    (selector : selectorWork v = x) :
    ∃ t, exec .spacingExpiry s = .next t ∧ t = { x.st with link := t.link, inds := t.inds } ∧ t.link = (arbiters x.st).link := by
  have grants : grantWork (begin (unspaced s)).noteBoth = x := by
    unfold grantWork
    rw [planRun_of_noExit (w := (begin (unspaced s)).noteBoth) exits]
    show (if (sequencerWork (begin (unspaced s)).noteBoth).nt.ss then selectorWork (sequencerWork (begin (unspaced s)).noteBoth)
      else sequencerWork (begin (unspaced s)).noteBoth) = x
    rw [sequencer, if_pos notes, selector]
  refine ⟨complete (begin (unspaced s)).noteBoth, ?_, ?_, ?_⟩
  · show execSpacingExpiry s = _
    rw [execSpacingExpiry, if_pos (by rw [runs]; exact timerDue_of_due due)]
    rfl
  · rw [complete, completeWith, grants]
    exact arbiters_driven x.st none
  · rw [complete, completeWith, grants, arbiters_driven]
    rfl

theorem settled_iff (s : State) : settled s = true ↔ s.cap.settle = none := by simp [settled]

end Sys2Proof.Proofs.Grants
end
section
/-! PROOFS. The spacing expiry in PACED mode (R136 to R138): the walk along the queue, and the run it grants or does not. -/

namespace Sys2Proof.Proofs.Grants

open Sys2Proof.Machine Sys2Proof.Safety Sys2Proof.Proofs.Upkeep Sys2Proof.Proofs.IndicationLines Sys2Proof.Proofs.Ends
  Sys2Proof.Proofs.Account Sys2Proof.Proofs.Capacity Sys2Proof.Proofs.Cars Sys2Proof.Proofs.Shedding Sys2Proof.Proofs.Pause

/-! ## Figures and admission -/

theorem figuresFor_of {s : State} {c : CarId} {f : RunFigures} (figures : FiguresOf s c f) : figuresFor s c = f := by
  obtain ⟨old, floor, had, at_floor, is⟩ := figures
  simp [figuresFor, recallRun, had, at_floor, is]

theorem admitted_iff {s : State} (settled : s.cap.settle = none) (clear : NoOvercommit s) (c : CarId) (f : RunFigures) :
    (admitRefusal s c f.startDraw f.regen).isNone = true ↔ RunFits s c f := by
  have now : Machine.settled s = true := (settled_iff s).2 settled
  have eased : overcommitted s = false := by simp [overcommitted, clear.1, clear.2]
  unfold admitRefusal RunFits
  cases entryOf s c with
  | some e => simp
  | none =>
    simp only [now, eased, Option.isSome_none, Bool.not_true, Bool.false_eq_true, if_false, true_and, ← Nat.not_lt]
    split
    · simp_all
    · split <;> simp_all

/-! ## The walk (R137) -/

/-- An item that the walk passes: refused, and below the pass limit. -/
def Passed (s : State) (y : QueueItem) : Prop :=
  y.passed < s.setup.limits.passLimit ∧ ∃ g, FiguresOf s y.car g ∧ ¬ RunFits s y.car g

theorem walk_of_passed {s : State} (settled : s.cap.settle = none) (clear : NoOvercommit s) {y : QueueItem} (passed : Passed s y) (tries : Nat)
    (rest : List QueueItem) : walk s (tries + 1) (y :: rest) = walk s tries rest := by
  obtain ⟨below, g, figures, refused⟩ := passed
  have not_admitted : ¬ (admitRefusal s y.car g.startDraw g.regen).isNone = true := fun is => refused ((admitted_iff settled clear _ _).1 is)
  simp only [walk, figuresFor_of figures, not_admitted, Nat.not_le.2 below, if_false, Bool.false_eq_true]

theorem walk_passes {s : State} (settled : s.cap.settle = none) (clear : NoOvercommit s) (rest : List QueueItem) :
    ∀ {ahead : List QueueItem} {tries : Nat}, (∀ y ∈ ahead, Passed s y) → ahead.length ≤ tries →
      walk s tries (ahead ++ rest) = walk s (tries - ahead.length) rest
  | [], _, _, _ => rfl
  | y :: ahead, 0, _, room => absurd room (by simp)
  | y :: ahead, tries + 1, passed, room => by
    rw [List.cons_append, walk_of_passed settled clear (passed y List.mem_cons_self),
      walk_passes settled clear rest (fun z mem => passed z (List.mem_cons_of_mem _ mem)) (by simpa using room)]
    simp

theorem walk_of_fits {s : State} (settled : s.cap.settle = none) (clear : NoOvercommit s) {x : QueueItem} {f : RunFigures}
    (figures : FiguresOf s x.car f) (fits : RunFits s x.car f) (tries : Nat) (rest : List QueueItem) :
    walk s (tries + 1) (x :: rest) = some x := by
  simp only [walk, figuresFor_of figures, (admitted_iff settled clear _ _).2 fits, if_true]

/-- The walk ends at a refused item that has reached the pass limit, is the last to be tried, or ends the queue. -/
theorem walk_ends {s : State} (settled : s.cap.settle = none) (clear : NoOvercommit s) {last : QueueItem} {g : RunFigures}
    (figures : FiguresOf s last.car g) (refused : ¬ RunFits s last.car g) {tries : Nat} {rest : List QueueItem}
    (stops : s.setup.limits.passLimit ≤ last.passed ∨ tries = 0 ∨ rest = []) : walk s (tries + 1) (last :: rest) = none := by
  have not_admitted : ¬ (admitRefusal s last.car g.startDraw g.regen).isNone = true := fun is => refused ((admitted_iff settled clear _ _).1 is)
  simp only [walk, figuresFor_of figures, not_admitted, if_false, Bool.false_eq_true]
  split
  · rfl
  · rename_i below
    rcases stops with reached | rfl | rfl
    · exact absurd reached below
    · simp [walk]
    · cases tries <;> simp [walk]

theorem grantedFrom_append {c : CarId} {x : QueueItem} {behind : List QueueItem} (car : x.car = c) : ∀ {ahead : List QueueItem},
    (∀ y ∈ ahead, y.car ≠ c) → grantedFrom c (ahead ++ x :: behind) = ahead.map (fun y => { y with passed := min 7 (y.passed + 1) }) ++ behind
  | [], _ => by simp [grantedFrom, car]
  | y :: ahead, away => by
    have other : (y.car == c) = false := beq_eq_false_iff_ne.2 (away y List.mem_cons_self)
    rw [List.cons_append, grantedFrom, other, grantedFrom_append car fun z mem => away z (List.mem_cons_of_mem _ mem)]
    rfl

/-! ## The event -/

/-- The spacing timer stops, and nothing is granted. -/
structure Ungranted (s t : State) : Prop where
  runs : exec .spacingExpiry s = .next t
  settings : SettingsKept s t
  host : HostSideKept s t
  cap : t.cap = s.cap
  cars : t.cars = s.cars
  acct : t.acct = s.acct
  ret : t.ret = { s.ret with spacing := none }
  svc : t.svc = s.svc
  plan : t.plan = s.plan
  hist : t.hist = s.hist

theorem planExit_unspaced {s : State} (grants : Granting s) (stays : GeneratorStays s)
    (busy : s.plan.state = .service ∨ s.ret.queue ≠ [] ∨ s.ret.group ≠ []) : planExit (unspaced s) = none := by
  refine planExit_of_granting (s := unspaced s) grants stays fun returning ⟨queue, group, _⟩ => ?_
  rcases busy with service | waits | staged
  · exact absurd (service.symm.trans returning) (by decide)
  · exact waits queue
  · exact staged group

theorem ungranted {s : State} {expiry : Time} (runs : s.ret.spacing = some expiry) (due : Due s.time expiry)
    (exits : planExit (unspaced s) = none) (sequencer : sequencerWork (begin (unspaced s)).noteBoth = (begin (unspaced s)).noteBoth)
    (selector : selectorWork (begin (unspaced s)).noteBoth = (begin (unspaced s)).noteBoth) : ∃ t, Ungranted s t := by
  obtain ⟨t, exec, leaves, _⟩ := exec_spacingExpiry runs due exits sequencer rfl selector
  have same : t = { unspaced s with link := t.link, inds := t.inds } := leaves
  obtain ⟨settings, host, cap⟩ := kept_of_fixed_eq (s := s) (t := t) (by rw [same]; rfl)
  exact ⟨t, exec, settings, host, cap, by rw [same]; rfl, by rw [same]; rfl, by rw [same]; rfl, by rw [same]; rfl, by rw [same]; rfl, by rw [same]; rfl⟩

theorem sequencerWork_paced {w : Work} (grants : Granting w.st) (paced : w.st.setup.limits.returnMode = .paced) :
    sequencerWork w = grantAttempt w := by
  simp only [sequencerWork, granting_eq_true grants, if_true, paced]

theorem selectorWork_of_not {w : Work} (not : maySelect w.st = false) : selectorWork w = w := by
  simp [selectorWork, not]

theorem maySelect_of_unsettled {s : State} (running : s.cap.settle ≠ none) : maySelect s = false := by
  have now : settled s = false := by rw [← Bool.not_eq_true, settled_iff]; exact running
  simp [maySelect, now]

theorem maySelect_of_waiting {s : State} (waits : s.ret.queue ≠ []) : maySelect s = false := by
  have full : s.ret.queue.isEmpty = false := by rw [← Bool.not_eq_true, List.isEmpty_iff]; exact waits
  simp [maySelect, full]

/-- While the plant is unsettled nothing is granted (R136). -/
theorem ungranted_of_unsettled {s : State} {expiry : Time} (runs : s.ret.spacing = some expiry) (due : Due s.time expiry) (grants : Granting s)
    (stays : GeneratorStays s) (paced : s.setup.limits.returnMode = .paced) (running : s.cap.settle ≠ none)
    (busy : s.plan.state = .service ∨ s.ret.queue ≠ [] ∨ s.ret.group ≠ []) : ∃ t, Ungranted s t := by
  refine ungranted runs due (planExit_unspaced grants stays busy) ?_ (selectorWork_of_not (maySelect_of_unsettled running))
  have now : settled (unspaced s) = false := by rw [← Bool.not_eq_true, settled_iff]; exact running
  rw [sequencerWork_paced (w := (begin (unspaced s)).noteBoth) grants paced, grantAttempt]
  exact if_neg (by simp only [mayAttempt, begin_st, Work.noteBoth_st, now, Bool.and_false, Bool.false_and]; decide)

theorem mayAttempt_unspaced {s : State} (opens : AttemptOpen s) (waits : s.ret.queue ≠ []) : mayAttempt (unspaced s) = true := by
  obtain ⟨grants, _, now, draw, regen, starts⟩ := opens
  have granted : granting (unspaced s) = true := granting_eq_true (s := unspaced s) grants
  have is_settled : settled (unspaced s) = true := (settled_iff _).2 now
  have eased : overcommitted (unspaced s) = false := by
    show (s.acct.drawOver || s.acct.regenOver) = false
    rw [draw, regen]
    rfl
  have room : decide (startingCount (unspaced s).acct < (unspaced s).setup.limits.startSlots) = true := decide_eq_true starts
  have full : (unspaced s).ret.queue.isEmpty = false := by rw [← Bool.not_eq_true, List.isEmpty_iff]; exact waits
  have stopped : (unspaced s).ret.spacing.isNone = true := rfl
  simp only [mayAttempt, granted, is_settled, eased, room, full, stopped, Bool.not_false, Bool.and_self]

/-- The walk admits no item (R137). -/
theorem ungranted_of_walk {s : State} {expiry : Time} (runs : s.ret.spacing = some expiry) (due : Due s.time expiry) (grants : Granting s)
    (stays : GeneratorStays s) (paced : s.setup.limits.returnMode = .paced) (waits : s.ret.queue ≠ [])
    (walks : walk (unspaced s) (1 + s.setup.limits.lookahead) s.ret.queue = none) : ∃ t, Ungranted s t := by
  refine ungranted runs due (planExit_unspaced grants stays (.inr (.inl waits))) ?_ (selectorWork_of_not (maySelect_of_waiting waits))
  rw [sequencerWork_paced (w := (begin (unspaced s)).noteBoth) grants paced, grantAttempt]
  split
  · have none : walk (begin (unspaced s)).noteBoth.st (1 + (begin (unspaced s)).noteBoth.st.setup.limits.lookahead)
        (begin (unspaced s)).noteBoth.st.ret.queue = none := walks
    rw [none]
  · rfl

/-- The spacing timer stops, and a run is granted (R138). -/
structure PacedGrant (s t : State) (x : QueueItem) (old : CarRecord) (f : RunFigures) (e : Entry) : Prop where
  runs : exec .spacingExpiry s = .next t
  settings : SettingsKept s t
  host : HostSideKept s t
  cap : t.cap = s.cap
  plan : t.plan = s.plan
  entries : t.acct.entries = s.acct.entries ++ [e]
  entry : e = taken s.acct (returnEntry s x.car f (deadlineFor s x.car))
  kd : t.acct.kd = s.acct.kd + f.startDraw
  kr : t.acct.kr = s.acct.kr + f.regen
  ret : t.ret = { s.ret with
    queue := grantedFrom x.car s.ret.queue, spacing := some (s.time + BitVec.ofNat 32 s.setup.limits.spacing) }
  record : record t x.car = some (old.goTo .starting)
  others : ∀ d, d ≠ x.car → Machine.record t d = Machine.record s d

theorem pacedGrant {s : State} {expiry : Time} (runs : s.ret.spacing = some expiry) (due : Due s.time expiry)
    (paced : s.setup.limits.returnMode = .paced) (opens : AttemptOpen s) {x : QueueItem} {f : RunFigures} {old : CarRecord}
    (waits : s.ret.queue ≠ []) (walks : walk (unspaced s) (1 + s.setup.limits.lookahead) s.ret.queue = some x) (figures : FiguresOf s x.car f)
    (fits : RunFits s x.car f) (had : record s x.car = some old) : ∃ t e, PacedGrant s t x old f e := by
  obtain ⟨free, draw, regen⟩ := fits
  have attempt := mayAttempt_unspaced opens waits
  obtain ⟨grants, stays, _, no_draw, no_regen, _⟩ := opens
  obtain ⟨w, made_w⟩ : ∃ w : Work, w = (begin (unspaced s)).noteBoth.up (fun s => setQueue s (grantedFrom x.car s.ret.queue)) := ⟨_, rfl⟩
  have figures' : figuresFor (unspaced s) x.car = f := figuresFor_of (s := unspaced s) figures
  have granted : grantAttempt (begin (unspaced s)).noteBoth = ((startRun w x.car f).up startSpacing).noteSs := by
    have walks' : walk (begin (unspaced s)).noteBoth.st (1 + (begin (unspaced s)).noteBoth.st.setup.limits.lookahead)
        (begin (unspaced s)).noteBoth.st.ret.queue = some x := walks
    rw [grantAttempt, if_pos (show mayAttempt (begin (unspaced s)).noteBoth.st = true from attempt), walks']
    dsimp only
    rw [show figuresFor (begin (unspaced s)).noteBoth.st x.car = f from figures', made_w]
  obtain ⟨started, notes⟩ := started_startRun (w := w) (c := x.car) (f := f) (by rw [made_w]; exact free) (by rw [made_w]; exact draw)
    (by rw [made_w]; exact regen) (by rw [made_w]; exact ⟨no_draw, no_regen⟩)
  obtain ⟨v, made_v⟩ : ∃ v : Work, v = ((startRun w x.car f).up startSpacing).noteSs := ⟨_, rfl⟩
  have state_v : v.st = startSpacing (startRun w x.car f).st := by rw [made_v]; rfl
  have spaced : v.st.ret.spacing ≠ none := by rw [state_v]; exact Option.some_ne_none _
  obtain ⟨t, exec, leaves, _⟩ := exec_spacingExpiry runs due (planExit_unspaced grants stays (.inr (.inl waits)))
    ((sequencerWork_paced (w := (begin (unspaced s)).noteBoth) grants paced).trans (granted.trans made_v.symm)) (by rw [made_v]; rfl)
    (selectorWork_of_spaced spaced)
  obtain ⟨u, made_u⟩ : ∃ u, u = (startRun w x.car f).st := ⟨_, rfl⟩
  rw [← made_u] at started state_v
  have leaves' : t = { startSpacing u with link := t.link, inds := t.inds } := by rw [state_v] at leaves; exact leaves
  have fixed : t.fixed = s.fixed := by
    have kept : w.st.fixed = s.fixed := by rw [made_w]; rfl
    rw [← kept, ← started.fixed, leaves']
    rfl
  have cars : ∀ d, Machine.record t d = Machine.record u d := fun d => by
    unfold Machine.record
    rw [leaves']
    rfl
  have had_w : ∀ d, Machine.record w.st d = Machine.record s d := fun d => by rw [made_w]; rfl
  have acct : t.acct = u.acct := by rw [leaves']; rfl
  obtain ⟨settings, host, cap⟩ := kept_of_fixed_eq fixed
  have acct_w : w.st.acct = s.acct := by rw [made_w]; rfl
  refine ⟨t, taken w.st.acct (returnEntry w.st x.car f (deadlineFor w.st x.car)), exec, settings, host, cap, ?_, ?_, ?_, ?_, ?_, ?_, ?_, fun d other => ?_⟩
  · rw [leaves']
    exact started.plan.trans (by rw [made_w]; rfl)
  · rw [acct, started.entries, acct_w]
  · rw [made_w]; rfl
  · rw [acct, started.kd, acct_w]
  · rw [acct, started.kr, acct_w]
  · have setup : u.setup = s.setup := congrArg Fixed.setup (started.fixed.trans (by rw [made_w]; rfl : w.st.fixed = s.fixed))
    have time : u.time = s.time := congrArg Fixed.time (started.fixed.trans (by rw [made_w]; rfl : w.st.fixed = s.fixed))
    rw [leaves']
    show ({ u.ret with spacing := some (after u u.setup.limits.spacing) } : Returns) = _
    rw [started.ret, setup, made_w, after, time]
    rfl
  · rw [cars, started.record, had_w, had]
    rfl
  · rw [cars, started.others d other, had_w]

end Sys2Proof.Proofs.Grants
end
section
/-! PROOFS. The spacing expiry: the PACED grant of the queue's head (R136 to R138) and the selection pass (R156, R157). -/

namespace Sys2Proof.Proofs.Grants

open Sys2Proof.Machine Sys2Proof.Safety Sys2Proof.Proofs.Upkeep Sys2Proof.Proofs.IndicationLines Sys2Proof.Proofs.Ends
  Sys2Proof.Proofs.Account Sys2Proof.Proofs.Capacity Sys2Proof.Proofs.Cars Sys2Proof.Proofs.Shedding Sys2Proof.Proofs.Pause

/-! ## The deadline (R138) -/

/-- A quotient rounded up is the quotient of the sum with one less than the divisor. -/
theorem divUp_hundred (n : Nat) : divUp n 100 = (n + 99) / 100 := by
  unfold divUp
  split <;> omega

theorem deadlineFor_of {s : State} {c : CarId} {old : CarRecord} {floor : Nat} (had : record s c = some old) (at_floor : old.floor = some floor) :
    deadlineFor s c = s.time + BitVec.ofNat 32 (min 600000
      ((((profile s c).startWindow + (max floor (profile s c).recallFloor - min floor (profile s c).recallFloor) * (profile s c).floorTime
        + (profile s c).doorTime) * (100 + s.setup.limits.margin) + 99) / 100)) := by
  have floors : floorsToRecall s c = max floor (profile s c).recallFloor - min floor (profile s c).recallFloor := by
    simp [floorsToRecall, had, at_floor]
  rw [deadlineFor, after, runAllowance, floors, divUp_hundred]
  rfl

/-! ## Candidates in rank order (R157) -/

section
variable {α : Type}

theorem pairwise_insertBy_rank {key : α → Nat} (x : α) : ∀ {l : List α}, l.Pairwise (fun a b => key a ≤ key b) →
    (insertBy (fun a b => decide (key a ≤ key b)) x l).Pairwise (fun a b => key a ≤ key b)
  | [], _ => List.pairwise_singleton _ _
  | y :: ys, sorted => by
    obtain ⟨below, tail⟩ := List.pairwise_cons.1 sorted
    unfold insertBy
    split
    case isTrue first =>
      have le : key x ≤ key y := of_decide_eq_true first
      refine List.pairwise_cons.2 ⟨fun z mem => ?_, sorted⟩
      rcases List.mem_cons.1 mem with rfl | mem
      · exact le
      · exact le.trans (below z mem)
    case isFalse later =>
      have le : key y ≤ key x := by
        have := of_decide_eq_false (Bool.not_eq_true _ ▸ later)
        omega
      refine List.pairwise_cons.2 ⟨fun z mem => ?_, pairwise_insertBy_rank x tail⟩
      rcases List.mem_cons.1 ((perm_insertBy _ x ys).mem_iff.1 mem) with rfl | mem
      · exact le
      · exact below z mem

theorem pairwise_sortBy_rank {key : α → Nat} : ∀ l : List α, (sortBy (fun a b => decide (key a ≤ key b)) l).Pairwise (fun a b => key a ≤ key b)
  | [] => List.Pairwise.nil
  | x :: xs => pairwise_insertBy_rank x (pairwise_sortBy_rank xs)

/-- In a sorted list a search finds the member that alone has the smallest key of those it could find. -/
theorem find?_of_least {key : α → Nat} {p : α → Bool} {l : List α} (sorted : l.Pairwise (fun a b => key a ≤ key b)) {c : α} (mem : c ∈ l)
    (holds : p c = true) (least : ∀ d ∈ l, d ≠ c → p d = true → key c < key d) : l.find? p = some c := by
  cases found : l.find? p with
  | none => exact absurd holds (List.find?_eq_none.1 found c mem)
  | some d =>
    obtain ⟨is, ahead, behind, split, first⟩ := List.find?_eq_some_iff_append.1 found
    by_cases same : d = c
    · rw [same]
    rw [split] at mem sorted
    rcases List.mem_append.1 mem with earlier | later
    · have not := first c earlier
      rw [holds] at not
      cases not
    · rcases List.mem_cons.1 later with rfl | later
      · exact absurd rfl same
      · have le := (List.pairwise_cons.1 (List.pairwise_append.1 sorted).2.1).1 c later
        exact absurd (least d (by rw [split]; simp) same is) (Nat.not_lt.2 le)

end

theorem candidateFailure_isNone_iff (s : State) (c : CarId) : (candidateFailure s c).isNone = true
    ↔ stateOf s c = some .parked ∧ (profile s c).rank ≠ 0 ∧ s.svc.setAside.at c = none
      ∧ (∃ r, record s c = some r ∧ r.attempts < s.setup.limits.attempts)
      ∧ ∃ b : BankId, (profile s c).bank = b.val + 1 ∧ designatedIn s b < s.svc.counts.at b := by
  have room : bankHasRoom s c = true ↔ ∃ b : BankId, (profile s c).bank = b.val + 1 ∧ designatedIn s b < s.svc.counts.at b := by
    unfold bankHasRoom bankOf
    cases bank : numbered 8 (profile s c).bank with
    | none =>
      refine iff_of_false Bool.false_ne_true fun ⟨b, is, _⟩ => ?_
      rw [MessagePort.numbered_eq_some_iff.2 is] at bank
      cases bank
    | some b =>
      refine decide_eq_true_iff.trans ⟨fun less => ⟨b, MessagePort.numbered_eq_some_iff.1 bank, less⟩, fun ⟨d, is, less⟩ => ?_⟩
      rw [MessagePort.numbered_eq_some_iff.2 is] at bank
      cases bank
      exact less
  have left : (((record s c).map (fun r => decide (s.setup.limits.attempts ≤ r.attempts))).getD true) = false
      ↔ ∃ r, record s c = some r ∧ r.attempts < s.setup.limits.attempts := by
    cases record s c <;> simp
  rw [← room, ← left]
  have aside : s.svc.setAside.at c = none ↔ (s.svc.setAside.at c).isSome = false := by
    rw [← Bool.not_eq_true, Option.not_isSome_iff_eq_none]
  rw [aside]
  unfold candidateFailure
  by_cases parked : stateOf s c = some .parked
  · by_cases zero : (profile s c).rank = 0
    · simp [parked, zero]
    · cases (s.svc.setAside.at c).isSome
      · cases ((record s c).map (fun r => decide (s.setup.limits.attempts ≤ r.attempts))).getD true <;> cases bankHasRoom s c <;>
          simp [parked, zero]
      · simp [parked, zero]
  · simp [parked]

theorem mem_candidates_iff (s : State) (c : CarId) : c ∈ candidates s ↔ Candidate s c := by
  rw [candidates, (perm_sortBy _ _).mem_iff, List.mem_filter, candidateFailure_isNone_iff, enrolledCars, List.mem_filter]
  exact and_congr_left fun _ => ⟨And.right, fun enrols => ⟨mem_indices c, enrols⟩⟩

theorem pairwise_candidates (s : State) : (candidates s).Pairwise (fun x y => (profile s x).rank ≤ (profile s y).rank) :=
  pairwise_sortBy_rank (key := fun c => (profile s c).rank) _

theorem admitted_worst_iff {s : State} (settled : s.cap.settle = none) (clear : NoOvercommit s) (c : CarId) :
    (admitRefusal s c (worstOf s c).draw (worstOf s c).regen).isNone = true ↔ Fits s c ∧ entryOf s c = none := by
  have fits := admitted_iff settled clear c ⟨(worstOf s c).draw, 0, (worstOf s c).regen⟩
  rw [fits]
  exact ⟨fun ⟨free, within⟩ => ⟨within, free⟩, fun ⟨within, free⟩ => ⟨free, within⟩⟩

/-! ## A designation (R157) -/

/-- The entry of a car designated now, in the table. -/
def designated (s : State) (c : CarId) : Entry := taken s.acct (serviceEntry s c (worstOf s c))

/-- The state when a car has been designated. -/
structure Designation (s t : State) (c : CarId) : Prop where
  acct : t.acct = atEase (s.acct.add (serviceEntry s c (worstOf s c)))
  fixed : t.fixed = s.fixed
  plan : t.plan = s.plan
  svc : t.svc = { s.svc with records := s.svc.records.put c (some ⟨(designated s c).permit, s.time, .awaiting⟩) }
  ret : t.ret = { s.ret with spacing := some (s.time + BitVec.ofNat 32 s.setup.limits.spacing) }
  record : record t c = (record s c).map (CarRecord.goTo .serving)
  others : ∀ d, d ≠ c → Machine.record t d = Machine.record s d
  placed : (profile s c).enrolled = true → mayPlace s.plan.state .serve = true → Placed s t c .serve (some (designated s c).permit)
  reported : ∀ old, Machine.record s c = some old → old.state = .parked → CarReported s t c .parked .serving .service none

theorem designation_designate {w : Work} {c : CarId} (free : entryOf w.st c = none) (fits : Fits w.st c) (clear : NoOvercommit w.st) :
    Designation w.st (designate w c).st c := by
  obtain ⟨u, made⟩ : ∃ u, u = w.st.setAcct (atEase (w.st.acct.add (serviceEntry w.st c (worstOf w.st c)))) := ⟨_, rfl⟩
  have entered : enterEntry w (serviceEntry w.st c (worstOf w.st c)) = ⟨u, w.nt⟩ := by
    rw [enterEntry_of_fits (e := serviceEntry w.st c (worstOf w.st c)) free fits.1 fits.2 clear, made]
    rfl
  have holds : entryOf u c = some (designated w.st c) := by
    have same := entryOf_add_same (s := w.st) (e := serviceEntry w.st c (worstOf w.st c)) free
    rw [made]
    exact same
  obtain ⟨v, made_v⟩ : ∃ v, v = u.setSvc
      { u.svc with records := u.svc.records.put c (some ⟨(designated w.st c).permit, u.time, .awaiting⟩) } := ⟨_, rfl⟩
  obtain ⟨p, made_p⟩ : ∃ p, p = placeCommand v c .serve none (some (designated w.st c).permit) := ⟨_, rfl⟩
  obtain ⟨y, made_y⟩ : ∃ y, y = moveCar p c .serving := ⟨_, rfl⟩
  obtain ⟨x, made_x⟩ : ∃ x, x = reportCar y c (record u c) .service none := ⟨_, rfl⟩
  have designates : (designate w c).st = startSpacing x := by
    unfold designate
    rw [entered, made_x, made_y, made_p, made_v]
    dsimp only [Work.up]
    rw [holds]
    rfl
  have link : LinkOnly v p := by rw [made_p]; exact linkOnly_placeCommand _ _ _ _ _
  have port : PortOnly y x := by rw [made_x]; exact portOnly_reportCar _ _ _ _ _
  have side : CarSide v x := by
    refine ((CarSide.of_linkOnly link).trans ?_).trans (.of_portOnly port)
    rw [made_y]
    exact Cars.carSide_moveCar _ _ _
  have had : ∀ d, Machine.record p d = Machine.record w.st d := fun d => by
    rw [record_of_linkOnly link, made_v, made]
    rfl
  have fixed_v : v.fixed = w.st.fixed := by rw [made_v, made]; rfl
  have fixed : x.fixed = w.st.fixed := by
    rw [made_x, made_y, made_p]
    exact closed_reportCar (closed_fixed _) (closed_moveCar (closed_fixed _) (closed_placeCommand (closed_fixed _) fixed_v))
  have setup : x.setup = w.st.setup := congrArg Fixed.setup fixed
  have time : x.time = w.st.time := congrArg Fixed.time fixed
  rw [designates]
  refine ⟨?_, fixed, ?_, ?_, ?_, ?_, fun d other => ?_, fun enrols may => ?_, fun old was parked => ?_⟩
  · show x.acct = _
    rw [side, made_v, made]; rfl
  · show x.plan = _
    rw [side, made_v, made]; rfl
  · show x.svc = _
    rw [side, made_v, made]; rfl
  · show ({ x.ret with spacing := some (after x x.setup.limits.spacing) } : Returns) = _
    rw [after, time, setup, side, made_v, made]; rfl
  · show Machine.record x c = _
    rw [made_x, record_reportCar, made_y, record_moveCar_same, had]
  · show Machine.record x d = _
    rw [made_x, record_reportCar, made_y, record_moveCar_other _ _ other, had]
  · have placed : Placed w.st p c .serve (some (designated w.st c).permit) := by
      rw [made_p]
      exact placed_place (by rw [made_v, made]; exact enrols) (by rw [made_v, made]; exact may) (by rw [made_v, made]; rfl)
        (by rw [made_v, made]; rfl)
    have moved : Placed w.st y c .serve (some (designated w.st c).permit) := by rw [made_y]; exact placed.moveCar .serving
    exact moved.of_link (congrArg (·.slot) (carLink_of_portOnly port c)) (congrArg (·.nextTag) (carLink_of_portOnly port c))
  · have was_u : Machine.record u c = some old := by rw [made]; exact was
    have now : Machine.record y c = some (old.goTo .serving) := by rw [made_y, record_moveCar_same, had, was]; rfl
    have H := closed_queuedFirst w.st []
    have earlier : QueuedFirst w.st [] v := by
      rw [made_v, made]
      exact ⟨[], reportsQueued_refl w.st⟩
    have earlier_y : QueuedFirst w.st [] y := by
      rw [made_y, made_p]
      exact closed_moveCar H (closed_placeCommand H earlier)
    have reported := carReported_reportCar (c := c) (cause := .service) (decline := none) earlier_y (old := old) now
      (.inl (by rw [parked]; show CarState.parked ≠ .serving; decide))
    have queued : CarReported w.st x c .parked .serving .service none := by
      rw [made_x, was_u, ← parked]
      exact reported
    exact queued

/-! ## The selection pass of the spacing expiry -/

section
variable {s : State} (service : s.plan.state = .service) (queue : s.ret.queue = []) (group : s.ret.group = [])
  (no_run : ∀ e ∈ s.acct.entries, e.kind ≠ .returning) (settled : s.cap.settle = none) (clear : NoOvercommit s)

include queue group in
theorem sequencerWork_of_empty {w : Work} (state : w.st = unspaced s) : sequencerWork w = w := by
  have empty : w.st.ret.queue = [] := by rw [state]; exact queue
  have ungrouped : w.st.ret.group = [] := by rw [state]; exact group
  have stays : stage w = w := stage_of_empty empty
  have unready : (readiness w.st).all = false := by simp [Readiness.all, readiness, ungrouped]
  unfold sequencerWork
  split
  · split
    · simp [grantAttempt, mayAttempt, empty]
    · simp [stays, unready]
  · rfl

include service queue group no_run settled clear in
theorem selectorWork_unspaced {w : Work} (state : w.st = unspaced s) : selectorWork w = selectionPass w := by
  have idle : anyReturnEntry (unspaced s) = false := (anyReturnEntry_eq_false_iff (unspaced s)).2 no_run
  have now : Machine.settled (unspaced s) = true := (settled_iff _).2 settled
  have eased : overcommitted (unspaced s) = false := by
    show (s.acct.drawOver || s.acct.regenOver) = false
    rw [clear.1, clear.2]
    rfl
  have serves : (unspaced s).plan.state = .service := service
  have empty : (unspaced s).ret.queue = [] := queue
  have ungrouped : (unspaced s).ret.group = [] := group
  have stopped : (unspaced s).ret.spacing = none := rfl
  have may : maySelect (unspaced s) = true := by simp [maySelect, idle, now, eased, serves, empty, ungrouped, stopped]
  rw [selectorWork, state, if_pos may]

end

/-- The spacing expiry with its selection pass (R156). -/
theorem exec_selection {s : State} {expiry : Time} (runs : s.ret.spacing = some expiry) (due : Due s.time expiry)
    (stays : GeneratorStays s) (service : s.plan.state = .service) (queue : s.ret.queue = []) (group : s.ret.group = [])
    (no_run : ∀ e ∈ s.acct.entries, e.kind ≠ .returning) (settled : s.cap.settle = none) (clear : NoOvercommit s) {x : Work}
    (passes : selectionPass (begin (unspaced s)).noteBoth = x) :
    ∃ t, exec .spacingExpiry s = .next t ∧ t = { x.st with link := t.link, inds := t.inds } ∧ t.link = (arbiters x.st).link :=
  exec_spacingExpiry runs due (planExit_unspaced (.inr service) stays (.inl service)) (sequencerWork_of_empty queue group rfl) rfl
    ((selectorWork_unspaced service queue group no_run settled clear rfl).trans passes)

theorem selectionPass_of_none {w : Work} (settled : w.st.cap.settle = none) (clear : NoOvercommit w.st)
    (none : ∀ d, Candidate w.st d → Fits w.st d → entryOf w.st d ≠ Option.none) : selectionPass w = w := by
  have found : (candidates w.st).find? (fun c => (admitRefusal w.st c (worstOf w.st c).draw (worstOf w.st c).regen).isNone) = Option.none := by
    refine List.find?_eq_none.2 fun d mem admitted => ?_
    obtain ⟨fits, free⟩ := (admitted_worst_iff settled clear d).1 admitted
    exact none d ((mem_candidates_iff _ _).1 mem) fits free
  rw [selectionPass, found]

theorem selectionPass_of_least {w : Work} (settled : w.st.cap.settle = none) (clear : NoOvercommit w.st) {c : CarId}
    (candidate : Candidate w.st c) (fits : Fits w.st c) (free : entryOf w.st c = none)
    (least : ∀ d, d ≠ c → Candidate w.st d → Fits w.st d → entryOf w.st d = none → (profile w.st c).rank < (profile w.st d).rank) :
    selectionPass w = designate w c := by
  have found : (candidates w.st).find? (fun c => (admitRefusal w.st c (worstOf w.st c).draw (worstOf w.st c).regen).isNone) = some c := by
    refine find?_of_least (key := fun c => (profile w.st c).rank) (pairwise_candidates w.st) ((mem_candidates_iff _ _).2 candidate)
      ((admitted_worst_iff settled clear c).2 ⟨fits, free⟩) fun d mem other admitted => ?_
    obtain ⟨fits_d, free_d⟩ := (admitted_worst_iff settled clear d).1 admitted
    exact least d other ((mem_candidates_iff _ _).1 mem) fits_d free_d
  rw [selectionPass, found]

/-! ## The obligation -/

/-- Settles O37: the walk over the queue, the entry appended, the search through the candidates in rank order. -/
theorem spacingExpiryGrants : Obligations.SpacingExpiryGrants := by
  unfold Obligations.SpacingExpiryGrants
  intro s expiry runs due grants stays
  refine ⟨fun paced running busy => ?_, fun paced x rest old floor f settled draw_clear regen_clear starts queue had at_floor free is draw regen => ?_,
    fun service queue group no_run settled draw_clear regen_clear => ⟨fun c candidate fits free least => ?_, fun unfit => ?_⟩⟩
  · obtain ⟨t, h⟩ := ungranted_of_unsettled runs due grants stays paced running busy
    exact ⟨t, h.runs, h.settings, h.host, h.cap, h.cars, h.acct, h.ret, h.svc, h.plan, h.hist⟩
  · have figures : FiguresOf s x.car f := ⟨old, floor, had, at_floor, is⟩
    have fits : RunFits s x.car f := ⟨free, draw, regen⟩
    have walks : walk (unspaced s) (1 + s.setup.limits.lookahead) s.ret.queue = some x := by
      rw [queue, Nat.add_comm]
      exact walk_of_fits (s := unspaced s) settled ⟨draw_clear, regen_clear⟩ figures fits _ _
    obtain ⟨t, e, h⟩ := pacedGrant runs due paced ⟨grants, stays, settled, draw_clear, regen_clear, starts⟩ (by rw [queue]; simp) walks figures
      fits had
    have left : grantedFrom x.car s.ret.queue = rest := by simp [queue, grantedFrom]
    obtain rfl := h.entry
    refine ⟨t, _, _, h.runs, h.settings, h.host, h.cap, h.plan, h.entries, h.kd, h.kr, ?_, ?_, rfl, rfl, rfl, rfl, rfl, rfl, rfl, rfl, rfl,
      ?_, h.record, rfl, rfl, h.others⟩
    · rw [h.ret]; exact left
    · rw [h.ret]
    · exact congrArg some (deadlineFor_of had at_floor)
  · have clear : NoOvercommit (unspaced s) := ⟨draw_clear, regen_clear⟩
    obtain ⟨t, exec, leaves, link⟩ := exec_selection runs due stays service queue group no_run settled ⟨draw_clear, regen_clear⟩
      (selectionPass_of_least (w := (begin (unspaced s)).noteBoth) settled clear candidate fits free least)
    have h := designation_designate (w := (begin (unspaced s)).noteBoth) (c := c) free fits clear
    obtain ⟨enrols, state, _⟩ := candidate
    obtain ⟨x, made⟩ : ∃ x, x = (designate (begin (unspaced s)).noteBoth c).st := ⟨_, rfl⟩
    rw [← made] at leaves link h
    obtain ⟨old, had, parked⟩ : ∃ old, record s c = some old ∧ old.state = .parked := by
      simpa [stateOf, Option.map_eq_some_iff] using state
    have cars : ∀ d, record t d = record x d := fun d => by
      unfold record
      rw [leaves]
    have acct : t.acct = x.acct := by rw [leaves]
    have fixed : t.fixed = s.fixed := by
      rw [leaves]
      exact h.fixed
    obtain ⟨settings, host, cap⟩ := kept_of_fixed_eq fixed
    have may : mayPlace s.plan.state .serve = true := by rw [service]; rfl
    have slotted : Slotted (unspaced s) t c .serve (some (designated (unspaced s) c).permit) :=
      slotted_of_placed (linkEnd_of_arbiters link c) (h.placed enrols may) (congrArg Fixed.setup h.fixed)
    have reported : CarReported s x c .parked .serving .service none := h.reported old had parked
    refine ⟨t, designated (unspaced s) c, old.goTo .serving, exec, settings, host, cap, ?_, ?_, rfl, rfl, rfl, rfl, rfl, rfl, ?_, ?_, ?_,
      slotted, ?_, ?_, ?_, rfl, ?_, fun d other => ?_⟩
    · rw [leaves]; exact h.plan
    · rw [acct, h.acct]; rfl
    · rw [acct, h.acct]; rfl
    · rw [acct, h.acct]; rfl
    · rw [leaves]; exact h.svc
    · rw [leaves]; exact reported
    · rw [leaves]; exact h.ret
    · rw [cars, h.record]
      exact congrArg (Option.map (CarRecord.goTo .serving)) had
    · rw [had]; rfl
    · rw [cars, h.others d other]; rfl
  · obtain ⟨t, exec, leaves, _⟩ := exec_selection runs due stays service queue group no_run settled ⟨draw_clear, regen_clear⟩
      (selectionPass_of_none (w := (begin (unspaced s)).noteBoth) settled ⟨draw_clear, regen_clear⟩ unfit)
    have same : t = { unspaced s with link := t.link, inds := t.inds } := leaves
    obtain ⟨settings, host, cap⟩ := kept_of_fixed_eq (s := s) (t := t) (by rw [same]; rfl)
    exact ⟨t, exec, settings, host, cap, by rw [same]; rfl, by rw [same]; rfl, by rw [same]; rfl, by rw [same]; rfl, by rw [same]; rfl⟩

end Sys2Proof.Proofs.Grants
end
section
/-! PROOFS. The queue as the spacing timer stops: the PACED walk past refused items (R137) and GROUPED staging (R140). -/

namespace Sys2Proof.Proofs.Grants

open Sys2Proof.Machine Sys2Proof.Safety Sys2Proof.Proofs.Upkeep Sys2Proof.Proofs.IndicationLines Sys2Proof.Proofs.Ends
  Sys2Proof.Proofs.Account Sys2Proof.Proofs.Capacity Sys2Proof.Proofs.Cars Sys2Proof.Proofs.Shedding Sys2Proof.Proofs.Pause

/-! ## How many cars are staged -/

/-- Staging takes the cars ahead, which keep within the group size and the step limit, and stops before the rest (R140). -/
theorem stageCount_append {s : State} {g : CarId → RunFigures} {rest : List QueueItem} : ∀ {ahead : List QueueItem} {n d : Nat}, n ≠ 0 →
    (∀ y ∈ ahead ++ rest, figuresFor s y.car = g y.car) →
    (ahead ≠ [] → n + ahead.length ≤ s.setup.limits.groupSize ∧ d + (ahead.map (fun y => (g y.car).startDraw)).sum ≤ s.setup.limits.stepLimit) →
    (∀ y more, rest = y :: more → s.setup.limits.groupSize ≤ n + ahead.length
      ∨ s.setup.limits.stepLimit < d + (ahead.map (fun y => (g y.car).startDraw)).sum + (g y.car).startDraw) →
    stageCount s n d (ahead ++ rest) = ahead.length
  | [], n, d, some_staged, figures, _, stops => by
    cases rest with
    | nil => rfl
    | cons y more =>
      have is : figuresFor s y.car = g y.car := figures y (by simp)
      have full := stops y more rfl
      simp only [List.length_nil, List.map_nil, List.sum_nil, Nat.add_zero] at full
      have no_room : (decide (n = 0) || (decide (n < s.setup.limits.groupSize)
          && decide (d + (g y.car).startDraw ≤ s.setup.limits.stepLimit))) = false := by
        simp only [Bool.or_eq_false_iff, Bool.and_eq_false_iff, decide_eq_false_iff_not]
        omega
      simp [stageCount, is, no_room]
  | y :: ahead, n, d, some_staged, figures, within, stops => by
    have is : figuresFor s y.car = g y.car := figures y (by simp)
    obtain ⟨size, limit⟩ := within (by simp)
    simp only [List.length_cons, List.map_cons, List.sum_cons] at size limit
    have room : (decide (n = 0) || (decide (n < s.setup.limits.groupSize)
        && decide (d + (g y.car).startDraw ≤ s.setup.limits.stepLimit))) = true := by
      simp only [Bool.or_eq_true, Bool.and_eq_true, decide_eq_true_eq]
      omega
    have more := stageCount_append (s := s) (g := g) (rest := rest) (ahead := ahead) (n := n + 1) (d := d + (g y.car).startDraw) (by omega)
      (fun z mem => figures z (List.mem_cons_of_mem _ mem)) (fun _ => by omega) fun z tail is => by
        have := stops z tail is
        simp only [List.length_cons, List.map_cons, List.sum_cons] at this
        omega
    simp only [List.cons_append, stageCount, is, room, if_true, more, List.length_cons]

/-- The first car is staged in any case (R140). -/
theorem stageCount_of_staged {s : State} {g : CarId → RunFigures} {staged rest : List QueueItem} (some_staged : staged ≠ [])
    (figures : ∀ y ∈ staged ++ rest, figuresFor s y.car = g y.car)
    (within : staged.length = 1 ∨ (staged.length ≤ s.setup.limits.groupSize
      ∧ (staged.map (fun y => (g y.car).startDraw)).sum ≤ s.setup.limits.stepLimit))
    (stops : ∀ y more, rest = y :: more → s.setup.limits.groupSize ≤ staged.length
      ∨ s.setup.limits.stepLimit < (staged.map (fun y => (g y.car).startDraw)).sum + (g y.car).startDraw) :
    stageCount s 0 0 (staged ++ rest) = staged.length := by
  cases staged with
  | nil => exact absurd rfl some_staged
  | cons y ahead =>
    have is : figuresFor s y.car = g y.car := figures y (by simp)
    simp only [List.length_cons, List.map_cons, List.sum_cons] at within stops
    have more := stageCount_append (s := s) (g := g) (rest := rest) (ahead := ahead) (n := 1) (d := (g y.car).startDraw) (by omega)
      (fun z mem => figures z (List.mem_cons_of_mem _ mem))
      (fun some_more => by
        have := List.length_pos_of_ne_nil some_more
        omega)
      fun z tail is => by
        have := stops z tail is
        omega
    simp only [List.cons_append, stageCount, is, decide_true, Bool.true_or, if_true, Nat.zero_add, more, List.length_cons]

/-! ## Staging -/

/-- A state in which cars of the queue have been staged, and those still to come (R140). -/
structure Stages (s t : State) (g : CarId → RunFigures) (done left : List QueueItem) : Prop where
  fixed : t.fixed = s.fixed
  acct : t.acct = s.acct
  hist : t.hist = s.hist
  plan : t.plan = s.plan
  svc : t.svc = s.svc
  ret : t.ret = { s.ret with queue := left, group := s.ret.group ++ done.map (fun y => ⟨y.car, g y.car⟩) }
  staged : ∀ y ∈ done, record t y.car = (record s y.car).map (CarRecord.goTo .staged)
  others : ∀ d, (∀ y ∈ done, y.car ≠ d) → record t d = record s d
  reports : QueuedFirst s [] t
  reported : ∀ y ∈ done, ∀ old, record s y.car = some old → old.state ≠ .staged → CarReported s t y.car old.state .staged .grant none

theorem Stages.refl (s : State) (g : CarId → RunFigures) : Stages s s g [] s.ret.queue where
  fixed := rfl
  acct := rfl
  hist := rfl
  plan := rfl
  svc := rfl
  ret := by simp
  staged _ mem := nomatch mem
  others _ _ := rfl
  reports := ⟨[], reportsQueued_refl s⟩
  reported _ mem := nomatch mem

/-- A report of a car queued before another car is staged stands when it is. -/
theorem carReported_stageCar {s v : State} {x : QueueItem} {c : CarId} {before after : CarState} {cause : CarCause} {decline : Option Decline}
    (reported : CarReported s v c before after cause decline) : CarReported s (stageCar v x) c before after cause decline := by
  have H := closed_reported s fun r => ∃ rep, r = .carState rep ∧ rep.car = c ∧ rep.before = before ∧ rep.after = after
    ∧ rep.cause = cause ∧ rep.decline = decline
  obtain ⟨earlier, rep, later, queued, holds⟩ := reported
  obtain ⟨earlier, _, later, queued, rep, rfl, holds⟩ := closed_stageCar (s := v) (x := x) H ⟨earlier, _, later, queued, rep, rfl, holds⟩
  exact ⟨earlier, rep, later, queued, holds⟩

theorem filter_away {c : CarId} {l : List QueueItem} (away : ∀ y ∈ l, y.car ≠ c) : l.filter (fun y => y.car != c) = l :=
  List.filter_eq_self.2 fun y mem => bne_iff_ne.2 (away y mem)

theorem Stages.step {s v : State} {g : CarId → RunFigures} {done left : List QueueItem} {x : QueueItem} (h : Stages s v g done (x :: left))
    (distinct : ((done ++ x :: left).map (·.car)).Nodup) (figures : figuresFor s x.car = g x.car) :
    Stages s (stageCar v x) g (done ++ [x]) left := by
  rw [List.map_append, List.map_cons] at distinct
  obtain ⟨_, tail, apart⟩ := List.nodup_append.1 distinct
  have fresh : ∀ y ∈ done, y.car ≠ x.car := fun y mem => apart _ (List.mem_map_of_mem mem) _ List.mem_cons_self
  have away : ∀ y ∈ left, y.car ≠ x.car := fun y mem same =>
    (List.nodup_cons.1 tail).1 (List.mem_map.2 ⟨y, mem, same⟩)
  have port := portOnly_stageCar v x
  have had : record v x.car = record s x.car := h.others x.car fresh
  have same_figures : figuresFor v x.car = g x.car := by
    rw [← figures]
    unfold figuresFor recallRun profile
    rw [had, show v.setup = s.setup from congrArg Fixed.setup h.fixed]
  have ret : (stageCar v x).ret = { v.ret with
      queue := v.ret.queue.filter (fun y => y.car != x.car), group := v.ret.group ++ [⟨x.car, figuresFor v x.car⟩] } := by
    rw [port]; rfl
  have record_x : record (stageCar v x) x.car = (record s x.car).map (CarRecord.goTo .staged) := by
    rw [record_of_portOnly port, ← had]
    exact record_moveCar_same _ _ _
  have record_d : ∀ d, d ≠ x.car → record (stageCar v x) d = record v d := fun d other => by
    rw [record_of_portOnly port]
    exact record_moveCar_other _ _ other
  refine ⟨(closed_stageCar (closed_fixed _) rfl).trans h.fixed, by rw [port]; exact h.acct, by rw [port]; exact h.hist, by rw [port]; exact h.plan,
    by rw [port]; exact h.svc, ?_, fun y mem => ?_, fun d other => ?_, closed_stageCar (closed_queuedFirst s []) h.reports,
    fun y mem old was moved => ?_⟩
  · rw [ret, h.ret, same_figures]
    simp [filter_away away]
  · rcases List.mem_append.1 mem with earlier | new
    · rw [record_d _ (fresh y earlier)]
      exact h.staged y earlier
    · rw [List.mem_singleton.1 new]
      exact record_x
  · rw [record_d d (fun same => other x (by simp) same.symm)]
    exact h.others d fun y earlier => other y (List.mem_append_left _ earlier)
  · rcases List.mem_append.1 mem with earlier | new
    · exact carReported_stageCar (h.reported y earlier old was moved)
    · rw [List.mem_singleton.1 new] at was ⊢
      have now : record (stagedState v x) x.car = some (old.goTo .staged) := by
        rw [stagedState, record_moveCar_same]
        show (record v x.car).map _ = _
        rw [had, was]
        rfl
      have earlier : QueuedFirst s [] (stagedState v x) := closed_moveCar (closed_queuedFirst s []) ((closed_queuedFirst s []).ret h.reports)
      rw [stageCar_eq, had, was]
      exact carReported_reportCar earlier now (.inl moved)

theorem Stages.all {s : State} {g : CarId → RunFigures} {rest : List QueueItem} : ∀ {cars done : List QueueItem} {v : State},
    Stages s v g done (cars ++ rest) → ((done ++ (cars ++ rest)).map (·.car)).Nodup → (∀ y ∈ cars, figuresFor s y.car = g y.car) →
    Stages s (cars.foldl stageCar v) g (done ++ cars) rest
  | [], done, v, h, _, _ => by
    rw [List.append_nil]
    exact h
  | x :: cars, done, v, h, distinct, figures => by
    have next := h.step distinct (figures x List.mem_cons_self)
    have all := Stages.all (cars := cars) next (by simpa using distinct) fun y mem => figures y (List.mem_cons_of_mem _ mem)
    rw [List.foldl_cons]
    simpa using all

/-! ## Staging by the spacing expiry -/

theorem maySelect_of_staged {s : State} (staged : s.ret.group ≠ []) : maySelect s = false := by
  have full : s.ret.group.isEmpty = false := by rw [← Bool.not_eq_true, List.isEmpty_iff]; exact staged
  simp [maySelect, full]

/-- In GROUPED mode with a HOST release source the Return Sequencer's work is staging (R140, R141). -/
theorem sequencerWork_grouped {w : Work} (grants : Granting w.st) (grouped : w.st.setup.limits.returnMode = .grouped)
    (host : (stage w).st.setup.limits.releaseSource = .host) : sequencerWork w = stage w := by
  simp [sequencerWork, granting_eq_true grants, grouped, host]

theorem stage_of_count {w : Work} {staged rest : List QueueItem} (group : w.st.ret.group = []) (queue : w.st.ret.queue = staged ++ rest)
    (some_staged : staged ≠ []) (count : stageCount w.st 0 0 (staged ++ rest) = staged.length) :
    stage w = (w.up (fun s => staged.foldl stageCar s)).noteSs := by
  have empty : w.st.ret.group.isEmpty = true := by rw [group]; rfl
  have waits : w.st.ret.queue.isEmpty = false := by
    rw [← Bool.not_eq_true, List.isEmpty_iff, queue]
    exact List.append_ne_nil_of_left_ne_nil some_staged _
  have taken : w.st.ret.queue.take (stageCount w.st 0 0 w.st.ret.queue) = staged := by rw [queue, count, List.take_left]
  unfold stage
  rw [empty, waits, taken]
  rfl

section
variable {s : State} {expiry : Time} (runs : s.ret.spacing = some expiry) (due : Due s.time expiry) (grants : Granting s) (stays : GeneratorStays s)
include runs due grants stays

theorem queue_staged (distinct : (s.ret.queue.map (·.car)).Nodup) (grouped : s.setup.limits.returnMode = .grouped)
    (source : s.setup.limits.releaseSource = .host) (group : s.ret.group = []) {staged rest : List QueueItem} {g : CarId → RunFigures}
    (queue : s.ret.queue = staged ++ rest) (some_staged : staged ≠ []) (figures : ∀ y ∈ s.ret.queue, FiguresOf s y.car (g y.car))
    (within : staged.length = 1 ∨ (staged.length ≤ s.setup.limits.groupSize
      ∧ (staged.map (fun y => (g y.car).startDraw)).sum ≤ s.setup.limits.stepLimit))
    (stops : ∀ y more, rest = y :: more → s.setup.limits.groupSize ≤ staged.length
      ∨ s.setup.limits.stepLimit < (staged.map (fun y => (g y.car).startDraw)).sum + (g y.car).startDraw) :
    ∃ t x, exec .spacingExpiry s = .next t ∧ Stages (unspaced s) x g staged rest ∧ t = { x with link := t.link, inds := t.inds } := by
  have figures' : ∀ y ∈ staged ++ rest, figuresFor (unspaced s) y.car = g y.car := fun y mem =>
    figuresFor_of (s := unspaced s) (figures y (by rw [queue]; exact mem))
  obtain ⟨x, made⟩ : ∃ x, x = staged.foldl stageCar (unspaced s) := ⟨_, rfl⟩
  have start : Stages (unspaced s) (unspaced s) g [] (staged ++ rest) := by
    have same := Stages.refl (unspaced s) g
    rw [show (unspaced s).ret.queue = staged ++ rest from queue] at same
    exact same
  have stages : Stages (unspaced s) x g staged rest := by
    rw [made]
    exact start.all (by rw [← queue]; exact distinct) fun y mem => figures' y (List.mem_append_left _ mem)
  have staging : stage (begin (unspaced s)).noteBoth = (⟨x, (begin (unspaced s)).noteBoth.nt⟩ : Work).noteSs := by
    rw [made]
    exact stage_of_count (w := (begin (unspaced s)).noteBoth) group queue some_staged
      (stageCount_of_staged (s := unspaced s) some_staged figures' within stops)
  have host : (stage (begin (unspaced s)).noteBoth).st.setup.limits.releaseSource = .host := by
    rw [staging]
    show x.setup.limits.releaseSource = .host
    rw [show x.setup = s.setup from congrArg Fixed.setup stages.fixed]
    exact source
  have chosen : x.ret.group ≠ [] := by
    rw [stages.ret]
    exact List.append_ne_nil_of_right_ne_nil _ (by simpa using some_staged)
  obtain ⟨t, exec, leaves, _⟩ := exec_spacingExpiry runs due
    (planExit_unspaced grants stays (.inr (.inl (by rw [queue]; exact List.append_ne_nil_of_left_ne_nil some_staged _))))
    ((sequencerWork_grouped (w := (begin (unspaced s)).noteBoth) grants grouped host).trans staging) rfl
    (selectorWork_of_not (maySelect_of_staged chosen))
  exact ⟨t, x, exec, stages, leaves⟩

/-! ## The walk of the spacing expiry -/

omit grants stays in
theorem walk_grants (paced : s.setup.limits.returnMode = .paced) (opens : AttemptOpen s) (distinct : (s.ret.queue.map (·.car)).Nodup)
    {ahead behind : List QueueItem} {x : QueueItem} {f : RunFigures} (queue : s.ret.queue = ahead ++ x :: behind)
    (depth : ahead.length ≤ s.setup.limits.lookahead) (passed : ∀ y ∈ ahead, Passed s y) (figures : FiguresOf s x.car f)
    (fits : RunFits s x.car f) : ∃ t old e, PacedGrant s t x old f e
      ∧ grantedFrom x.car s.ret.queue = ahead.map (fun y => { y with passed := min 7 (y.passed + 1) }) ++ behind := by
  obtain ⟨old, _, had, _⟩ := id figures
  obtain ⟨_, _, settled, draw_clear, regen_clear, _⟩ := id opens
  have clear : NoOvercommit (unspaced s) := ⟨draw_clear, regen_clear⟩
  have walks : walk (unspaced s) (1 + s.setup.limits.lookahead) s.ret.queue = some x := by
    rw [queue, walk_passes (s := unspaced s) settled clear _ passed (by omega),
      show 1 + s.setup.limits.lookahead - ahead.length = (s.setup.limits.lookahead - ahead.length) + 1 by omega]
    exact walk_of_fits (s := unspaced s) settled clear figures fits _ _
  have away : ∀ y ∈ ahead, y.car ≠ x.car := fun y mem => by
    rw [queue, List.map_append] at distinct
    exact (List.nodup_append.1 distinct).2.2 _ (List.mem_map_of_mem mem) _ List.mem_cons_self
  obtain ⟨t, e, h⟩ := pacedGrant runs due paced opens (by rw [queue]; simp) walks figures fits had
  exact ⟨t, old, e, h, by rw [queue, grantedFrom_append rfl away]⟩

theorem walk_ungranted (paced : s.setup.limits.returnMode = .paced) (settled : s.cap.settle = none) (clear : NoOvercommit s)
    {tried rest : List QueueItem} {last : QueueItem} (queue : s.ret.queue = tried ++ last :: rest)
    (depth : tried.length ≤ s.setup.limits.lookahead) (below : ∀ y ∈ tried, y.passed < s.setup.limits.passLimit)
    (refused : ∀ y ∈ tried ++ [last], ∃ g, FiguresOf s y.car g ∧ ¬ RunFits s y.car g)
    (stops : s.setup.limits.passLimit ≤ last.passed ∨ tried.length = s.setup.limits.lookahead ∨ rest = []) : ∃ t, Ungranted s t := by
  obtain ⟨g, figures, unfit⟩ := refused last (by simp)
  have passed : ∀ y ∈ tried, Passed (unspaced s) y := fun y mem => ⟨below y mem, refused y (List.mem_append_left _ mem)⟩
  refine ungranted_of_walk runs due grants stays paced (by rw [queue]; simp) ?_
  rw [queue, walk_passes (s := unspaced s) settled clear _ passed (by omega),
    show 1 + s.setup.limits.lookahead - tried.length = (s.setup.limits.lookahead - tried.length) + 1 by omega]
  refine walk_ends (s := unspaced s) settled clear figures unfit ?_
  rcases stops with reached | last_try | none
  · exact .inl reached
  · exact .inr (.inl (by omega))
  · exact .inr (.inr none)

end

/-! ## The obligation -/

/-- Settles O38: the walk past the refused items; the staging of the queue's first cars, one by one. -/
theorem queueServed : Obligations.QueueServed := by
  unfold Obligations.QueueServed
  intro s expiry runs due grants stays distinct
  refine ⟨fun paced opens => ⟨fun ahead behind x f queue depth passed figures fits => ?_, fun tried rest last queue depth below refused stops => ?_⟩,
    fun grouped source group staged rest g queue some_staged figures within stops => ?_⟩
  · obtain ⟨t, old, e, h, left⟩ := walk_grants runs due paced opens distinct queue depth passed figures fits
    obtain rfl := h.entry
    exact ⟨t, _, _, h.runs, h.settings, h.host, h.cap, h.plan, by rw [h.ret, left], h.entries, rfl, rfl, rfl, rfl, rfl, rfl, h.record, rfl, h.others⟩
  · obtain ⟨_, _, settled, draw_clear, regen_clear, _⟩ := opens
    obtain ⟨t, h⟩ := walk_ungranted runs due grants stays paced settled ⟨draw_clear, regen_clear⟩ queue depth below refused stops
    exact ⟨t, h.runs, h.settings, h.host, h.cap, h.cars, h.acct, h.ret, h.svc, h.plan⟩
  · obtain ⟨t, x, runs_t, h, leaves⟩ := queue_staged runs due grants stays distinct grouped source group queue some_staged figures within stops
    have cars : ∀ d, record t d = record x d := fun d => by
      unfold record
      rw [leaves]
    have fixed : t.fixed = s.fixed := by
      rw [leaves]
      exact h.fixed
    obtain ⟨settings, host, cap⟩ := kept_of_fixed_eq fixed
    refine ⟨t, runs_t, settings, host, cap, by rw [leaves]; exact h.acct, by rw [leaves]; exact h.plan, by rw [leaves]; exact h.svc, ?_,
      fun y mem => ?_, fun d other => (cars d).trans (h.others d other)⟩
    · rw [leaves]
      show x.ret = _
      rw [h.ret, show (unspaced s).ret.group = [] from group]
      rfl
    · obtain ⟨old, _, had, _⟩ := figures y (by rw [queue]; exact List.mem_append_left _ mem)
      refine ⟨old, old.goTo .staged, had, ?_, rfl, fun moved => ?_⟩
      · rw [cars, h.staged y mem, show record (unspaced s) y.car = some old from had]
        rfl
      · have reported : CarReported s x y.car old.state .staged .grant none := h.reported y mem old had moved
        rw [leaves]
        exact reported

end Sys2Proof.Proofs.Grants
end
section
/-! PROOFS. An accepted RELEASE-GROUP starts the staged cars in staging order (R141 to R143). -/

namespace Sys2Proof.Proofs.Grants

open Sys2Proof.Machine Sys2Proof.Safety Sys2Proof.Proofs.Upkeep Sys2Proof.Proofs.IndicationLines Sys2Proof.Proofs.Ends
  Sys2Proof.Proofs.Account Sys2Proof.Proofs.Capacity Sys2Proof.Proofs.Cars Sys2Proof.Proofs.Shedding Sys2Proof.Proofs.Pause

/-! ## The staged cars started, one by one -/

/-- A state in which runs have been started for the staged cars `done`, with the entries `new` (R142). -/
structure Released (s t : State) (done : List StagedCar) (new : List Entry) : Prop where
  entries : t.acct.entries = s.acct.entries ++ new
  cars : new.map (·.car) = carsOf done
  draws : new.map (·.draw) = done.map (·.figures.startDraw)
  regens : new.map (·.regen) = done.map (·.figures.regen)
  each : ∀ e ∈ new, e.kind = .returning ∧ e.phase = .start ∧ e.grantTime = s.time
  kd : t.acct.kd = s.acct.kd + (done.map (·.figures.startDraw)).sum
  kr : t.acct.kr = s.acct.kr + (done.map (·.figures.regen)).sum
  clear : NoOvercommit t
  fixed : t.fixed = s.fixed
  plan : t.plan = s.plan
  ret : t.ret = s.ret
  starting : ∀ x ∈ done, (record s x.car).isSome = true → (record t x.car).map (·.state) = some .starting
  others : ∀ d, d ∉ carsOf done → record t d = record s d

theorem Released.refl {s : State} (clear : NoOvercommit s) : Released s s [] [] where
  entries := by simp
  cars := rfl
  draws := rfl
  regens := rfl
  each _ mem := nomatch mem
  kd := rfl
  kr := rfl
  clear := clear
  fixed := rfl
  plan := rfl
  ret := rfl
  starting _ mem := nomatch mem
  others _ _ := rfl

theorem Released.entryOf {s t : State} {done : List StagedCar} {new : List Entry} (h : Released s t done new) {c : CarId}
    (free : Machine.entryOf s c = none) (fresh : c ∉ carsOf done) : Machine.entryOf t c = none := by
  unfold Machine.entryOf at free ⊢
  rw [h.entries, List.find?_append, free, Option.none_or, List.find?_eq_none]
  intro e mem same
  refine fresh ?_
  rw [← h.cars, ← eq_of_beq same]
  exact List.mem_map_of_mem mem

theorem Released.step {s : State} {w : Work} {done : List StagedCar} {new : List Entry} {x : StagedCar} (h : Released s w.st done new)
    (fresh : x.car ∉ carsOf done) (free : Machine.entryOf s x.car = none)
    (draw : s.acct.kd + ((done ++ [x]).map (·.figures.startDraw)).sum ≤ s.cap.c)
    (regen : s.acct.kr + ((done ++ [x]).map (·.figures.regen)).sum ≤ s.cap.sink) :
    ∃ e, Released s (startRun w x.car x.figures).st (done ++ [x]) (new ++ [e]) ∧ (startRun w x.car x.figures).nt = w.nt := by
  have cap : w.st.cap = s.cap := congrArg Fixed.cap h.fixed
  have time : w.st.time = s.time := congrArg Fixed.time h.fixed
  have kd := h.kd
  have kr := h.kr
  have fits_d : w.st.acct.kd + x.figures.startDraw ≤ w.st.cap.c := by
    rw [cap]
    simp only [List.map_append, List.sum_append, List.map_cons, List.map_nil, List.sum_cons, List.sum_nil] at draw
    omega
  have fits_r : w.st.acct.kr + x.figures.regen ≤ w.st.cap.sink := by
    rw [cap]
    simp only [List.map_append, List.sum_append, List.map_cons, List.map_nil, List.sum_cons, List.sum_nil] at regen
    omega
  obtain ⟨started, notes⟩ := started_startRun (w := w) (c := x.car) (f := x.figures) (h.entryOf free fresh) fits_d fits_r h.clear
  refine ⟨taken w.st.acct (returnEntry w.st x.car x.figures (deadlineFor w.st x.car)), ⟨?_, ?_, ?_, ?_, fun e mem => ?_, ?_, ?_,
    started.noOvercommit, started.fixed.trans h.fixed, started.plan.trans h.plan, started.ret.trans h.ret, fun y mem recorded => ?_,
    fun d away => ?_⟩, notes⟩
  · rw [started.entries, h.entries, List.append_assoc]
  · rw [List.map_append, h.cars]
    simp [carsOf, taken, returnEntry]
  · rw [List.map_append, h.draws]
    simp [taken, returnEntry]
  · rw [List.map_append, h.regens]
    simp [taken, returnEntry]
  · rcases List.mem_append.1 mem with earlier | here
    · exact h.each e earlier
    · rw [List.mem_singleton.1 here]
      exact ⟨rfl, rfl, time⟩
  · rw [started.kd, kd, List.map_append, List.sum_append]
    simp [Nat.add_assoc]
  · rw [started.kr, kr, List.map_append, List.sum_append]
    simp [Nat.add_assoc]
  · by_cases here : y.car = x.car
    · have had : record w.st x.car = record s x.car := h.others x.car fresh
      rw [here] at recorded
      obtain ⟨old, was⟩ := Option.isSome_iff_exists.1 recorded
      rw [here, started.record, had, was]
      rfl
    · rw [started.others y.car here]
      rcases List.mem_append.1 mem with earlier | same
      · exact h.starting y earlier recorded
      · exact absurd (congrArg StagedCar.car (List.mem_singleton.1 same)) here
  · simp only [carsOf, List.map_append, List.mem_append, List.map_cons, List.map_nil, List.mem_singleton, not_or] at away
    rw [started.others d away.2]
    exact h.others d away.1

theorem Released.all {s : State} : ∀ {left done : List StagedCar} {w : Work} {new : List Entry}, Released s w.st done new →
    (carsOf (done ++ left)).Nodup → (∀ x ∈ left, Machine.entryOf s x.car = none) →
    s.acct.kd + ((done ++ left).map (·.figures.startDraw)).sum ≤ s.cap.c →
    s.acct.kr + ((done ++ left).map (·.figures.regen)).sum ≤ s.cap.sink →
    ∃ new', Released s (left.foldl (fun acc x => startRun acc x.car x.figures) w).st (done ++ left) new'
      ∧ (left.foldl (fun acc x => startRun acc x.car x.figures) w).nt = w.nt
  | [], done, w, new, h, _, _, _, _ => ⟨new, by rw [List.append_nil]; exact h, rfl⟩
  | x :: left, done, w, new, h, distinct, free, draw, regen => by
    have fresh : x.car ∉ carsOf done := fun mem => by
      rw [carsOf, List.map_append, List.map_cons] at distinct
      exact (List.nodup_append.1 distinct).2.2 _ mem _ List.mem_cons_self rfl
    have split : done ++ x :: left = (done ++ [x]) ++ left := by simp
    rw [split] at distinct draw regen
    have draw_now : s.acct.kd + ((done ++ [x]).map (·.figures.startDraw)).sum ≤ s.cap.c := by
      rw [List.map_append, List.sum_append] at draw
      omega
    have regen_now : s.acct.kr + ((done ++ [x]).map (·.figures.regen)).sum ≤ s.cap.sink := by
      rw [List.map_append, List.sum_append] at regen
      omega
    obtain ⟨e, next, notes⟩ := h.step fresh (free x List.mem_cons_self) draw_now regen_now
    obtain ⟨new', all, notes'⟩ := Released.all next distinct (fun y mem => free y (List.mem_cons_of_mem _ mem)) draw regen
    rw [List.foldl_cons, split]
    exact ⟨new', all, notes'.trans notes⟩

/-! ## Staging after the release -/

theorem plan_foldl_stageCar : ∀ (cars : List QueueItem) (s : State), (cars.foldl stageCar s).plan = s.plan
  | [], _ => rfl
  | x :: cars, s => by
    rw [List.foldl_cons, plan_foldl_stageCar cars, portOnly_stageCar s x]
    rfl

theorem stage_plan (w : Work) : (stage w).st.plan = w.st.plan := by
  unfold stage
  split
  · exact plan_foldl_stageCar _ _
  · rfl

/-- Where no exit is open and the spacing timer runs, the granting blocks stage cars or do nothing. -/
theorem grantWork_of_spaced {w : Work} (exits : planExit w.st = none) (spaced : w.st.ret.spacing ≠ none) :
    (grantWork w).st = w.st ∨ (grantWork w).st = (stage w).st := by
  have selects : ∀ x : Work, x.st.ret.spacing ≠ none → (if x.nt.ss then selectorWork x else x) = x := fun x still => by
    rw [selectorWork_of_spaced still, ite_self]
  have staged : (stage w).st.ret.spacing ≠ none := by rw [(granted_stage w).spacing]; exact spaced
  unfold grantWork
  rw [planRun_of_noExit exits]
  dsimp only
  split
  · obtain same | same := sequencerWork_of_spaced spaced
    · rw [same, selects w spaced]; exact .inl rfl
    · rw [same, selects _ staged]; exact .inr rfl
  · rw [selects w spaced]; exact .inl rfl

/-- A state as staging may leave it, for the cars that are not queued. -/
structure Aside (s t : State) : Prop where
  fixed : t.fixed = s.fixed
  acct : t.acct = s.acct
  plan : t.plan = s.plan
  spacing : t.ret.spacing = s.ret.spacing
  queue : ∀ y ∈ t.ret.queue, y ∈ s.ret.queue
  record : ∀ d, (∀ y ∈ s.ret.queue, y.car ≠ d) → Machine.record t d = Machine.record s d

theorem aside_stage (w : Work) : Aside w.st (stage w).st := by
  have h := granted_stage w
  refine ⟨h.fixed, h.acct, stage_plan w, h.spacing, h.queue, fun d away => ?_⟩
  rcases h.cars d with ⟨same, _⟩ | ⟨⟨y, mem, car⟩, _⟩
  · exact same
  · exact absurd car (away y mem)

theorem Aside.trans {s t u : State} (h : Aside s t) (g : Aside t u) : Aside s u where
  fixed := g.fixed.trans h.fixed
  acct := g.acct.trans h.acct
  plan := g.plan.trans h.plan
  spacing := g.spacing.trans h.spacing
  queue y mem := h.queue y (g.queue y mem)
  record d away := (g.record d fun y mem => away y (h.queue y mem)).trans (h.record d away)

theorem aside_complete {w : Work} (exits : planExit w.st = none) (spaced : w.st.ret.spacing ≠ none) : Aside w.st (complete w) := by
  have ends : Aside w.st (grantWork w).st := by
    rcases grantWork_of_spaced exits spaced with same | same
    · rw [same]
      exact ⟨rfl, rfl, rfl, rfl, fun _ mem => mem, fun _ _ => rfl⟩
    · rw [same]
      exact aside_stage w
  have leaves : complete w = { (grantWork w).st with link := (complete w).link, inds := (complete w).inds } := by
    conv_lhs => rw [complete, completeWith, arbiters_driven]
    rw [complete, completeWith, arbiters_driven]
  have last : Aside (grantWork w).st (complete w) := by
    rw [leaves]
    exact ⟨rfl, rfl, rfl, rfl, fun _ mem => mem, fun _ _ => rfl⟩
  exact ends.trans last

/-! ## The obligation -/

section
variable {s : State} (grants : Granting s) (stays : GeneratorStays s) (group : s.ret.group ≠ []) (settled : s.cap.settle = none)
  (clear : NoOvercommit s) (none_starting : startingCount s.acct = 0) (stopped : s.ret.spacing = none)
  (draw : s.acct.kd + (s.ret.group.map (·.figures.startDraw)).sum ≤ s.cap.c)
  (regen : s.acct.kr + (s.ret.group.map (·.figures.regen)).sum ≤ s.cap.sink)

include grants group settled clear none_starting stopped draw regen in
theorem readiness_all : readiness s = ⟨true, true, true, true, true, true, true⟩ := by
  have granted := granting_eq_true grants
  have full : s.ret.group.isEmpty = false := by rw [← Bool.not_eq_true, List.isEmpty_iff]; exact group
  have now : Machine.settled s = true := (settled_iff s).2 settled
  have eased : overcommitted s = false := by simp [overcommitted, clear.1, clear.2]
  simp [readiness, granted, full, now, eased, none_starting, stopped, groupDraw, groupRegen, draw, regen]

include grants stays group clear draw regen in
/-- The group released and the event completed (R142). -/
theorem complete_releaseStaged (distinct : (carsOf s.ret.group).Nodup)
    (free : ∀ x ∈ s.ret.group, entryOf s x.car = none ∧ ∀ y ∈ s.ret.queue, y.car ≠ x.car) :
    ∃ v new, Released (setGroup s []) v s.ret.group new ∧ Aside (startSpacing v) (complete (releaseStaged (begin s))) := by
  obtain ⟨new, released, _⟩ := (Released.refl (s := setGroup s []) clear).all (w := (begin s).up (fun s => setGroup s []))
    (left := s.ret.group) distinct (fun x mem => (free x mem).1) draw regen
  obtain ⟨w, made⟩ : ∃ w, w = s.ret.group.foldl (fun acc x => startRun acc x.car x.figures) ((begin s).up (fun s => setGroup s [])) := ⟨_, rfl⟩
  rw [← made] at released
  have releases : releaseStaged (begin s) = stage ((w.up startSpacing).noteSs) := by rw [made]; rfl
  have first := aside_stage ((w.up startSpacing).noteSs)
  rw [← releases] at first
  have spaced : (releaseStaged (begin s)).st.ret.spacing ≠ none := by
    rw [first.spacing]
    exact Option.some_ne_none _
  have plan : (releaseStaged (begin s)).st.plan = s.plan := first.plan.trans released.plan
  have fixed : (releaseStaged (begin s)).st.fixed = s.fixed := first.fixed.trans released.fixed
  have exits : planExit (releaseStaged (begin s)).st = none := by
    refine planExit_of_granting (granting_of_plan (by rw [plan]) grants) (generatorStays_of_fixed fixed stays) fun _ ⟨_, _, no_run⟩ => ?_
    have some_new : new ≠ [] := fun empty => group (by
      have cars := released.cars
      rw [empty] at cars
      exact List.map_eq_nil_iff.1 cars.symm)
    obtain ⟨e, mem⟩ := List.exists_mem_of_ne_nil new some_new
    refine no_run e ?_ (released.each e mem).1
    rw [first.acct]
    show e ∈ w.st.acct.entries
    rw [released.entries]
    exact List.mem_append_right _ mem
  exact ⟨w.st, new, released, first.trans (aside_complete exits spaced)⟩

end

/-- Settles O39: the entries appended car by car, each within the sums that readiness tested. -/
theorem releaseGroupStarts : Obligations.ReleaseGroupStarts := by
  unfold Obligations.ReleaseGroupStarts
  intro s tag taking grants stays grouped source group settled draw_clear regen_clear none_starting stopped draw regen distinct cars
  have clear : NoOvercommit s := ⟨draw_clear, regen_clear⟩
  obtain ⟨s', made⟩ : ∃ s', s' = setFramer s .hunting := ⟨_, rfl⟩
  have ready : readiness s' = ⟨true, true, true, true, true, true, true⟩ := by
    rw [made]
    exact readiness_all (s := setFramer s .hunting) grants group settled clear none_starting stopped draw regen
  obtain ⟨v, new, released, aside⟩ := complete_releaseStaged (s := setFramer s .hunting) grants stays group clear draw regen distinct
    fun x mem => ⟨(cars x mem).1, (cars x mem).2.2⟩
  have members : (setFramer s .hunting).ret.group = s.ret.group := rfl
  rw [members] at released
  rw [← made] at released aside
  obtain ⟨u, made_u⟩ : ∃ u, u = complete (releaseStaged (begin s')) := ⟨_, rfl⟩
  rw [← made_u] at aside
  have rule : (if ([] : List Byte).isEmpty then ruleReleaseGroup s' else ⟨s', .badLength, groupView s'⟩) = accept u fun _ => groupView s' := by
    have granted : granting s' = true := by rw [made]; exact granting_eq_true (s := setFramer s .hunting) grants
    have full : s'.ret.group.isEmpty = false := by rw [made, ← Bool.not_eq_true, List.isEmpty_iff]; exact group
    have all : (readiness s').all = true := by rw [ready]; rfl
    have mode : ¬ (s'.setup.limits.returnMode = .paced ∨ s'.setup.limits.releaseSource = .timer) := by
      rw [made]
      show ¬ (s.setup.limits.returnMode = .paced ∨ s.setup.limits.releaseSource = .timer)
      rw [grouped, source]
      decide
    rw [made_u]
    simp [ruleReleaseGroup, granted, full, all, mode]
  have fixed : u.fixed = s'.fixed := aside.fixed.trans released.fixed
  obtain ⟨settings, host, cap⟩ := kept_of_fixed_eq fixed
  rw [made] at rule settings host cap
  obtain ⟨t, runs, answered, same⟩ := exec_of_accepted (c := .releaseGroup tag []) taking rfl rule host
  obtain ⟨_, _, cap_t, _, plan_t, _, acct_t, cars_t, ret_t, _⟩ := fixed_of_answered same
  have acct : t.acct = v.acct := acct_t.trans aside.acct
  have limits : v.setup.limits = s.setup.limits := by
    have parts := congrArg Fixed.setup released.fixed
    rw [made] at parts
    exact congrArg Setup.limits parts
  have time : v.time = s.time := by
    have parts := congrArg Fixed.time released.fixed
    rw [made] at parts
    exact parts
  have at_group : (setGroup s' []).acct = s.acct := by rw [made]; rfl
  refine ⟨t, new, runs, PlanMoves.settingsKept_of_answered same settings, cap_t.trans cap, ?_, ?_, released.cars, released.draws, released.regens, ?_, ?_,
    ?_, ?_, fun x mem => ?_, ?_⟩
  · rw [plan_t, aside.plan]
    exact released.plan.trans (by rw [made]; rfl)
  · rw [acct, released.entries, at_group]
  · rw [made] at released
    exact released.each
  · rw [acct, released.kd, at_group]
  · rw [acct, released.kr, at_group]
  · rw [ret_t, aside.spacing]
    show some (after v v.setup.limits.spacing) = _
    rw [limits, after, time]
    rfl
  · obtain ⟨_, recorded, away⟩ := cars x mem
    have queue : (startSpacing v).ret.queue = s.ret.queue := by
      show v.ret.queue = _
      rw [released.ret, made]
      rfl
    have had : Machine.record t x.car = Machine.record v x.car := by
      unfold Machine.record
      rw [cars_t]
      exact aside.record x.car (by rw [queue]; exact away)
    rw [had]
    exact released.starting x mem (by rw [made]; exact recorded)
  · have view : groupView (setFramer s .hunting) = .group ⟨s.ret.group, ⟨true, true, true, true, true, true, true⟩⟩ := by
      rw [groupView, ← made, ready, made]
      rfl
    rw [view] at answered
    exact answered

end Sys2Proof.Proofs.Grants
end
section
/-! PROOFS. A car has a record when it is enrolled and only then (R33, R34, R52, R53), through every command. -/

namespace Sys2Proof.Proofs.Records

open Sys2Proof.Machine Sys2Proof.Safety Sys2Proof.Proofs.Upkeep Sys2Proof.Proofs.Account Sys2Proof.Proofs.Cars

/-! ## The pieces of an event -/

theorem isSome_alterCar (s : State) (c d : CarId) (f : CarRecord → CarRecord) : (record (alterCar s c f) d).isSome = (record s d).isSome := by
  by_cases here : d = c
  · subst here
    rw [record_alterCar_same, Option.isSome_map]
  · rw [record_alterCar_other s f here]

theorem isSome_alterCars (s : State) (f : CarId → CarRecord → CarRecord) (d : CarId) :
    (record (alterCars s f) d).isSome = (record s d).isSome := by
  simp [record, alterCars]

theorem closed_recordsMatch : Closed RecordsMatch where
  car _ h d := (isSome_alterCar _ _ d _).trans (h d)
  carsAll _ h d := (isSome_alterCars _ _ d).trans (h d)
  link h := h
  hist h := h
  plan h := h
  ret h := h
  svc _ h := h
  inds h := h
  report h := h
  add _ h := h
  change _ _ h := h
  remove h := h
  cleared h := h
  flags _ _ _ _ h := h

theorem plant_recordsMatch : Plant RecordsMatch where
  toInner := inner_of_closed closed_recordsMatch (fun {_ _ _} h d => (isSome_alterCar _ _ d _).trans (h d))
    (fun {_ _} h d => (isSome_alterCars _ _ d).trans (h d)) (fun h => h) (fun h => h) (fun h => h) (fun _ _ h => h)
  lines h := h
  tune _ _ h := h
  hand {w _ _} h := by
    unfold handCapacity
    split
    · exact h
    · exact closed_handSheds closed_recordsMatch (closed_settleAccount (w := w) closed_recordsMatch h)

/-! ## Restarts and resets -/

theorem recordsMatch_of_freshCars {s : State} {su : Setup} (setup : s.setup = su) (cars : s.cars = freshCars su) : RecordsMatch s := by
  intro c
  unfold record profile
  rw [cars, setup, freshCars, Table.mapAll_at]
  split <;> simp_all

theorem framed_recordsMatch : Framed RecordsMatch :=
  framed_of_any (fun h => h) (fun _ => recordsMatch_of_freshCars rfl rfl)

/-! ## Writes of the configuration -/

/-- A configuration with the same profiles leaves the match. -/
theorem recordsMatch_setSetup {s : State} {su : Setup} (profiles : su.profiles = s.setup.profiles) (h : RecordsMatch s) :
    RecordsMatch (s.setSetup su) := by
  intro c
  have same : profile (s.setSetup su) c = profile s c := congrArg (Table.at · c) profiles
  rw [same]
  exact h c

theorem recordsMatch_storeCar {s : State} {c : CarId} {p : CarProfile} (h : RecordsMatch s) : RecordsMatch (storeCar s c p) := by
  intro d
  unfold record profile
  by_cases here : d = c
  · subst here
    simp only [storeCar, markModified, State.setStore, State.setCars, State.setSetup, Table.put_at_same]
    split <;> simp_all
  · simp only [storeCar, markModified, State.setStore, State.setCars, State.setSetup, Table.put_at_other _ _ _ _ here]
    exact h d

section
variable {s t : State} (h : RecordsMatch s)
include h

theorem recordsMatch_ruleSetCar (f : CarForm) : RecordsMatch (ruleSetCar f s).st := by
  unfold ruleSetCar
  split
  · refine kept_inHalted (fun _ => ?_) h
    split
    · exact recordsMatch_storeCar h
    · exact h
  · exact h

theorem recordsMatch_ruleDropCar (n : Nat) : RecordsMatch (ruleDropCar n s).st := by
  refine kept_inHalted (fun _ => ?_) h
  repeat' split
  · exact h
  · have stored : ∀ c p, RecordsMatch (storeCar s c p) := fun _ _ => recordsMatch_storeCar h
    exact inner_driveLines plant_recordsMatch.toInner (kept_emptySlot plant_recordsMatch.toKept (stored _ _))
  · exact h

theorem recordsMatch_ruleSetLimits (f : LimitsForm) : RecordsMatch (ruleSetLimits f s).st := by
  refine kept_inHalted (fun _ => ?_) h
  split
  · exact inner_complete plant_recordsMatch.toInner
      (plant_capacityEvent plant_recordsMatch rfl rfl (recordsMatch_setSetup (s := begin s |>.st) rfl h))
  · exact h

theorem recordsMatch_changeSet (n : SetId) (x : SetSettings) : RecordsMatch (changeSet s n x) := by
  have stored : RecordsMatch (storeSet s n x) := recordsMatch_setSetup rfl h
  unfold changeSet
  dsimp only
  repeat' split
  all_goals exact stored

theorem recordsMatch_ruleSetGenset (f : GensetForm) : RecordsMatch (ruleSetGenset f s).st := by
  refine kept_inHalted (fun _ => ?_) h
  split
  · exact inner_complete plant_recordsMatch.toInner
      (plant_capacityEvent plant_recordsMatch (changeSet_c _ _ _).1 (changeSet_c _ _ _).2 (recordsMatch_changeSet (s := (begin s).st) h _ _))
  · exact h

theorem recordsMatch_changeLine (l : LineId) (x : LineSettings) : RecordsMatch (changeLine (begin s) l x).st := by
  have stored : RecordsMatch (storeLine s l x) := recordsMatch_setSetup rfl h
  unfold changeLine
  dsimp only
  repeat' split
  · exact stored
  · exact stored
  · exact plant_handLine plant_recordsMatch (w := ⟨_, _⟩) stored
  · exact stored

theorem recordsMatch_ruleSetLine (f : LineForm) : RecordsMatch (ruleSetLine f s).st := by
  refine kept_inHalted (fun _ => ?_) h
  split
  · exact inner_complete plant_recordsMatch.toInner (recordsMatch_changeLine (s := markModified s) h _ _)
  · exact h

theorem recordsMatch_storeIndicator (i : IndId) (x : IndSettings) : RecordsMatch (storeIndicator s i x) := recordsMatch_setSetup rfl h

theorem recordsMatch_ruleIndicatorPart (p : IndPart) : RecordsMatch (ruleIndicatorPart p s).st := by
  cases p with
  | full =>
    refine kept_inHalted (fun _ => ?_) h
    split
    · exact recordsMatch_storeIndicator h _ _
    · exact h
  | unlisted => exact h

theorem recordsMatch_ruleIndicatorValue (f : IndValueForm) : RecordsMatch (ruleIndicatorValue f s).st := by
  unfold ruleIndicatorValue
  split
  · exact recordsMatch_storeIndicator h _ _
  · exact h

theorem recordsMatch_ruleSavePlan (body : List Byte) : RecordsMatch (ruleSavePlan body s).st := by
  unfold ruleSavePlan
  split
  · refine kept_inHalted (fun _ => ?_) h
    split
    · exact inner_driveLines plant_recordsMatch.toInner (recordsMatch_setSetup (su := { s.setup with planId := _, autostart := _ }) rfl h)
    · exact h
  · exact h

end

/-- A request with contents whose rule keeps a property and leaves the reply path. -/
theorem framed_withBody {P : State → Prop} (F : Framed P) {α : Type} {s : State} {kind : ReqKind} {tag : Byte} {body : Body α}
    {rule : α → State → Taken} (keeps : ∀ (a : α) {x : State}, P x → P (rule a x).st)
    (same : ∀ (a : α) (x : State), (rule a x).st.port.replies = x.port.replies) (h : P s) :
    P (takeRequest s kind tag (withBody body rule)) := by
  refine framed_takeFrame F (fun {x} hx => ?_) (fun x => ?_) h
  · cases body with
    | fields a => exact keeps a hx
    | badLength => exact hx
  · cases body with
    | fields a => exact same a x
    | badLength => rfl

/-- A request that writes the configuration writes a car's record with its profile (R32 to R34). -/
theorem recordsMatch_writesSetup {c : Instr} {s t : State} (runs : exec c s = .next t) (h : RecordsMatch s) (writes : WritesSetup c) :
    RecordsMatch t := by
  have F := framed_recordsMatch
  cases c with
  | setLimits =>
    cases runs
    exact framed_withBody F (fun a _ hx => recordsMatch_ruleSetLimits hx a) (fun _ x => tuned_ruleSetLimits (tuned_replies x.port.replies) rfl) h
  | setCar =>
    cases runs
    exact framed_withBody F (fun a _ hx => recordsMatch_ruleSetCar hx a) (fun _ x => tuned_ruleSetCar (tuned_replies x.port.replies) rfl) h
  | dropCar =>
    cases runs
    exact framed_withBody F (fun a _ hx => recordsMatch_ruleDropCar hx a) (fun _ x => tuned_ruleDropCar (tuned_replies x.port.replies) rfl) h
  | setGenset =>
    cases runs
    exact framed_withBody F (fun a _ hx => recordsMatch_ruleSetGenset hx a) (fun _ x => tuned_ruleSetGenset (tuned_replies x.port.replies) rfl) h
  | setLine =>
    cases runs
    exact framed_withBody F (fun a _ hx => recordsMatch_ruleSetLine hx a) (fun _ x => tuned_ruleSetLine (tuned_replies x.port.replies) rfl) h
  | setIndicatorFull =>
    cases runs
    exact framed_withBody F (fun a _ hx => recordsMatch_ruleIndicatorPart hx a)
      (fun _ x => tuned_ruleIndicatorPart (tuned_replies x.port.replies) rfl) h
  | setIndicatorValue =>
    cases runs
    exact framed_withBody F (fun a _ hx => recordsMatch_ruleIndicatorValue hx a)
      (fun _ x => tuned_ruleIndicatorValue (tuned_replies x.port.replies) rfl) h
  | savePlan =>
    cases runs
    exact framed_takeFrame F (fun hx => recordsMatch_ruleSavePlan hx _) (fun x => tuned_ruleSavePlan (tuned_replies x.port.replies) rfl) h
  | _ => exact writes.elim

/-- Every step keeps the match of records and enrolment. -/
theorem recordsMatch_step {s t : State} (runs : step s = .next t) (h : RecordsMatch s) : RecordsMatch t := by
  unfold step at runs
  split at runs
  · cases runs; exact h
  · rename_i c rest _
    have waits : RecordsMatch (s.setPending rest) := h
    exact inner_exec plant_recordsMatch.toInner framed_recordsMatch runs waits
      (inner_reset plant_recordsMatch.toInner (fun _ _ _ _ => recordsMatch_of_freshCars rfl rfl) runs)
      (plant_movesPlant plant_recordsMatch framed_recordsMatch runs waits) (recordsMatch_writesSetup runs waits)

end Sys2Proof.Proofs.Records
end
section
/-! PROOFS. What the invariants of the queue, the group and the entries see of a car (R90, R131), and the primitive changes of it. -/

namespace Sys2Proof.Proofs.Holdings

open Sys2Proof.Machine Sys2Proof.Safety Sys2Proof.Proofs.Upkeep Sys2Proof.Proofs.Account Sys2Proof.Proofs.Ends Sys2Proof.Proofs.Cars

/-! ## Shapes -/

/-- A car's state, and how often it stands in the return queue, in the release group and in the permit table. -/
structure Shape where
  state : Option CarState
  queued : Nat
  staged : Nat
  held : Nat

/-- The shape of a car in a state of the part. -/
def shape (s : State) (c : CarId) : Shape :=
  ⟨stateOf s c, (s.ret.queue.map (·.car)).count c, (s.ret.group.map (·.car)).count c, (s.acct.entries.map (·.car)).count c⟩

/-- The car stands where its state says, once, and nowhere else. -/
def Shape.Fit (x : Shape) : Prop :=
  x.queued = (if x.state = some .queued then 1 else 0) ∧ x.staged = (if x.state = some .staged then 1 else 0)
    ∧ x.held = (if (x.state.map holdsEntry).getD false then 1 else 0)

/-- The car stands nowhere. -/
def Shape.Bare (x : Shape) : Prop := x.queued = 0 ∧ x.staged = 0 ∧ x.held = 0

/-- A state in which a car stands nowhere. -/
def bareState (st : CarState) : Bool := st != .queued && st != .staged && !holdsEntry st

def Shape.goTo (st : CarState) (x : Shape) : Shape := { x with state := x.state.map fun _ => st }

theorem Shape.fit_goTo_bare {x : Shape} {st : CarState} (bare : x.Bare) (state : bareState st = true) : (x.goTo st).Fit := by
  obtain ⟨queued, staged, held⟩ := bare
  simp only [bareState, Bool.and_eq_true, bne_iff_ne, Bool.not_eq_true'] at state
  cases is : x.state <;> simp [Shape.Fit, Shape.goTo, queued, staged, held, is, state]

theorem Shape.fit_goTo_held {x : Shape} {st : CarState} (queued : x.queued = 0) (staged : x.staged = 0) (held : x.held = 1)
    (recorded : x.state.isSome = true) (state : holdsEntry st = true) : (x.goTo st).Fit := by
  obtain ⟨was, is⟩ := Option.isSome_iff_exists.1 recorded
  cases st <;> simp_all [Shape.Fit, Shape.goTo, holdsEntry]

/-- A car that stands in the permit table, in one of the states that hold an entry. -/
structure Shape.Holding (x : Shape) : Prop where
  queued : x.queued = 0
  staged : x.staged = 0
  held : x.held = 1
  recorded : x.state.isSome = true

theorem Shape.Fit.holding {x : Shape} (fit : x.Fit) (held : x.held ≠ 0) : x.Holding := by
  obtain ⟨state, queued, staged, entries⟩ := x
  obtain ⟨queue, group, table⟩ := fit
  cases state with
  | none => simp_all
  | some st => cases st <;> simp_all [holdsEntry] <;> constructor <;> simp_all

theorem Shape.Fit.bare {x : Shape} (fit : x.Fit) {st : CarState} (state : x.state = some st) (bare : bareState st = true) : x.Bare := by
  obtain ⟨queue, group, table⟩ := fit
  simp only [bareState, Bool.and_eq_true, bne_iff_ne, Bool.not_eq_true'] at bare
  simp_all [Shape.Bare]

/-! ## States of the part -/

/-- Every car stands where its state says. -/
def AllFit (s : State) : Prop := ∀ c, (shape s c).Fit

/-- Every car but one stands where its state says. -/
def OthersFit (c : CarId) (s : State) : Prop := ∀ d, d ≠ c → (shape s d).Fit

/-- No car has another shape. -/
def Alike (s t : State) : Prop := ∀ c, shape t c = shape s c

/-- One car's shape has changed by `f`, and no other car has another shape. -/
structure Reshapes (c : CarId) (f : Shape → Shape) (s t : State) : Prop where
  here : shape t c = f (shape s c)
  others : ∀ d, d ≠ c → shape t d = shape s d

theorem Alike.trans {s t u : State} (h : Alike s t) (g : Alike t u) : Alike s u := fun c => (g c).trans (h c)

theorem Alike.refl (s : State) : Alike s s := fun _ => rfl

theorem Alike.allFit {s t : State} (h : Alike s t) (fit : AllFit s) : AllFit t := fun c => by rw [h c]; exact fit c

theorem Alike.othersFit {s t : State} {c : CarId} (h : Alike s t) (fit : OthersFit c s) : OthersFit c t := fun d other => by
  rw [h d]
  exact fit d other

theorem AllFit.others {s : State} (h : AllFit s) (c : CarId) : OthersFit c s := fun d _ => h d

theorem OthersFit.all {s : State} {c : CarId} (h : OthersFit c s) (here : (shape s c).Fit) : AllFit s := fun d => by
  by_cases same : d = c
  · rw [same]; exact here
  · exact h d same

theorem Reshapes.othersFit {c : CarId} {f : Shape → Shape} {s t : State} (h : Reshapes c f s t) (fit : OthersFit c s) : OthersFit c t :=
  fun d other => by
    rw [h.others d other]
    exact fit d other

theorem Reshapes.allFit {c : CarId} {f : Shape → Shape} {s t : State} (h : Reshapes c f s t) (fit : OthersFit c s)
    (here : (f (shape s c)).Fit) : AllFit t := (h.othersFit fit).all (by rw [h.here]; exact here)

theorem Reshapes.trans {c : CarId} {f g : Shape → Shape} {s t u : State} (h : Reshapes c f s t) (k : Reshapes c g t u) :
    Reshapes c (g ∘ f) s u :=
  ⟨by rw [k.here, h.here]; rfl, fun d other => (k.others d other).trans (h.others d other)⟩

theorem Reshapes.alike {c : CarId} {f : Shape → Shape} {s t u : State} (h : Reshapes c f s t) (k : Alike t u) : Reshapes c f s u :=
  ⟨(k c).trans h.here, fun d other => (k d).trans (h.others d other)⟩

theorem Alike.reshapes {c : CarId} {f : Shape → Shape} {s t u : State} (h : Alike s t) (k : Reshapes c f t u) : Reshapes c f s u :=
  ⟨by rw [k.here, h c], fun d other => (k.others d other).trans (h d)⟩

/-! ## The invariants, car by car -/

theorem allFit_of_match {s : State} (returns : ReturnsMatch s) (entries : EntriesMatch s) (table : OneEntryPerCar s) : AllFit s := by
  obtain ⟨once, places⟩ := returns
  intro c
  obtain ⟨queue, group⟩ := places c
  have queue_once := (List.nodup_append.1 once).1
  have group_once := (List.nodup_append.1 once).2.1
  have holds : c ∈ s.acct.entries.map (·.car) ↔ (entryOf s c).isSome = true := by
    simp [entryOf, List.find?_isSome]
  refine ⟨?_, ?_, ?_⟩
  · show (s.ret.queue.map (·.car)).count c = if stateOf s c = some .queued then 1 else 0
    rw [queue_once.count]
    simp only [queue]
  · show (s.ret.group.map (·.car)).count c = if stateOf s c = some .staged then 1 else 0
    rw [group_once.count]
    simp only [group]
  · show (s.acct.entries.map (·.car)).count c = if ((stateOf s c).map holdsEntry).getD false then 1 else 0
    rw [List.Nodup.count table, ← entries c]
    simp only [holds]

theorem count_pos_iff_entryOf (s : State) (c : CarId) : (shape s c).held ≠ 0 ↔ (entryOf s c).isSome = true := by
  have holds : c ∈ s.acct.entries.map (·.car) ↔ (entryOf s c).isSome = true := by
    simp [entryOf, List.find?_isSome]
  rw [← holds, ← List.count_pos_iff, Nat.pos_iff_ne_zero]
  rfl

theorem returnsMatch_of_allFit {s : State} (h : AllFit s) : ReturnsMatch s := by
  refine ⟨?_, fun c => ?_⟩
  · rw [List.nodup_iff_count_le_one]
    intro c
    obtain ⟨queue, group, _⟩ := h c
    rw [List.count_append]
    show (shape s c).queued + (shape s c).staged ≤ 1
    rw [queue, group]
    split <;> split <;> simp_all
  · obtain ⟨queue, group, _⟩ := h c
    rw [← List.count_pos_iff, ← List.count_pos_iff]
    show (0 < (shape s c).queued ↔ (shape s c).state = some .queued) ∧ (0 < (shape s c).staged ↔ (shape s c).state = some .staged)
    rw [queue, group]
    constructor <;> split <;> simp_all

theorem entriesMatch_of_allFit {s : State} (h : AllFit s) : EntriesMatch s := by
  intro c
  obtain ⟨_, _, table⟩ := h c
  have held := count_pos_iff_entryOf s c
  rw [table] at held
  show _ = ((shape s c).state.map holdsEntry).getD false
  cases is : ((shape s c).state.map holdsEntry).getD false <;> cases has : (entryOf s c).isSome <;> simp_all

/-! ## What no car's shape sees -/

theorem alike_of_linkOnly {s t : State} (h : LinkOnly s t) : Alike s t := fun _ => by rw [h]; rfl

theorem alike_of_portOnly {s t : State} (h : PortOnly s t) : Alike s t := fun _ => by rw [h]; rfl

theorem alike_of_accountOnly {s t : State} (h : AccountOnly s t) (cars : t.acct.entries.map (·.car) = s.acct.entries.map (·.car)) :
    Alike s t := fun c => by
  have entries : (shape t c).held = (shape s c).held := congrArg (List.count c) cars
  have state : stateOf t c = stateOf s c := by
    unfold stateOf record
    rw [h]
  have ret : t.ret = s.ret := by rw [h]
  show Shape.mk _ _ _ (shape t c).held = Shape.mk _ _ _ (shape s c).held
  rw [entries, state, ret]

theorem alike_place (s : State) (c : CarId) (k : CmdKind) : Alike s (place s c k) := alike_of_linkOnly (linkOnly_placeCommand s c k none none)

theorem alike_emptySlot (s : State) (c : CarId) : Alike s (emptySlot s c) := fun _ => rfl

theorem alike_reportCar (s : State) (c : CarId) (old : Option CarRecord) (cause : CarCause) (decline : Option Decline) :
    Alike s (reportCar s c old cause decline) := alike_of_portOnly (portOnly_reportCar s c old cause decline)

theorem alike_settleAccount (w : Work) (eased : Bool) : Alike w.st (settleAccount w eased).st :=
  alike_of_accountOnly (accountOnly_settleAccount w eased) (entries_settleAccount (g := fun e => e.car) (fun _ _ => rfl) w eased)

theorem alike_moveToStop (w : Work) (c : CarId) (cause : StopCause) : Alike w.st (moveToStop w c cause).st :=
  alike_of_accountOnly (accountOnly_moveToStop w c cause) (entries_moveToStop (g := fun e => e.car) (fun _ _ => rfl) w c cause)

theorem alike_change {s : State} {c : CarId} {f : Entry → Entry} (car : ∀ e, (f e).car = e.car) : Alike s (s.setAcct (s.acct.change c f)) :=
  alike_of_accountOnly rfl (change_entries_map (fun e => e.car) s.acct c car)

theorem alike_alterCar {s : State} {c : CarId} {f : CarRecord → CarRecord} (state : ∀ r, (f r).state = r.state) : Alike s (alterCar s c f) := by
  intro d
  have same : stateOf (alterCar s c f) d = stateOf s d := by
    unfold stateOf
    by_cases here : d = c
    · rw [here, record_alterCar_same, Option.map_map]
      exact congrArg (fun g => (record s c).map g) (funext state)
    · rw [record_alterCar_other s f here]
  show Shape.mk (stateOf (alterCar s c f) d) _ _ _ = Shape.mk (stateOf s d) _ _ _
  rw [same]
  rfl

theorem alike_alterCars {s : State} {f : CarId → CarRecord → CarRecord} (state : ∀ c r, (f c r).state = r.state) : Alike s (alterCars s f) := by
  intro d
  have same : stateOf (alterCars s f) d = stateOf s d := by
    unfold stateOf record
    simp only [alterCars, State.setCars, Table.mapAll_at, Option.map_map]
    exact congrArg (fun g => (s.cars.at d).map g) (funext (state d))
  show Shape.mk (stateOf (alterCars s f) d) _ _ _ = Shape.mk (stateOf s d) _ _ _
  rw [same]
  rfl

theorem alike_clearPark (s : State) (c : CarId) : Alike s (clearPark s c) := alike_alterCar fun _ => rfl

theorem alike_consumeAttempt (s : State) (c : CarId) : Alike s (consumeAttempt s c) := alike_alterCar fun _ => rfl

/-! ## A car in another state -/

theorem reshapes_moveCar (s : State) (c : CarId) (st : CarState) : Reshapes c (Shape.goTo st) s (moveCar s c st) where
  here := by
    have state : stateOf (moveCar s c st) c = (stateOf s c).map fun _ => st := by
      unfold stateOf
      rw [record_moveCar_same, Option.map_map, Option.map_map]
      rfl
    show Shape.mk (stateOf (moveCar s c st) c) _ _ _ = Shape.mk ((stateOf s c).map fun _ => st) _ _ _
    rw [state]
    rfl
  others d other := by
    have state : stateOf (moveCar s c st) d = stateOf s d := by
      unfold stateOf
      rw [record_moveCar_other s st other]
    show Shape.mk (stateOf (moveCar s c st) d) _ _ _ = Shape.mk (stateOf s d) _ _ _
    rw [state]
    rfl

/-- A car that stands nowhere moved to a state in which none does. -/
theorem allFit_moveCar_bare {s : State} {c : CarId} {st : CarState} (others : OthersFit c s) (bare : (shape s c).Bare)
    (state : bareState st = true) : AllFit (moveCar s c st) := (reshapes_moveCar s c st).allFit others (Shape.fit_goTo_bare bare state)

/-- A car that holds an entry moved to a state that says so. -/
theorem allFit_moveCar_held {s : State} {c : CarId} {st : CarState} (others : OthersFit c s) (holding : (shape s c).Holding)
    (state : holdsEntry st = true) : AllFit (moveCar s c st) :=
  (reshapes_moveCar s c st).allFit others (Shape.fit_goTo_held holding.queued holding.staged holding.held holding.recorded state)

end Sys2Proof.Proofs.Holdings
end
section
/-! PROOFS. A car's shape through the operations on its entry and on the queue and the group, and the evaluation rule (R40). -/

namespace Sys2Proof.Proofs.Holdings

open Sys2Proof.Machine Sys2Proof.Safety Sys2Proof.Proofs.Upkeep Sys2Proof.Proofs.Account Sys2Proof.Proofs.Ends Sys2Proof.Proofs.Cars

/-! ## The permit table -/

def Shape.enter (x : Shape) : Shape := { x with held := max 1 x.held }

def Shape.release (x : Shape) : Shape := { x with held := x.held - 1 }

/-- A car that stands nowhere and has a record. -/
structure Shape.Loose (x : Shape) : Prop where
  queued : x.queued = 0
  staged : x.staged = 0
  held : x.held = 0
  recorded : x.state.isSome = true

theorem Shape.Loose.bare {x : Shape} (h : x.Loose) : x.Bare := ⟨h.queued, h.staged, h.held⟩

theorem Shape.Loose.enter {x : Shape} (h : x.Loose) : x.enter.Holding :=
  ⟨h.queued, h.staged, by show max 1 x.held = 1; rw [h.held]; rfl, h.recorded⟩

theorem Shape.Holding.release {x : Shape} (h : x.Holding) : x.release.Loose :=
  ⟨h.queued, h.staged, by show x.held - 1 = 0; rw [h.held], h.recorded⟩

theorem count_eraseP_car (c d : CarId) : ∀ es : List Entry, ((es.eraseP fun e => e.car == c).map (·.car)).count d
    = (es.map (·.car)).count d - if d = c then 1 else 0
  | [] => by simp
  | e :: es => by
    by_cases here : e.car = c
    · rw [List.eraseP_cons_of_pos (p := fun e : Entry => e.car == c) (beq_iff_eq.2 here), List.map_cons, List.count_cons, here]
      by_cases same : d = c
      · simp [same]
      · simp [same, Ne.symm same]
    · rw [List.eraseP_cons_of_neg (p := fun e : Entry => e.car == c) (by simpa using here), List.map_cons, List.map_cons, List.count_cons,
        List.count_cons, count_eraseP_car c d es]
      by_cases same : d = c
      · simp [same, here]
      · simp [same]

theorem reshapes_remove (s : State) (c : CarId) : Reshapes c Shape.release s (s.setAcct (s.acct.remove c)) := by
  have count : ∀ d, ((s.acct.remove c).entries.map (·.car)).count d = (s.acct.entries.map (·.car)).count d - if d = c then 1 else 0 := by
    intro d
    unfold Account.remove
    split
    · exact count_eraseP_car c d _
    · rename_i none
      have zero : d = c → (s.acct.entries.map (·.car)).count d = 0 := fun same => by
        rw [same, List.count_eq_zero]
        intro mem
        obtain ⟨e, mem, car⟩ := List.mem_map.1 mem
        exact List.find?_eq_none.1 none e mem (beq_iff_eq.2 car)
      by_cases same : d = c
      · rw [zero same]; simp
      · simp [same]
  refine ⟨?_, fun d other => ?_⟩
  · show Shape.mk _ _ _ (((s.acct.remove c).entries.map (·.car)).count c) = _
    rw [count, if_pos rfl]
    rfl
  · show Shape.mk _ _ _ (((s.acct.remove c).entries.map (·.car)).count d) = _
    rw [count, if_neg other]
    rfl

theorem reshapes_add {s : State} {e : Entry} (none : entryOf s e.car = none) : Reshapes e.car Shape.enter s (s.setAcct (s.acct.add e)) := by
  have zero : (shape s e.car).held = 0 := by
    have := (count_pos_iff_entryOf s e.car).1
    by_contra held
    have := this held
    rw [none] at this
    cases this
  have count : ∀ d, ((s.acct.add e).entries.map (·.car)).count d = (s.acct.entries.map (·.car)).count d + if d = e.car then 1 else 0 := by
    intro d
    rw [Account.add, List.map_append, List.count_append]
    by_cases same : d = e.car
    · simp [same]
    · simp [same, Ne.symm same]
  refine ⟨?_, fun d other => ?_⟩
  · show Shape.mk _ _ _ (((s.acct.add e).entries.map (·.car)).count e.car) = Shape.mk _ _ _ (max 1 (shape s e.car).held)
    rw [count, if_pos rfl, zero, show (s.acct.entries.map (·.car)).count e.car = 0 from zero]
    rfl
  · show Shape.mk _ _ _ (((s.acct.add e).entries.map (·.car)).count d) = _
    rw [count, if_neg other]
    rfl

theorem reshapes_enterEntry (w : Work) (e : Entry) : Reshapes e.car Shape.enter w.st (enterEntry w e).st := by
  unfold enterEntry
  split
  · rename_i has
    have held : (shape w.st e.car).held ≠ 0 := (count_pos_iff_entryOf w.st e.car).2 has
    refine ⟨?_, fun _ _ => rfl⟩
    show shape w.st e.car = Shape.mk _ _ _ (max 1 (shape w.st e.car).held)
    rw [Nat.max_eq_right (Nat.one_le_iff_ne_zero.2 held)]
  · rename_i free
    have none : entryOf w.st e.car = none := by simpa using free
    exact (reshapes_add none).alike (alike_settleAccount (w.up fun s => s.setAcct (s.acct.add e)) false)

theorem alike_undesignated (w : Work) (c : CarId) (p : CmdKind → Bool) (b : Bool) :
    Alike w.st (if b then ((w.up fun s => removeCommand s c p).up fun s => endDesignation s c).noteSs
      else w.up fun s => removeCommand s c p).st := by
  cases b <;> exact fun _ => rfl

theorem reshapes_releaseEntry (w : Work) (c : CarId) : Reshapes c Shape.release w.st (releaseEntry w c).st := by
  unfold releaseEntry
  split
  · rename_i e _
    have first := alike_undesignated w c (fun k => k == .stopNext || ((e.kind == .returning || e.kind == .service) && isGrantCommand k)) e.designates
    exact (first.reshapes (reshapes_remove _ c)).alike (alike_settleAccount (Work.up _ fun s => s.setAcct (s.acct.remove c)) true)
  · rename_i none
    have zero : (shape w.st c).held = 0 := by
      by_contra held
      have := (count_pos_iff_entryOf w.st c).1 held
      rw [none] at this
      cases this
    refine ⟨?_, fun _ _ => rfl⟩
    show shape w.st c = Shape.mk _ _ _ ((shape w.st c).held - 1)
    rw [show (shape w.st c).held - 1 = (shape w.st c).held by rw [zero]]

theorem alike_convertEntry (w : Work) (c : CarId) : Alike w.st (convertEntry w c).st := by
  unfold convertEntry
  split
  · rename_i e _
    have changed : ∀ v : Work, Alike v.st
        (settleAccount (v.up fun s => s.setAcct (s.acct.change c (Entry.toStanding (worstOf s c)))) false).st := fun v =>
      (alike_change (s := v.st) (c := c) (f := Entry.toStanding (worstOf v.st c)) fun _ => rfl).trans
        (alike_settleAccount (v.up fun s => s.setAcct (s.acct.change c (Entry.toStanding (worstOf s c)))) false)
    exact (alike_undesignated w c isGrantCommand e.designates).trans (changed _)
  · exact .refl _

theorem alike_stepEntry (w : Work) (c : CarId) : Alike w.st (stepEntry w c).st :=
  (alike_change (s := w.st) (c := c) (f := Entry.toRun) fun _ => rfl).trans
    (alike_settleAccount (w.up fun s => s.setAcct (s.acct.change c Entry.toRun)) true)

/-! ## The queue and the group -/

def Shape.leave (x : Shape) : Shape := { x with queued := 0, staged := 0 }

def Shape.enqueue (x : Shape) : Shape := { x with queued := x.queued + 1 }

theorem count_filter_car {α : Type} {g : α → CarId} (c d : CarId) (l : List α) :
    ((l.filter fun x => g x != c).map g).count d = if d = c then 0 else (l.map g).count d := by
  have same : (l.filter fun x => g x != c).map g = (l.map g).filter fun d => d != c := by rw [List.filter_map]; rfl
  rw [same]
  by_cases here : d = c
  · rw [if_pos here, here, List.count_eq_zero]
    intro mem
    simpa using (List.mem_filter.1 mem).2
  · rw [if_neg here, List.count_filter (p := fun d => d != c) (bne_iff_ne.2 here)]

theorem reshapes_without (s : State) (c : CarId) : Reshapes c Shape.leave s (s.setRet (s.ret.without c)) := by
  have queue := fun d => count_filter_car (g := fun x : QueueItem => x.car) c d s.ret.queue
  have group := fun d => count_filter_car (g := fun x : StagedCar => x.car) c d s.ret.group
  refine ⟨?_, fun d other => ?_⟩
  · show Shape.mk _ (((s.ret.queue.filter fun x => x.car != c).map (·.car)).count c)
      (((s.ret.group.filter fun x => x.car != c).map (·.car)).count c) _ = _
    rw [queue, group, if_pos rfl, if_pos rfl]
    rfl
  · show Shape.mk _ (((s.ret.queue.filter fun x => x.car != c).map (·.car)).count d)
      (((s.ret.group.filter fun x => x.car != c).map (·.car)).count d) _ = _
    rw [queue, group, if_neg other, if_neg other]
    rfl

theorem reshapes_leaveReturns (w : Work) (c : CarId) : Reshapes c Shape.leave w.st (leaveReturns w c).st := by
  unfold leaveReturns
  split
  · exact reshapes_without w.st c
  · rename_i out
    simp only [inReturns, Bool.or_eq_true, List.any_eq_true, beq_iff_eq, not_or, not_exists, not_and] at out
    have queue : (w.st.ret.queue.map (·.car)).count c = 0 := by
      rw [List.count_eq_zero, List.mem_map]
      exact fun ⟨x, mem, car⟩ => out.1 x mem car
    have group : (w.st.ret.group.map (·.car)).count c = 0 := by
      rw [List.count_eq_zero, List.mem_map]
      exact fun ⟨x, mem, car⟩ => out.2 x mem car
    refine ⟨?_, fun _ _ => rfl⟩
    show Shape.mk _ _ _ _ = Shape.mk _ 0 0 _
    rw [queue, group]
    rfl

theorem perm_insertItem (s : State) (x : QueueItem) : ((insertItem s x).ret.queue.map (·.car)).Perm (x.car :: s.ret.queue.map (·.car)) :=
  (Shedding.perm_insertBy (queueBefore s.ret.nextSeq) x s.ret.queue).map (·.car)

theorem reshapes_enqueue (w : Work) (c : CarId) (front : Bool) : Reshapes c Shape.enqueue w.st (enqueue w c front).st := by
  obtain ⟨x, car, is⟩ : ∃ x : QueueItem, x.car = c
      ∧ (enqueue w c front).st = insertItem (w.st.setRet { w.st.ret with nextSeq := w.st.ret.nextSeq + 1 }) x := ⟨_, rfl, rfl⟩
  have queue : ∀ d, ((enqueue w c front).st.ret.queue.map (·.car)).count d = (w.st.ret.queue.map (·.car)).count d + if c = d then 1 else 0 := by
    intro d
    rw [is, (perm_insertItem _ x).count_eq, List.count_cons, car]
    simp
  refine ⟨?_, fun d other => ?_⟩
  · show Shape.mk (stateOf w.st c) (((enqueue w c front).st.ret.queue.map (·.car)).count c) _ _ = _
    rw [queue, if_pos rfl]
    rfl
  · show Shape.mk (stateOf w.st d) (((enqueue w c front).st.ret.queue.map (·.car)).count d) _ _ = _
    rw [queue, if_neg (Ne.symm other)]
    rfl

/-! ## The evaluation rule -/

theorem record_ne_none {s : State} {c : CarId} (recorded : (shape s c).state.isSome = true) : record s c ≠ none := by
  intro unrecorded
  have state : (shape s c).state = none := by
    show (record s c).map _ = none
    rw [unrecorded]
    rfl
  rw [state] at recorded
  cases recorded

section
variable {w : Work} {c : CarId} (others : OthersFit c w.st) (loose : (shape w.st c).Loose)
include others loose

theorem allFit_deferCar : AllFit (deferCar w c).st := by
  have entered := reshapes_enterEntry w (untestedEntry w.st c false)
  have held : (shape (enterUntested w c false).st c).Holding := by
    rw [show shape (enterUntested w c false).st c = _ from entered.here]
    exact loose.enter
  exact allFit_moveCar_held (s := (enterUntested w c false).st) (entered.othersFit others) held rfl

theorem allFit_adoptCar : AllFit (adoptCar w c).st := by
  have entered := (reshapes_enterEntry w (untestedEntry w.st c true)).alike (alike_place _ c .stopNext)
  have held : (shape (place (enterUntested w c true).st c .stopNext) c).Holding := by
    rw [show shape (place (enterUntested w c true).st c .stopNext) c = _ from entered.here]
    exact loose.enter
  exact allFit_moveCar_held (s := place (enterUntested w c true).st c .stopNext) (entered.othersFit others) held rfl

theorem allFit_holdAs {st : CarState} (state : bareState st = true) : AllFit (holdAs w.st c st) := by
  have placed := alike_place w.st c .hold
  exact allFit_moveCar_bare (placed.othersFit others) (by rw [placed c]; exact loose.bare) state

theorem allFit_enqueued (front : Bool) : AllFit ((enqueue w c front).up fun s => moveCar s c .queued).st := by
  refine ((reshapes_enqueue w c front).trans (reshapes_moveCar _ c .queued)).allFit others ?_
  obtain ⟨queued, staged, held, recorded⟩ := loose
  obtain ⟨st, is⟩ := Option.isSome_iff_exists.1 recorded
  simp [Shape.Fit, Shape.goTo, Shape.enqueue, queued, staged, held, is, holdsEntry]

theorem allFit_parkCar : AllFit (parkCar w.st c) := by
  have placed := alike_place w.st c .park
  have idle : AllFit (moveCar (place w.st c .park) c .idle) :=
    allFit_moveCar_bare (placed.othersFit others) (by rw [placed c]; exact loose.bare) rfl
  exact Alike.allFit (alike_alterCar fun _ => rfl) idle

theorem allFit_failCar {why : FailReason} : AllFit (failCar w.st c why) :=
  have failed : AllFit (moveCar w.st c .failed) := allFit_moveCar_bare others loose.bare rfl
  Alike.allFit (alike_alterCar fun _ => rfl) failed

theorem allFit_evaluateFull {claim : Bool} : AllFit (evaluateFull w c claim).st := by
  unfold evaluateFull
  split
  · rename_i unrecorded
    exact absurd unrecorded (record_ne_none loose.recorded)
  · have cleared : Alike w.st (setCancelled (clearPark w.st c) c false) := alike_clearPark w.st c
    have others' := cleared.othersFit others
    have loose' : (shape (setCancelled (clearPark w.st c) c false) c).Loose := by rw [cleared c]; exact loose
    dsimp only
    split
    · exact allFit_deferCar (w := w.up fun s => setCancelled (clearPark s c) c false) others' loose'
    split
    · exact allFit_holdAs (w := w.up fun s => setCancelled (clearPark s c) c false) others' loose' rfl
    split
    · have placed := alike_place (setCancelled (clearPark w.st c) c false) c .hold
      exact allFit_failCar (w := ⟨place (setCancelled (clearPark w.st c) c false) c .hold, w.nt⟩) (placed.othersFit others')
        (by rw [placed c]; exact loose')
    split
    · exact allFit_parkCar (w := w.up fun s => setCancelled (clearPark s c) c false) others' loose'
    · exact allFit_enqueued (w := w.up fun s => setCancelled (clearPark s c) c false) others' loose' _

theorem allFit_evaluateSettling : AllFit (evaluateSettling w c).st := by
  unfold evaluateSettling
  split
  · rename_i unrecorded
    exact absurd unrecorded (record_ne_none loose.recorded)
  · have cleared := alike_clearPark w.st c
    have others' := cleared.othersFit others
    have loose' : (shape (clearPark w.st c) c).Loose := by rw [cleared c]; exact loose
    dsimp only
    split
    · exact allFit_deferCar (w := w.up fun s => clearPark s c) others' loose'
    split
    · exact allFit_holdAs (w := w.up fun s => clearPark s c) others' loose' rfl
    · exact allFit_holdAs (w := w.up fun s => clearPark s c) others' loose' rfl

/-- A car that stands nowhere evaluated, in a plan state in which cars may hold entries. -/
theorem allFit_evaluate {claim : Bool} (loud : ¬ Quiet w.st.plan.state) : AllFit (evaluate w c claim).st := by
  unfold evaluate
  split
  · exact allFit_evaluateFull others loose
  · exact allFit_evaluateFull others loose
  · exact allFit_evaluateSettling others loose
  · exact allFit_holdAs others loose rfl
  all_goals rename_i state; exact absurd (by rw [state]; simp [Quiet]) loud

end

end Sys2Proof.Proofs.Holdings
end
section
/-! PROOFS. A car's shape through the rules that a status reply calls for (R39, R42 to R48). -/

namespace Sys2Proof.Proofs.Holdings

open Sys2Proof.Machine Sys2Proof.Safety Sys2Proof.Proofs.Upkeep Sys2Proof.Proofs.Account Sys2Proof.Proofs.Ends Sys2Proof.Proofs.Cars

/-! ## Cars that hold an entry, and cars that do not -/

theorem held_iff_entry {s : State} {c : CarId} : (shape s c).held ≠ 0 ↔ (entryOf s c).isSome = true := count_pos_iff_entryOf s c

theorem holding_of_entry {s : State} {c : CarId} (fit : AllFit s) (has : (entryOf s c).isSome = true) : (shape s c).Holding :=
  (fit c).holding (held_iff_entry.2 has)

theorem loud_of_entry {s : State} {c : CarId} (quiet : QuietStage s) (has : (entryOf s c).isSome = true) : ¬ Quiet s.plan.state := fun is => by
  obtain ⟨entries, _, _⟩ := quiet is
  simp [entryOf, entries] at has

theorem loose_of_state {s : State} {c : CarId} {st : CarState} (fit : AllFit s) (state : stateOf s c = some st) (bare : bareState st = true) :
    (shape s c).Loose := by
  obtain ⟨queued, staged, held⟩ := (fit c).bare state bare
  exact ⟨queued, staged, held, by show (stateOf s c).isSome = true; rw [state]; rfl⟩

theorem loud_of_adopts {p : PlanState} (is : adopts p = true) : ¬ Quiet p := by
  rintro (rfl | rfl | rfl) <;> cases is

theorem loud_of_evaluates {p : PlanState} (is : evaluates p = true) : ¬ Quiet p := by
  rintro (rfl | rfl | rfl) <;> cases is

/-- The middle of an event of a car that holds an entry: every car stands where its state says, and the quiet stage is empty. -/
structure Steady (w : Work) (c : CarId) : Prop where
  fit : AllFit w.st
  quiet : QuietStage w.st
  entered : (entryOf w.st c).isSome = true

section
variable {w : Work} {c : CarId}

theorem Steady.loud (h : Steady w c) : ¬ Quiet w.st.plan.state := loud_of_entry h.quiet h.entered

theorem Steady.holding (h : Steady w c) : (shape w.st c).Holding := holding_of_entry h.fit h.entered

theorem Steady.alike {v : Work} (h : Steady w c) (like : Alike w.st v.st) (quiet : QuietStage v.st) : Steady v c :=
  ⟨like.allFit h.fit, quiet, held_iff_entry.1 (by rw [like c]; exact held_iff_entry.2 h.entered)⟩

/-- The car moved to a state that holds an entry keeps it. -/
theorem Steady.move (h : Steady w c) {st : CarState} (state : holdsEntry st = true) : Steady (w.up fun s => moveCar s c st) c where
  fit := allFit_moveCar_held (h.fit.others c) h.holding state
  quiet := kept_moveCar kept_quietStage h.quiet
  entered := held_iff_entry.1 (by
    have here : (shape (moveCar w.st c st) c).held = (shape w.st c).held := by
      rw [(reshapes_moveCar w.st c st).here]
      rfl
    show (shape (moveCar w.st c st) c).held ≠ 0
    rw [here]
    exact held_iff_entry.2 h.entered)

/-- The entry released: the car stands nowhere, and no other car is touched. -/
theorem Steady.released (h : Steady w c) : OthersFit c (releaseEntry w c).st ∧ (shape (releaseEntry w c).st c).Loose := by
  have release := reshapes_releaseEntry w c
  exact ⟨release.othersFit (h.fit.others c), by rw [release.here]; exact h.holding.release⟩

theorem releaseEntry_planState (w : Work) (c : CarId) : (releaseEntry w c).st.plan.state = w.st.plan.state :=
  kept_releaseEntry (kept_planState w.st.plan.state) rfl

/-- The entry released and the car evaluated (R42, R45, R46, R96, R98, R146). -/
theorem Steady.evaluated (h : Steady w c) {v : Work} {claim : Bool} (like : Alike (releaseEntry w c).st v.st)
    (plan : v.st.plan.state = (releaseEntry w c).st.plan.state) : AllFit (evaluate v c claim).st := by
  obtain ⟨others, loose⟩ := h.released
  refine allFit_evaluate (like.othersFit others) (by rw [like c]; exact loose) ?_
  rw [plan, releaseEntry_planState]
  exact h.loud

/-! ## Runs (R42 to R46) -/

theorem alike_handStop (w : Work) (c : CarId) (e : Entry) : Alike w.st (handStop w c e).1.st := by
  unfold handStop
  split
  · dsimp only
    split
    · exact alike_consumeAttempt _ _
    · exact .refl _
  · exact .refl _

theorem allFit_stopCar (h : Steady w c) : AllFit (stopCar w c).st := by
  unfold stopCar
  split
  · exact h.fit
  · rename_i e _
    dsimp only
    split
    · exact h.evaluated (.refl _) rfl
    · exact h.evaluated (alike_handStop _ c e) (kept_handStop (kept_planState _) rfl)

theorem allFit_startExpired (h : Steady w c) : AllFit (startExpired w c).st := h.evaluated (alike_consumeAttempt _ c) rfl

theorem allFit_deferredRules (h : Steady w c) (r : CarRecord) : AllFit (deferredRules w c r).work.st := by
  unfold deferredRules
  split
  · exact h.evaluated (.refl _) rfl
  · exact h.fit

theorem allFit_motionRules (h : Steady w c) (st : CarState) (r : CarRecord) : AllFit (motionRules w c st r).work.st := by
  unfold motionRules
  split
  · exact h.fit
  split
  · exact h.fit
  split
  · split
    · exact allFit_stopCar h
    · exact h.fit
  · exact allFit_stopCar h
  · exact allFit_stopCar h
  · exact h.fit

theorem allFit_outOfOrderRule (h : Steady w c) (r : CarRecord) : AllFit (outOfOrderRule w c r).st := by
  have emptied : Steady (w.up fun s => emptySlot s c) c := h.alike (alike_emptySlot w.st c) (kept_emptySlot kept_quietStage h.quiet)
  unfold outOfOrderRule
  dsimp only
  split
  · exact emptied.evaluated (.refl _) rfl
  · have stopped : Steady (moveToStop (w.up fun s => emptySlot s c) c .authority) c :=
      emptied.alike (alike_moveToStop _ c .authority) (kept_moveToStop kept_quietStage emptied.quiet)
    exact (stopped.move rfl).fit

theorem allFit_localRule (h : Steady w c) : AllFit (localRule w c).st := by
  have emptied : Steady (w.up fun s => emptySlot s c) c := h.alike (alike_emptySlot w.st c) (kept_emptySlot kept_quietStage h.quiet)
  have converted : Steady (convertEntry (w.up fun s => emptySlot s c) c) c :=
    emptied.alike (alike_convertEntry _ c) (kept_convertEntry kept_quietStage emptied.quiet)
  exact (converted.move rfl).fit

/-- The step of a START-phase entry, with the state it brings (R42, R95). -/
theorem Steady.stepped (h : Steady w c) {st : CarState} (state : holdsEntry st = true) :
    Steady ((stepEntry w c).up fun s => moveCar s c st) c :=
  (h.alike (v := stepEntry w c) (alike_stepEntry w c) (kept_stepEntry kept_quietStage h.quiet)).move state

theorem holdsEntry_steppedState {st : CarState} (state : holdsEntry st = true) : holdsEntry (steppedState st) = true := by
  unfold steppedState
  split
  · rfl
  · exact state

/-- The authority rules and then the motion rules, once the account has had the reply (R42, R44, R46). -/
theorem allFit_authorityRules (h : Steady w c) (st : CarState) (r : CarRecord) (cause : Option CarCause) :
    AllFit (if underLocal r then ⟨localRule w c, some .authority⟩
      else if outOfOrder r && underway st then ⟨outOfOrderRule w c r, some .authority⟩
      else ⟨(motionRules w c st r).work, cause⟩ : Ruled).work.st := by
  split
  · exact allFit_localRule h
  split
  · exact allFit_outOfOrderRule h r
  · exact allFit_motionRules h st r

theorem allFit_runRules (h : Steady w c) {st : CarState} (state : holdsEntry st = true) (x : CarStatus) (r : CarRecord) :
    AllFit (runRules w c st x r).work.st := by
  unfold runRules
  split
  · exact h.fit
  · rename_i e _
    cases handedOutcome e x r with
    | expired => exact allFit_startExpired h
    | stands => exact allFit_authorityRules h st r _
    | stepped => exact allFit_authorityRules (h.stepped (holdsEntry_steppedState state)) (steppedState st) r _

theorem allFit_entryRules (h : Steady w c) {st : CarState} (state : holdsEntry st = true) (x : CarStatus) (r : CarRecord) :
    AllFit (entryRules w c st x r).work.st := by
  unfold entryRules
  split
  · exact allFit_deferredRules h r
  · exact allFit_runRules h state x r

theorem holdsEntry_stateFromEntry (e : Entry) : holdsEntry (stateFromEntry e) = true := by
  unfold stateFromEntry
  split <;> rfl

theorem allFit_resume (h : Steady w c) (x : CarStatus) (r : CarRecord) : AllFit (resume w c x r).work.st := by
  unfold resume
  split
  · exact h.fit
  · rename_i e _
    exact allFit_entryRules (h.move (holdsEntry_stateFromEntry e)) (holdsEntry_stateFromEntry e) x r

/-! ## Cars without an entry (R39, R43, R47) -/

section
variable (fit : AllFit w.st)
include fit

/-- A car without an entry, taken from the queue and the group, stands nowhere. -/
theorem loose_withdraw {st : CarState} (state : stateOf w.st c = some st) (free : holdsEntry st = false) :
    OthersFit c (withdraw w c).st ∧ (shape (withdraw w c).st c).Loose := by
  have leaves := (reshapes_leaveReturns w c).alike (alike_clearPark _ c)
  refine ⟨leaves.othersFit (fit.others c), ?_⟩
  rw [show shape (withdraw w c).st c = _ from leaves.here]
  obtain ⟨_, _, table⟩ := fit c
  have held : (shape w.st c).held = 0 := by
    rw [table, show (shape w.st c).state = some st from state]
    simp [free]
  exact ⟨rfl, rfl, held, by show (stateOf w.st c).isSome = true; rw [state]; rfl⟩

theorem allFit_entrylessRules {st : CarState} (state : stateOf w.st c = some st) (free : holdsEntry st = false) (r : CarRecord)
    (changed : Bool) : AllFit (entrylessRules w c r changed).work.st := by
  obtain ⟨others, loose⟩ := loose_withdraw fit state free
  unfold entrylessRules
  dsimp only
  split
  · rename_i acts
    simp only [Bool.and_eq_true] at acts
    refine allFit_evaluate others loose ?_
    rw [kept_withdraw (kept_planState w.st.plan.state) rfl]
    exact loud_of_evaluates acts.1.1
  split
  · split
    · exact allFit_deferCar others loose
    · exact allFit_adoptCar others loose
  · exact fit

theorem allFit_firstContact (loose : (shape w.st c).Loose) (r : CarRecord) : AllFit (firstContact w c r).work.st := by
  have others := fit.others c
  have moving : AllFit (if underLocal r then deferCar w c else adoptCar w c).st := by
    split
    · exact allFit_deferCar others loose
    · exact allFit_adoptCar others loose
  have evaluated : ¬ Quiet w.st.plan.state → AllFit (evaluate w c false).st := allFit_evaluate others loose
  have held : AllFit (holdAs w.st c .idle) := allFit_holdAs others loose rfl
  unfold firstContact
  dsimp only
  split
  · exact fit
  · have idle : AllFit (moveCar w.st c .idle) := allFit_moveCar_bare others loose.bare rfl
    show AllFit (if (moveCar w.st c .idle).plan.owed.at c then place (moveCar w.st c .idle) c .handBack else moveCar w.st c .idle)
    split
    · exact (alike_place _ c .handBack).allFit idle
    · exact idle
  · exact held
  · rename_i state
    split
    · exact moving
    · exact evaluated (by rw [state]; simp [Quiet])
  · rename_i state
    split
    · exact moving
    · exact evaluated (by rw [state]; simp [Quiet])
  · rename_i state
    split
    · exact moving
    · exact evaluated (by rw [state]; simp [Quiet])
  · split
    · exact moving
    · exact held

end

/-! ## The rules by the state the car had -/

theorem allFit_statusRules (fit : AllFit w.st) (quiet : QuietStage w.st) {old : CarRecord} {first : Bool} (state : stateOf w.st c = some old.state)
    (contact : first = true → bareState old.state = true) (x : CarStatus) : AllFit (statusRules w c old first x).work.st := by
  have steady : holdsEntry old.state = true → Steady w c := fun holds => ⟨fit, quiet, by
    refine held_iff_entry.1 ?_
    obtain ⟨_, _, table⟩ := fit c
    rw [table, show (shape w.st c).state = some old.state from state]
    simp [holds]⟩
  unfold statusRules
  split
  · exact fit
  · rename_i r _
    split
    · rename_i is
      exact allFit_firstContact fit (loose_of_state fit state (contact is)) r
    have entryless : holdsEntry old.state = false → AllFit (entrylessRules w c r (old.authority != r.authority)).work.st := fun free =>
      allFit_entrylessRules fit state free r _
    split <;> rename_i is <;> rw [is] at steady entryless
    case h_1 => exact allFit_resume (steady rfl) x r
    case h_2 => exact fit
    case h_3 => exact fit
    case h_9 => exact allFit_entryRules (steady rfl) rfl x r
    case h_10 => exact allFit_entryRules (steady rfl) rfl x r
    case h_11 => exact allFit_entryRules (steady rfl) rfl x r
    case h_12 => exact allFit_entryRules (steady rfl) rfl x r
    case h_13 => exact allFit_entryRules (steady rfl) rfl x r
    all_goals exact entryless rfl

end

end Sys2Proof.Proofs.Holdings
end
section
/-! PROOFS. A car's shape through a whole reply: its status, the rules, the verdict, the shed entries handed on (R35, R41, R57, R100, R159). -/

namespace Sys2Proof.Proofs.Holdings

open Sys2Proof.Machine Sys2Proof.Safety Sys2Proof.Proofs.Upkeep Sys2Proof.Proofs.Account Sys2Proof.Proofs.Ends Sys2Proof.Proofs.Cars

/-! ## Shed entries handed on (R100) -/

theorem allFit_stopShed {s : State} {c : CarId} (fit : AllFit s) (has : (entryOf s c).isSome = true) : AllFit (stopShed s c) := by
  have placed := alike_place s c .stopNext
  have holding : (shape (place s c .stopNext) c).Holding := by rw [placed c]; exact holding_of_entry fit has
  unfold stopShed
  dsimp only
  split
  · split
    · exact placed.allFit fit
    · exact (alike_reportCar _ _ _ _ _).allFit (allFit_moveCar_held (placed.othersFit (fit.others c)) holding rfl)
  · exact placed.allFit fit

theorem allFit_handShed {s : State} (fit : AllFit s) (c : CarId) : AllFit (handShed s c) := by
  unfold handShed
  split
  · rename_i has
    split
    · exact allFit_stopShed fit (by rw [has]; rfl)
    · exact fit
  · exact fit

theorem allFit_handSheds {w : Work} (fit : AllFit w.st) : AllFit (handSheds w).st :=
  closed_overCars (P := AllFit) (fun _ c h => allFit_handShed h c) fit

/-! ## A status applied (R35, R36) -/

theorem alike_setRecord {s : State} {c : CarId} {old new : CarRecord} (had : record s c = some old) (state : new.state = old.state) :
    Alike s (alterCar s c fun _ => new) := by
  intro d
  have same : stateOf (alterCar s c fun _ => new) d = stateOf s d := by
    unfold stateOf
    by_cases here : d = c
    · rw [here, record_alterCar_same, had]
      exact congrArg some state
    · rw [record_alterCar_other s _ here]
  show Shape.mk (stateOf (alterCar s c fun _ => new) d) _ _ _ = Shape.mk (stateOf s d) _ _ _
  rw [same]
  rfl

theorem alike_of_queue {s : State} {queue : List QueueItem} (count : ∀ d, (queue.map (·.car)).count d = (s.ret.queue.map (·.car)).count d) :
    Alike s (setQueue s queue) := fun d => by
  show Shape.mk _ ((queue.map (·.car)).count d) _ _ = _
  rw [count d]
  rfl

theorem alike_reorderItem {w : Work} (fit : AllFit w.st) (c : CarId) (occupied : Bool) : Alike w.st (reorderItem w c occupied).st := by
  unfold reorderItem
  split
  · rename_i x found
    have car : x.car = c := beq_iff_eq.1 (List.find?_some (p := fun x : QueueItem => x.car == c) found)
    have once : (w.st.ret.queue.map (·.car)).count c = 1 := by
      have some_item : 0 < (w.st.ret.queue.map (·.car)).count c := by
        rw [List.count_pos_iff]
        exact List.mem_map.2 ⟨x, List.mem_of_find?_eq_some found, car⟩
      obtain ⟨queue, _, _⟩ := fit c
      have most : (w.st.ret.queue.map (·.car)).count c ≤ 1 := by
        show (shape w.st c).queued ≤ 1
        rw [queue]
        split <;> omega
      omega
    split
    · exact alike_of_queue fun d => congrArg (List.count d) (map_alterFirst (fun y : QueueItem => y.car) (fun _ => by rfl) _)
    · refine alike_of_queue (s := w.st) fun d => ?_
      have perm := perm_insertItem (setQueue w.st (w.st.ret.queue.filter fun y => y.car != c)) { x with occupied }
      show (((insertItem (setQueue w.st (w.st.ret.queue.filter fun y => y.car != c)) { x with occupied }).ret.queue).map (·.car)).count d = _
      rw [perm.count_eq, List.count_cons]
      show ((w.st.ret.queue.filter fun y => y.car != c).map (·.car)).count d + (if x.car == d then 1 else 0) = _
      rw [count_filter_car (g := fun y : QueueItem => y.car) c d, car]
      by_cases here : d = c
      · rw [here, once]; simp
      · simp [here, Ne.symm here]
  · exact .refl _

theorem alike_recomputeStaged (w : Work) (c : CarId) : Alike w.st (recomputeStaged w c).st := by
  unfold recomputeStaged
  split
  · intro d
    show Shape.mk _ _ (((alterFirst (fun x => x.car == c) (fun x => { x with figures := figuresFor w.st c }) w.st.ret.group).map (·.car)).count d) _ = _
    rw [show (alterFirst (fun x => x.car == c) (fun x => { x with figures := figuresFor w.st c }) w.st.ret.group).map (·.car)
      = w.st.ret.group.map (·.car) from map_alterFirst (fun y : StagedCar => y.car) (fun _ => by rfl) _]
    rfl
  · exact .refl _

theorem alike_applyStatus {w : Work} (fit : AllFit w.st) (c : CarId) (x : CarStatus) : Alike w.st (applyStatus w c x).st := by
  unfold applyStatus
  split
  · exact .refl _
  · rename_i old had
    obtain ⟨new, made⟩ : ∃ new, new = old.apply (profile w.st c) w.st.time x := ⟨_, rfl⟩
    rw [← made]
    have written : Alike w.st (alterCar w.st c fun _ => new) := alike_setRecord had (by rw [made]; rfl)
    have reported : Alike w.st (reportPosition (alterCar w.st c fun _ => new) c old new) := by
      unfold reportPosition
      split
      · exact written
      · exact written
    have handed : Alike (reportPosition (alterCar w.st c fun _ => new) c old new)
        (handOccupancy (w.up fun s => reportPosition (alterCar s c fun _ => new) c old new) c old new).st := by
      unfold handOccupancy
      split
      · split
        · exact alike_reorderItem (w := w.up fun s => reportPosition (alterCar s c fun _ => new) c old new) (reported.allFit fit) c _
        · exact .refl _
      · split
        · exact alike_recomputeStaged _ c
        · exact .refl _
      · exact .refl _
    exact reported.trans handed

/-! ## Verdicts (R41, R146, R158 to R160) -/

theorem evaluate_of_quiet {w : Work} {c : CarId} {claim : Bool} (quiet : Quiet w.st.plan.state) : evaluate w c claim = w := by
  unfold evaluate
  rcases quiet with is | is | is <;> rw [is]

/-- A car that stands nowhere evaluated, in whatever plan state. -/
theorem allFit_evaluate_loose {w : Work} {c : CarId} {claim : Bool} (fit : AllFit w.st) (loose : (shape w.st c).Loose) :
    AllFit (evaluate w c claim).st := by
  by_cases quiet : Quiet w.st.plan.state
  · rw [evaluate_of_quiet quiet]
    exact fit
  · exact allFit_evaluate (fit.others c) loose quiet

theorem loose_of_awaitsPark {s : State} {c : CarId} (fit : AllFit s) (awaits : awaitsPark s c = true) : (shape s c).Loose := by
  unfold awaitsPark at awaits
  split at awaits
  · rename_i r had
    have idle : r.state = .idle := by simpa using (Bool.and_eq_true_iff.1 awaits).1
    exact loose_of_state fit (stateOf_eq_some had) (by rw [idle]; rfl)
  · cases awaits

section
variable {w : Work} {c : CarId} (fit : AllFit w.st) (quiet : QuietStage w.st)
include fit

theorem allFit_judgePark (v : Verdict) : AllFit (judgePark w c v).work.st := by
  unfold judgePark
  split
  · rename_i awaits
    have loose := loose_of_awaitsPark fit awaits
    split
    · have cleared := alike_clearPark w.st c
      exact allFit_moveCar_bare (s := clearPark w.st c) (cleared.othersFit (fit.others c)) (by rw [cleared c]; exact loose.bare) rfl
    · have consumed := (alike_clearPark w.st c).trans (alike_consumeAttempt _ c)
      exact allFit_evaluate_loose (w := w.up fun s => consumeAttempt (clearPark s c) c) (consumed.allFit fit)
        (by show (shape (consumeAttempt (clearPark w.st c) c) c).Loose; rw [consumed c]; exact loose)
    · exact fit
  · exact fit

theorem allFit_parkDropped : AllFit (parkDropped w c).st := by
  unfold parkDropped
  split
  · rename_i awaits
    exact allFit_evaluate_loose fit (loose_of_awaitsPark fit awaits)
  · exact fit

include quiet

theorem allFit_judgeRun (permit : Option Nat) (v : Verdict) : AllFit (judgeRun w c permit v).work.st := by
  unfold judgeRun
  split
  · split
    · rename_i acts
      have has : (entryOf w.st c).isSome = true := by
        unfold declineActs at acts
        split at acts
        · rename_i found _
          rw [found]; rfl
        · cases acts
      exact (Steady.mk fit quiet has).evaluated (alike_consumeAttempt _ c) rfl
    · exact fit
  · exact fit
  · exact fit

omit fit quiet in
theorem allFit_undesignate (h : Steady w c) : AllFit (undesignate w c).st := by
  unfold undesignate
  split
  · exact h.fit
  · obtain ⟨others, loose⟩ := h.released
    split
    · dsimp only
      split
      · have emptied := alike_emptySlot (releaseEntry w c).st c
        exact allFit_moveCar_bare (s := emptySlot (releaseEntry w c).st c) (emptied.othersFit others) (by rw [emptied c]; exact loose.bare) rfl
      · exact allFit_moveCar_bare others loose.bare rfl
    · have stopped : Steady (moveToStop w c .count) c := h.alike (alike_moveToStop w c .count) (kept_moveToStop kept_quietStage h.quiet)
      have placed : Steady ((moveToStop w c .count).up fun s => place s c .stopNext) c :=
        stopped.alike (alike_place _ c .stopNext) (kept_place kept_quietStage stopped.quiet)
      rename_i r _ _
      show AllFit (if r.state = .silent then place (moveToStop w c .count).st c .stopNext
        else moveCar (place (moveToStop w c .count).st c .stopNext) c .stopping)
      split
      · exact placed.fit
      · exact (placed.move rfl).fit

theorem steady_of_serveActs {permit : Option Nat} (acts : serveActs w.st c permit = true) : Steady w c := by
  refine ⟨fit, quiet, ?_⟩
  unfold serveActs at acts
  split at acts
  · rename_i _ found
    rw [found]; rfl
  · cases acts

theorem allFit_judgeServe (permit : Option Nat) (v : Verdict) : AllFit (judgeServe w c permit v).work.st := by
  unfold judgeServe
  split
  · rename_i acts
    have steady := steady_of_serveActs fit quiet acts
    split
    · exact fit
    · exact allFit_undesignate (steady.alike (v := w.up fun s => setAside (consumeAttempt s c) c .declined) (alike_consumeAttempt w.st c)
        (kept_setAside kept_quietStage (kept_consumeAttempt kept_quietStage quiet)))
    · exact fit
  · exact fit

theorem allFit_serveDropped (permit : Option Nat) : AllFit (serveDropped w c permit).st := by
  unfold serveDropped
  split
  · rename_i acts
    have steady := steady_of_serveActs fit quiet acts
    have undone : AllFit (undesignate (w.up fun s => setAside s c .dropped) c).st :=
      allFit_undesignate (steady.alike (v := w.up fun s => setAside s c .dropped) (.refl _) (kept_setAside kept_quietStage quiet))
    show AllFit (reportAlways _ c (record w.st c) .service)
    unfold reportAlways
    split
    · exact undone
    · exact undone
  · exact fit

omit quiet in
theorem allFit_replaceHandBack : AllFit (replaceHandBack w.st c) := by
  unfold replaceHandBack
  split
  · exact (alike_place w.st c .handBack).allFit fit
  · exact fit

theorem allFit_judge (q : Request) (v : Verdict) : AllFit (judge w c q v).work.st := by
  unfold judge
  split
  · exact fit
  · split
    · exact allFit_judgePark fit v
    · exact allFit_judgeRun fit quiet _ v
    · exact allFit_judgeServe fit quiet _ v
    · unfold judgeHandBack
      split
      · exact fit
      · exact allFit_replaceHandBack fit
      · exact fit
    · exact fit
    · exact fit

/-! ## The reply (R57) -/

theorem allFit_handReply {old : CarRecord} {first : Bool} (state : stateOf w.st c = some old.state)
    (contact : first = true → bareState old.state = true) (q : Request) (v : Verdict) (x : CarStatus) :
    AllFit (handReply w c old first q v x).st := by
  have applied := alike_applyStatus fit c x
  have ruled : AllFit (statusRules (applyStatus w c x) c old first x).work.st :=
    allFit_statusRules (applied.allFit fit) (kept_applyStatus kept_quietStage quiet)
      (by rw [show stateOf (applyStatus w c x).st c = stateOf w.st c from congrArg Shape.state (applied c)]; exact state) contact x
  have judged := allFit_judge (c := c) ruled (kept_statusRules kept_quietStage (kept_applyStatus kept_quietStage quiet)) q v
  refine allFit_handSheds ?_
  show AllFit (reportReply _ c old _ _ (declineOf q v))
  unfold reportReply
  split
  · dsimp only
    split
    · exact judged
    · exact judged
  · exact judged

end

end Sys2Proof.Proofs.Holdings
end
section
/-! PROOFS. A car's shape through a missed exchange, the expiries of its timers, HOLD-OUT, READMIT and a lower count (R49, R50, R61, R67,
R70, R96, R147, R162). -/

namespace Sys2Proof.Proofs.Holdings

open Sys2Proof.Machine Sys2Proof.Safety Sys2Proof.Proofs.Upkeep Sys2Proof.Proofs.Account Sys2Proof.Proofs.Ends Sys2Proof.Proofs.Cars

/-! ## Silence (R67) -/

theorem alike_countCar (s : State) (c : CarId) : Alike s (countCar s c) := by
  unfold countCar
  split
  · exact fun _ => rfl
  · exact .refl _

theorem alike_setLinkStatus (s : State) (c : CarId) (status : LinkStatus) : Alike s (alterCar s c fun r => { r with linkStatus := status }) :=
  alike_alterCar fun _ => rfl

theorem alike_endExchange (s : State) (k : Link) (c : CarId) : Alike s (endExchange s k c) := by
  have line : Alike s (setLinkLine s k { linkLine s k with exchange := none }) := by cases k <;> exact fun _ => rfl
  exact (line.trans (alike_setLinkStatus (alterLink (setLinkLine s k { linkLine s k with exchange := none }) c _) c .inContact)).trans
    (alike_countCar _ c)

theorem alike_endMissed (s : State) (k : Link) (c : CarId) : Alike s (endMissed s k c) := by cases k <;> exact fun _ => rfl

section
variable {w : Work} {c : CarId} (fit : AllFit w.st)
include fit

omit fit in
theorem allFit_loseCar (others : OthersFit c w.st) (bare : (shape w.st c).Bare) : AllFit (loseCar w c).st := by
  have cleared := alike_clearPark w.st c
  have absent : AllFit (moveCar (clearPark w.st c) c .absent) :=
    allFit_moveCar_bare (cleared.othersFit others) (by rw [cleared c]; exact bare) rfl
  exact absent

theorem allFit_silenceBy {st : CarState} (state : stateOf w.st c = some st) : AllFit (silenceBy w c st).st := by
  have others := fit.others c
  obtain ⟨queue, group, table⟩ := fit c
  have is : (shape w.st c).state = some st := state
  have silent : holdsEntry st = true → AllFit (holdSilent w.st c) := fun holds => by
    have holding := (fit c).holding (by rw [table, is]; simp [holds])
    exact allFit_moveCar_held (st := .silent) others holding rfl
  have lost : bareState st = true → AllFit (loseCar w c).st := fun bare => by
    obtain ⟨queued, staged, held, _⟩ := loose_of_state fit state bare
    exact allFit_loseCar others ⟨queued, staged, held⟩
  have left : holdsEntry st = false → AllFit (loseCar (leaveReturns w c) c).st := fun free => by
    have leaves := reshapes_leaveReturns w c
    have bare : (shape (leaveReturns w c).st c).Bare := by
      rw [leaves.here]
      exact ⟨rfl, rfl, by show (shape w.st c).held = 0; rw [table, is]; simp [free]⟩
    have cleared := alike_clearPark (leaveReturns w c).st c
    exact allFit_moveCar_bare (s := clearPark (leaveReturns w c).st c) (cleared.othersFit (leaves.othersFit others))
      (by rw [cleared c]; exact bare) rfl
  cases st with
  | starting | running | stopping | serving | deferred => exact silent rfl
  | queued | staged => exact left rfl
  | idle | parked | held => exact lost rfl
  | failed | absent | silent => exact fit

theorem allFit_declareSilence : AllFit (declareSilence w c).st := by
  unfold declareSilence
  split
  · exact fit
  · rename_i old had
    have counted : Alike w.st (countCar (alterCar w.st c fun r => { r with linkStatus := .silent }) c) :=
      (alike_setLinkStatus w.st c .silent).trans (alike_countCar _ c)
    have state : stateOf (countCar (alterCar w.st c fun r => { r with linkStatus := .silent }) c) c = some old.state :=
      (congrArg Shape.state (counted c)).trans (stateOf_eq_some had)
    exact (alike_reportCar _ _ _ _ _).allFit (allFit_silenceBy
      (w := w.up fun s => countCar (alterCar s c fun r => { r with linkStatus := .silent }) c) (counted.allFit fit) state)

/-! ## A missed command (R61) -/

variable (quiet : QuietStage w.st)
include quiet

theorem allFit_dropCommand (cmd : Command) : AllFit (dropCommand w c cmd).st := by
  unfold dropCommand
  split
  · exact allFit_handSheds (w := (parkDropped w c).up _) ((alike_reportCar _ _ _ _ _).allFit (allFit_parkDropped fit))
  · exact allFit_handSheds (allFit_serveDropped fit quiet _)
  · exact allFit_replaceHandBack fit
  all_goals exact fit

theorem allFit_missedRequest (q : Request) : AllFit (missedRequest w c q).st := by
  unfold missedRequest
  split
  · unfold missedCommand
    split
    · exact fit
    split
    · exact fit
    · exact allFit_dropCommand fit quiet _
  · exact fit

end

/-- A missed exchange handed on (R61, R66, R67). -/
theorem allFit_handMiss {w : Work} (fit : AllFit w.st) (quiet : QuietStage w.st) (x : Exchange) (order : DropOrder) :
    AllFit (handMiss w x order).st := by
  have free : LinkFree QuietStage w.st := .inl fun h => h
  unfold handMiss
  dsimp only
  split
  · split
    · exact allFit_declareSilence fit
    · cases order with
      | dropFirst => exact allFit_declareSilence (allFit_missedRequest fit quiet _)
      | silenceFirst => exact allFit_missedRequest (allFit_declareSilence fit) (kept_declareSilence kept_quietStage free quiet) _
  · exact allFit_missedRequest fit quiet _

/-! ## Expiries (R70, R96, R147) -/

section
variable {w : Work} {c : CarId}

theorem allFit_expireHold (h : Steady w c) : AllFit (expireHold w c).st := by
  obtain ⟨others, loose⟩ := h.released
  have emptied := alike_emptySlot (releaseEntry w c).st c
  exact (alike_reportCar _ _ _ _ _).allFit (allFit_failCar (w := ⟨emptySlot (releaseEntry w c).st c, w.nt⟩) (emptied.othersFit others)
    (by rw [show shape _ c = _ from emptied c]; exact loose))

theorem allFit_expireWindow (h : Steady w c) : AllFit (expireWindow w c).st := by
  unfold expireWindow
  split
  · exact h.fit
  · rename_i r _
    split
    · have stepped : Steady (stepEntry w c) c := h.alike (alike_stepEntry w c) (kept_stepEntry kept_quietStage h.quiet)
      refine (alike_reportCar _ _ _ _ _).allFit ?_
      split
      · exact (stepped.move rfl).fit
      · exact stepped.fit
    split
    · exact (alike_reportCar _ _ _ _ _).allFit (allFit_startExpired h)
    · exact (alike_change (f := lapseWindow) fun _ => rfl).allFit h.fit

/-- The entry moved to STOP phase and STOP-NEXT placed: the car still holds its entry. -/
theorem Steady.stopped (h : Steady w c) (cause : StopCause) : Steady ((moveToStop w c cause).up fun s => place s c .stopNext) c :=
  (h.alike (v := moveToStop w c cause) (alike_moveToStop w c cause) (kept_moveToStop kept_quietStage h.quiet)).alike
    (alike_place _ c .stopNext) (kept_place kept_quietStage (kept_moveToStop kept_quietStage h.quiet))

theorem allFit_expireDeadline (h : Steady w c) : AllFit (expireDeadline w c).st := by
  have placed := h.stopped .deadline
  show AllFit (if stateOf (moveToStop w c .deadline).st c = some .silent then place (moveToStop w c .deadline).st c .stopNext
    else reportCar (moveCar (place (moveToStop w c .deadline).st c .stopNext) c .stopping) c _ .deadline none)
  split
  · exact placed.fit
  · exact (alike_reportCar _ _ _ _ _).allFit (placed.move rfl).fit

/-! ## HOLD-OUT (R49) -/

variable (fit : AllFit w.st) (quiet : QuietStage w.st)
include fit quiet

theorem steady_of_state {st : CarState} (state : stateOf w.st c = some st) (holds : holdsEntry st = true) : Steady w c := by
  refine ⟨fit, quiet, held_iff_entry.1 ?_⟩
  obtain ⟨_, _, table⟩ := fit c
  rw [table, show (shape w.st c).state = some st from state]
  simp [holds]

theorem allFit_holdOutBy {st : CarState} (state : stateOf w.st c = some st) : AllFit (holdOutBy w c st).st := by
  have others := fit.others c
  have stopped : holdsEntry st = true → AllFit (stopForHoldOut w c).st := fun holds =>
    ((steady_of_state fit quiet state holds).stopped .holdOut |>.move rfl).fit
  have left : holdsEntry st = false → AllFit (holdAs (leaveReturns w c).st c .held) := fun free => by
    have leaves := reshapes_leaveReturns w c
    obtain ⟨_, _, table⟩ := fit c
    have loose : (shape (leaveReturns w c).st c).Loose := by
      rw [leaves.here]
      refine ⟨rfl, rfl, ?_, ?_⟩
      · show (shape w.st c).held = 0
        rw [table, show (shape w.st c).state = some st from state]
        simp [free]
      · show (stateOf w.st c).isSome = true
        rw [state]
        rfl
    exact allFit_holdAs (w := leaveReturns w c) (leaves.othersFit others) loose rfl
  have held : bareState st = true → AllFit (holdAs (clearPark w.st c) c .held) := fun bare => by
    have cleared := alike_clearPark w.st c
    exact allFit_holdAs (w := w.up fun s => clearPark s c) (cleared.othersFit others)
      (by show (shape (clearPark w.st c) c).Loose; rw [cleared c]; exact loose_of_state fit state bare) rfl
  cases st with
  | starting | running | serving => exact stopped rfl
  | queued | staged => exact left rfl
  | parked => exact held rfl
  | idle =>
    show AllFit (if holdsIdle w.st.plan.state then w.up (fun s => holdAs (clearPark s c) c .held) else w).st
    split
    · exact held rfl
    · exact fit
  | stopping | deferred | silent | absent | held | failed => exact fit

theorem allFit_holdOutCar : AllFit (holdOutCar w c).st := by
  unfold holdOutCar
  split
  · exact fit
  · rename_i r had
    split
    · exact fit
    · have flagged : Alike w.st (alterCar w.st c fun x => { x with holdOut := true }) := alike_alterCar fun _ => rfl
      refine (alike_reportCar _ _ _ _ _).allFit (allFit_holdOutBy (w := w.up fun s => alterCar s c fun x => { x with holdOut := true })
        (flagged.allFit fit) (kept_quietStage.car quiet) ?_)
      show stateOf (alterCar w.st c fun x => { x with holdOut := true }) c = some r.state
      rw [show stateOf (alterCar w.st c fun x => { x with holdOut := true }) c = stateOf w.st c from congrArg Shape.state (flagged c)]
      exact stateOf_eq_some had

/-! ## READMIT (R50) -/

omit quiet in
theorem allFit_readmitHeld (loose : (shape w.st c).Loose) (r : CarRecord) : AllFit (readmitHeld w c r).st := by
  have others := fit.others c
  unfold readmitHeld
  dsimp only
  split
  · exact allFit_moveCar_bare others loose.bare rfl
  split
  · split
    · exact allFit_evaluate_loose fit loose
    · exact fit
  split
  · split
    · split
      · exact allFit_evaluate_loose fit loose
      · exact allFit_deferCar others loose
    · exact allFit_adoptCar others loose
  · exact fit

omit quiet in
theorem allFit_readmitCar : AllFit (readmitCar w c).st := by
  unfold readmitCar
  split
  · exact fit
  · rename_i old had
    have cleared : Alike w.st (clearForReadmit w.st c) := alike_alterCar fun _ => rfl
    have base : AllFit (clearForReadmit w.st c) := cleared.allFit fit
    refine (alike_reportCar _ _ _ _ _).allFit ?_
    split
    · rename_i acts
      split
      · refine allFit_readmitHeld (w := (w.up fun s => clearForReadmit s c).noteSs) base ?_ _
        show (shape (clearForReadmit w.st c) c).Loose
        rw [cleared c]
        exact loose_of_state fit (stateOf_eq_some had) (by rcases acts with is | is <;> rw [is] <;> rfl)
      · exact base
    · exact base

/-! ## A lower count (R162) -/

omit quiet in
theorem endForCount_keeps (has : (entryOf w.st c).isSome = true) :
    AllFit (endForCount w c).st ∧ ∀ d, (shape (endForCount w c).st d).held = (shape w.st d).held := by
  have like := (alike_moveToStop w c .count).trans (alike_place _ c .stopNext)
  have holding : (shape (place (moveToStop w c .count).st c .stopNext) c).Holding := by rw [like c]; exact holding_of_entry fit has
  have moved := reshapes_moveCar (place (moveToStop w c .count).st c .stopNext) c .stopping
  have placed : ∀ d, (shape (place (moveToStop w c .count).st c .stopNext) d).held = (shape w.st d).held := fun d => congrArg Shape.held (like d)
  have kept : ∀ d, (shape (moveCar (place (moveToStop w c .count).st c .stopNext) c .stopping) d).held = (shape w.st d).held := fun d => by
    rw [← placed d]
    by_cases here : d = c
    · rw [here, moved.here]
      rfl
    · rw [moved.others d here]
  obtain ⟨v, ends⟩ : ∃ v, v = (endForCount w c).st := ⟨_, rfl⟩
  rw [← ends]
  have is : v = (match record (moveToStop w c .count).st c with
      | some r => if r.state = .silent then place (moveToStop w c .count).st c .stopNext
        else reportCar (moveCar (place (moveToStop w c .count).st c .stopNext) c .stopping) c (some r) .service none
      | none => place (moveToStop w c .count).st c .stopNext) := by rw [ends]; rfl
  rw [is]
  split
  · split
    · exact ⟨like.allFit fit, placed⟩
    · have reported := alike_reportCar (moveCar (place (moveToStop w c .count).st c .stopNext) c .stopping) c
      exact ⟨(reported _ _ _).allFit (allFit_moveCar_held (like.othersFit (fit.others c)) holding rfl),
        fun d => (congrArg Shape.held (reported _ _ _ d)).trans (kept d)⟩
  · exact ⟨like.allFit fit, placed⟩

omit fit quiet in
theorem allFit_foldl_endForCount : ∀ {cars : List CarId} {w : Work}, AllFit w.st → (∀ d ∈ cars, (entryOf w.st d).isSome = true) →
    AllFit (cars.foldl endForCount w).st
  | [], _, fit, _ => fit
  | c :: cars, w, fit, have_entries => by
    obtain ⟨ended, held⟩ := endForCount_keeps fit (have_entries c List.mem_cons_self)
    exact allFit_foldl_endForCount (cars := cars) (w := endForCount w c) ended fun d mem => held_iff_entry.1 (by
      rw [held d]
      exact held_iff_entry.2 (have_entries d (List.mem_cons_of_mem _ mem)))

omit quiet in
theorem allFit_trimDesignations (b : BankId) : AllFit (trimDesignations w b).st := by
  refine allFit_foldl_endForCount fit fun d mem => ?_
  have listed := (Shedding.perm_sortBy _ _).mem_iff.1 (List.mem_of_mem_take mem)
  obtain ⟨e, mem, car⟩ := List.mem_map.1 listed
  rw [entryOf, List.find?_isSome]
  exact ⟨e, (List.mem_filter.1 mem).1, beq_iff_eq.2 car⟩

end

end Sys2Proof.Proofs.Holdings
end
section
/-! PROOFS. The cars' shapes through the plan's transitions (R113, R118 to R128). -/

namespace Sys2Proof.Proofs.Holdings

open Sys2Proof.Machine Sys2Proof.Safety Sys2Proof.Proofs.Upkeep Sys2Proof.Proofs.Account Sys2Proof.Proofs.Ends Sys2Proof.Proofs.Cars

/-! ## The history ring and the reports -/

theorem alike_takeSample (s : State) : Alike s (takeSample s) := by
  unfold takeSample
  split
  · dsimp only
    split <;> exact fun _ => rfl
  · exact .refl _

theorem alike_startSampling (s : State) : Alike s (startSampling s) := by
  unfold startSampling
  split
  · exact .refl _
  · exact alike_takeSample s

theorem alike_foldl {α : Type} {f : State → α → State} (step : ∀ s a, Alike s (f s a)) : ∀ (l : List α) (s : State), Alike s (l.foldl f s)
  | [], s => .refl s
  | a :: l, s => (step s a).trans (alike_foldl step l (f s a))

theorem alike_reportChanged (s : State) (old : Table (Option CarRecord) 48) (cause : CarCause) : Alike s (reportChanged s old cause) :=
  alike_foldl (fun _ _ => alike_reportCar _ _ _ _ _) _ _

theorem alike_movedState (s : State) (dest : PlanState) (cause : PlanCause) : Alike s (movedState s dest cause) := by
  unfold movedState
  extract_lets s1 ctl s2 s3
  have driven : Alike s s3 := by
    unfold s3
    split
    · exact alike_startSampling (driveLinks s2)
    · exact fun _ => rfl
  split
  · exact driven
  · exact driven.trans (alike_alterCars fun _ _ => rfl)

/-! ## States with an empty stage -/

theorem allFit_of_empty {s : State} (empty : StageEmpty s) (bare : ∀ c st, stateOf s c = some st → bareState st = true) : AllFit s := by
  obtain ⟨entries, queue, group⟩ := empty
  intro c
  have is : shape s c = ⟨stateOf s c, 0, 0, 0⟩ := by simp [shape, entries, queue, group]
  rw [is]
  cases state : stateOf s c with
  | none => exact ⟨rfl, rfl, rfl⟩
  | some st =>
    have free := bare c st state
    simp only [bareState, Bool.and_eq_true, bne_iff_ne, Bool.not_eq_true'] at free
    simp [Shape.Fit, free]

theorem stateOf_alterCars (s : State) (f : CarId → CarRecord → CarRecord) (c : CarId) :
    stateOf (alterCars s f) c = (record s c).map fun r => (f c r).state := by
  unfold stateOf record
  simp only [alterCars, State.setCars, Table.mapAll_at, Option.map_map]
  rfl

/-- The states that an entry action gives every car, each one in which a car stands nowhere. -/
theorem bare_of_reset {s : State} {f : CarRecord → CarState} (bare : ∀ r, bareState (f r) = true) {c : CarId} {st : CarState}
    (state : stateOf (resetCars s f) c = some st) : bareState st = true := by
  have is : stateOf (resetCars s f) c = (record s c).map f := stateOf_alterCars s _ c
  rw [is, Option.map_eq_some_iff] at state
  obtain ⟨r, _, rfl⟩ := state
  exact bare r

theorem allFit_of_reset {w : Work} {f : CarRecord → CarState} (bare : ∀ r, bareState (f r) = true) :
    AllFit (resetCars (clearStage w).st f) :=
  allFit_of_empty (s := resetCars (clearStage w).st f) (stageEmpty_clearStage w) fun _ _ => bare_of_reset bare

theorem allFit_enterOutage (w : Work) (left : PlanState) : AllFit (enterOutage w left).st := by
  have absent : AllFit (resetCars (clearStage w).st fun _ => .absent) := allFit_of_reset fun _ => rfl
  unfold enterOutage
  show AllFit (startOutage _ left)
  unfold startOutage
  split <;> exact absent

theorem allFit_enterWatching (w : Work) (left : PlanState) : AllFit (enterWatching w left).st := by
  have watched : AllFit (resetCars (clearStage w).st watchState) := allFit_of_reset fun r => by
    unfold watchState
    split <;> rfl
  have placed : ∀ (cars : List CarId) (s : State), AllFit s → AllFit (overCars s cars fun acc c => place acc c .handBack) := fun cars s fit =>
    (alike_foldl (fun acc c => alike_place acc c .handBack) cars s).allFit fit
  unfold enterWatching
  rw [Work.up_st]
  extract_lets s1 ctl s2 s3
  have owed : AllFit s2 := watched
  have handed : AllFit s3 := placed _ s2 owed
  split
  · exact handed
  · exact handed

theorem allFit_enterHalted {w : Work} (empty : StageEmpty w.st) : AllFit (enterHalted w).st := by
  have state : ∀ c, stateOf (enterHalted w).st c = (record w.st c).map fun _ => .absent := fun c => stateOf_alterCars w.st _ c
  refine allFit_of_empty (s := (enterHalted w).st) empty fun c st is => ?_
  rw [state, Option.map_eq_some_iff] at is
  obtain ⟨_, _, rfl⟩ := is
  rfl

/-! ## SETTLING, RETURN and SERVICE -/

theorem alike_enterSettling (w : Work) (left : PlanState) : Alike w.st (enterSettling w left).st := by
  unfold enterSettling
  rw [Work.up_st]
  extract_lets s1 s2
  have begun : Alike w.st s1 := by
    unfold s1
    split
    · exact .refl _
    · exact fun _ => rfl
  have started : Alike s1 (startOutage s1 left) := by
    unfold startOutage
    split <;> exact fun _ => rfl
  exact begun.trans started

theorem allFit_evaluateIdle {w : Work} (fit : AllFit w.st) (c : CarId) : AllFit (evaluateIdle w c).st := by
  unfold evaluateIdle
  split
  · rename_i idle
    exact allFit_handSheds (w := (evaluateFull w c false).up _)
      ((alike_reportCar _ _ _ _ _).allFit (allFit_evaluateFull (fit.others c) (loose_of_state fit idle rfl)))
  · exact fit

theorem allFit_enterReturn {w : Work} (fit : AllFit w.st) : AllFit (enterReturn w).st :=
  closed_foldl (Q := fun v : Work => AllFit v.st) (fun _ c h => allFit_evaluateIdle h c) fit

/-! ## RESTORING (R125) -/

/-- The cars of a list stand nowhere, and every other car where its state says. -/
def LooseIn (cars : List CarId) (s : State) : Prop := ∀ d, (d ∈ cars → (shape s d).Loose) ∧ (d ∉ cars → (shape s d).Fit)

theorem allFit_of_none {s : State} (h : LooseIn [] s) : AllFit s := fun d => (h d).2 List.not_mem_nil

/-- A step over such a list, each step on one car that gives a car standing nowhere a state to stand by. -/
theorem allFit_foldl_loose {σ α : Type} {st : σ → State} {car : α → CarId} {step : σ → α → σ} {f : Shape → Shape}
    (fits : ∀ x : Shape, x.Loose → (f x).Fit) (reshapes : ∀ v a, Reshapes (car a) f (st v) (st (step v a))) :
    ∀ {l : List α} {v : σ}, (l.map car).Nodup → LooseIn (l.map car) (st v) → AllFit (st (l.foldl step v))
  | [], _, _, h => allFit_of_none h
  | a :: l, v, distinct, h => by
    obtain ⟨fresh, distinct⟩ := List.nodup_cons.1 distinct
    have moved := reshapes v a
    refine allFit_foldl_loose fits reshapes (l := l) (v := step v a) distinct fun d => ⟨fun mem => ?_, fun out => ?_⟩
    · rw [moved.others d fun same => fresh (same ▸ mem)]
      exact (h d).1 (List.mem_cons_of_mem _ mem)
    · by_cases here : d = car a
      · rw [here, moved.here]
        exact fits _ ((h (car a)).1 List.mem_cons_self)
      · rw [moved.others d here]
        exact (h d).2 fun mem => (List.mem_cons.1 mem).elim here out

theorem reshapes_cancelReturn (s : State) (c : CarId) : Reshapes c (Shape.goTo .idle) s (cancelReturn s c) :=
  ((alike_place s c .hold).reshapes (reshapes_moveCar (place s c .hold) c .idle)).alike fun _ => rfl

theorem allFit_cancelReturns {cars : List CarId} {s : State} (distinct : cars.Nodup) (h : LooseIn cars s) :
    AllFit (overCars s cars cancelReturn) :=
  allFit_foldl_loose (st := id) (car := id) (f := Shape.goTo .idle) (fun _ loose => Shape.fit_goTo_bare loose.bare rfl) reshapes_cancelReturn
    (by rw [List.map_id]; exact distinct) (by rw [List.map_id]; exact h)

theorem inReturns_iff (s : State) (c : CarId) : inReturns s.ret c = true ↔ (shape s c).queued ≠ 0 ∨ (shape s c).staged ≠ 0 := by
  have queue : (shape s c).queued ≠ 0 ↔ c ∈ s.ret.queue.map (·.car) := by rw [← Nat.pos_iff_ne_zero]; exact List.count_pos_iff
  have group : (shape s c).staged ≠ 0 ↔ c ∈ s.ret.group.map (·.car) := by rw [← Nat.pos_iff_ne_zero]; exact List.count_pos_iff
  rw [queue, group]
  simp [inReturns, List.mem_map]

theorem Shape.leave_of_out {x : Shape} (queued : x.queued = 0) (staged : x.staged = 0) : x.leave = x := by
  cases x
  simp_all [Shape.leave]

/-- With queue and group emptied, the cars that were in them stand nowhere. -/
theorem looseIn_emptyReturns {s : State} (fit : AllFit s) : LooseIn ((indices 48).filter (inReturns s.ret)) (emptyReturns s) := by
  intro d
  have emptied : shape (emptyReturns s) d = (shape s d).leave := rfl
  rw [List.mem_filter, inReturns_iff, emptied]
  obtain ⟨queue, group, table⟩ := fit d
  refine ⟨fun ⟨_, stood⟩ => ?_, fun out => ?_⟩
  · have state : (shape s d).state = some .queued ∨ (shape s d).state = some .staged := by
      rw [queue, group] at stood
      by_contra neither
      rw [not_or] at neither
      simp [neither.1, neither.2] at stood
    have held : (shape s d).held = 0 := by
      rw [table]
      rcases state with is | is <;> rw [is] <;> rfl
    exact ⟨rfl, rfl, held, by show (shape s d).state.isSome = true; rcases state with is | is <;> rw [is] <;> rfl⟩
  · have nowhere : (shape s d).queued = 0 ∧ (shape s d).staged = 0 := by
      by_contra stood
      rw [not_and_or] at stood
      exact out ⟨mem_indices d, stood⟩
    rw [Shape.leave_of_out nowhere.1 nowhere.2]
    exact fit d

theorem allFit_cancelRun {w : Work} (fit : AllFit w.st) (c : CarId) : AllFit (cancelRun w c).st := by
  unfold cancelRun
  split
  · rename_i found
    split
    · have like := (alike_moveToStop w c .plan).trans (alike_place _ c .stopNext)
      have holding : (shape (place (moveToStop w c .plan).st c .stopNext) c).Holding := by
        rw [like c]
        exact holding_of_entry fit (by rw [found]; rfl)
      have cancelled : Alike w.st (setCancelled (place (moveToStop w c .plan).st c .stopNext) c true) := like
      show AllFit (if stateOf (moveToStop w c .plan).st c = some .silent then setCancelled (place (moveToStop w c .plan).st c .stopNext) c true
        else moveCar (setCancelled (place (moveToStop w c .plan).st c .stopNext) c true) c .stopping)
      split
      · exact cancelled.allFit fit
      · exact allFit_moveCar_held (s := setCancelled (place (moveToStop w c .plan).st c .stopNext) c true) (cancelled.othersFit (fit.others c))
          holding rfl
    · exact fit
  · exact fit

theorem allFit_enterRestoring {w : Work} (fit : AllFit w.st) (parks : List CarId) : AllFit (enterRestoring w parks).st := by
  have returned : AllFit (overCars (emptyReturns w.st) ((indices 48).filter (inReturns w.st.ret)) cancelReturn) :=
    allFit_cancelReturns ((indices_nodup 48).filter _) (looseIn_emptyReturns fit)
  have cancelled : ∀ (cars : List CarId) (v : Work), AllFit v.st → AllFit (cars.foldl cancelRun v).st := fun cars v h =>
    closed_foldl (Q := fun v : Work => AllFit v.st) (fun _ c h => allFit_cancelRun h c) h
  have held : ∀ (cars : List CarId) (s : State), AllFit s → AllFit (overCars s cars fun acc c => place acc c .hold) := fun cars s h =>
    (alike_foldl (fun acc c => alike_place acc c .hold) cars s).allFit h
  exact held _ _ (cancelled (indices 48)
    (w.up fun s => overCars (emptyReturns s) ((indices 48).filter (inReturns s.ret)) cancelReturn) returned)

/-! ## Transitions -/

theorem allFit_enter {w : Work} {left dest : PlanState} {parks : List CarId} (driven : dest ≠ .halted) (fit : AllFit w.st) :
    AllFit (enter w left dest parks).st := by
  cases dest with
  | halted => exact absurd rfl driven
  | watching => exact allFit_enterWatching w left
  | outage => exact allFit_enterOutage w left
  | settling => exact (alike_enterSettling w left).allFit fit
  | returning => exact allFit_enterReturn fit
  | service => exact fit
  | restoring => exact allFit_enterRestoring fit parks

theorem allFit_reported {w : Work} {dest : PlanState} {cause : PlanCause}
    (entered : AllFit (enter (w.up fun s => movedState s dest cause) w.st.plan.state dest (parksOut w.st)).st) :
    AllFit (transition w dest cause).st := by
  rw [transition_eq, Work.up_st]
  split
  · exact entered
  · exact (alike_reportChanged _ _ _).allFit entered

theorem moves_allFit : Moves AllFit := fun {w dest cause} driven fit =>
  allFit_reported (allFit_enter driven ((alike_movedState w.st dest cause).allFit fit))

/-- HALT, accepted with an empty stage (R118). -/
theorem allFit_halt {w : Work} {cause : PlanCause} (empty : StageEmpty w.st) : AllFit (transition w .halted cause).st := by
  obtain ⟨entries, queue, group⟩ := empty
  refine allFit_reported (dest := .halted) (allFit_enterHalted (w := w.up fun s => movedState s .halted cause) ⟨?_, ?_, ?_⟩)
  · show (movedState w.st .halted cause).acct.entries = []
    rw [movedState_acct]
    exact entries
  · show (movedState w.st .halted cause).ret.queue = []
    rw [movedState_ret]
    exact queue
  · show (movedState w.st .halted cause).ret.group = []
    rw [movedState_ret]
    exact group

end Sys2Proof.Proofs.Holdings
end
section
/-! PROOFS. The cars' shapes through the granting blocks and the end of an event (R136 to R142, R157). -/

namespace Sys2Proof.Proofs.Holdings

open Sys2Proof.Machine Sys2Proof.Safety Sys2Proof.Proofs.Upkeep Sys2Proof.Proofs.Account Sys2Proof.Proofs.Ends Sys2Proof.Proofs.Cars

/-! ## A run or a designation begun -/

theorem Shape.Loose.begun {x : Shape} {st : CarState} (h : x.Loose) (state : holdsEntry st = true) : (x.enter.goTo st).Fit :=
  Shape.fit_goTo_held h.enter.queued h.enter.staged h.enter.held h.enter.recorded state

theorem reshapes_startRun (w : Work) (c : CarId) (f : RunFigures) :
    Reshapes c (Shape.goTo .starting ∘ Shape.enter) w.st (startRun w c f).st := by
  obtain ⟨u, made⟩ : ∃ u, u = (enterEntry w (returnEntry w.st c f (deadlineFor w.st c))).st := ⟨_, rfl⟩
  have entered : Reshapes c Shape.enter w.st u := by
    rw [made]
    exact reshapes_enterEntry w (returnEntry w.st c f (deadlineFor w.st c))
  obtain ⟨p, placed⟩ : ∃ p, p = placeCommand u c .runTo (some (profile u c).recallFloor) ((entryOf u c).map (·.permit)) := ⟨_, rfl⟩
  have like : Alike u p := by rw [placed]; exact alike_of_linkOnly (linkOnly_placeCommand _ _ _ _ _)
  have runs : (startRun w c f).st = reportCar (moveCar p c .starting) c (record u c) .grant none := by
    rw [placed, made]
    rfl
  rw [runs]
  exact ((entered.alike like).trans (reshapes_moveCar p c .starting)).alike (alike_reportCar _ _ _ _ _)

theorem reshapes_designate (w : Work) (c : CarId) : Reshapes c (Shape.goTo .serving ∘ Shape.enter) w.st (designate w c).st := by
  obtain ⟨u, made⟩ : ∃ u, u = (enterEntry w (serviceEntry w.st c (worstOf w.st c))).st := ⟨_, rfl⟩
  have entered : Reshapes c Shape.enter w.st u := by
    rw [made]
    exact reshapes_enterEntry w (serviceEntry w.st c (worstOf w.st c))
  obtain ⟨v, made_v⟩ : ∃ v, v = u.setSvc { u.svc with
      records := u.svc.records.put c (((entryOf u c).map (·.permit)).map fun n => ⟨n, u.time, .awaiting⟩) } := ⟨_, rfl⟩
  obtain ⟨p, placed⟩ : ∃ p, p = placeCommand v c .serve none ((entryOf u c).map (·.permit)) := ⟨_, rfl⟩
  have like : Alike u p := by
    have svc : Alike u v := by rw [made_v]; exact fun _ => rfl
    rw [placed]
    exact svc.trans (alike_of_linkOnly (linkOnly_placeCommand _ _ _ _ _))
  have designates : (designate w c).st = startSpacing (reportCar (moveCar p c .serving) c (record u c) .service none) := by
    rw [placed, made_v, made]
    rfl
  rw [designates]
  exact (((entered.alike like).trans (reshapes_moveCar p c .serving)).alike (alike_reportCar _ _ _ _ _)).alike fun _ => rfl

/-! ## The PACED grant (R136 to R138) -/

theorem mem_of_walk {s : State} {x : QueueItem} : ∀ {tries : Nat} {queue : List QueueItem}, walk s tries queue = some x → x ∈ queue
  | 0, _, found => by simp [walk] at found
  | _ + 1, [], found => by simp [walk] at found
  | tries + 1, y :: rest, found => by
    simp only [walk] at found
    split at found
    · rw [← Option.some.inj found]
      exact List.mem_cons_self
    split at found
    · cases found
    · exact List.mem_cons_of_mem _ (mem_of_walk found)

theorem count_grantedFrom (c d : CarId) : ∀ queue : List QueueItem,
    ((grantedFrom c queue).map (·.car)).count d = (queue.map (·.car)).count d - if d = c then 1 else 0
  | [] => by simp [grantedFrom]
  | x :: rest => by
    by_cases here : x.car = c
    · rw [grantedFrom, if_pos (beq_iff_eq.2 here), List.map_cons, List.count_cons, here]
      by_cases same : d = c
      · simp [same]
      · simp [same, Ne.symm same]
    · rw [grantedFrom, if_neg (by simpa using here), List.map_cons, List.map_cons, List.count_cons, List.count_cons, count_grantedFrom c d rest]
      by_cases same : d = c
      · simp [same, here]
      · simp [same]

theorem loose_granted {s : State} {x : QueueItem} (fit : AllFit s) (mem : x ∈ s.ret.queue) :
    OthersFit x.car (setQueue s (grantedFrom x.car s.ret.queue)) ∧ (shape (setQueue s (grantedFrom x.car s.ret.queue)) x.car).Loose := by
  obtain ⟨queue, group, table⟩ := fit x.car
  have queued : (shape s x.car).queued ≠ 0 := by
    rw [← Nat.pos_iff_ne_zero]
    exact List.count_pos_iff.2 (List.mem_map_of_mem mem)
  have state : (shape s x.car).state = some .queued := by
    by_contra other
    rw [queue, if_neg other] at queued
    exact queued rfl
  refine ⟨fun d other => ?_, ?_, ?_, ?_, ?_⟩
  · have same : shape (setQueue s (grantedFrom x.car s.ret.queue)) d = shape s d := by
      show Shape.mk _ (((grantedFrom x.car s.ret.queue).map (·.car)).count d) _ _ = _
      rw [count_grantedFrom, if_neg other]
      rfl
    rw [same]
    exact fit d
  · show ((grantedFrom x.car s.ret.queue).map (·.car)).count x.car = 0
    rw [count_grantedFrom, if_pos rfl]
    show (shape s x.car).queued - 1 = 0
    rw [queue, if_pos state]
  · show (shape s x.car).staged = 0
    rw [group, state]
    rfl
  · show (shape s x.car).held = 0
    rw [table, state]
    rfl
  · show (shape s x.car).state.isSome = true
    rw [state]
    rfl

section
variable {w : Work} (fit : AllFit w.st)
include fit

theorem allFit_grantAttempt : AllFit (grantAttempt w).st := by
  unfold grantAttempt
  split
  · split
    · rename_i x found
      obtain ⟨others, loose⟩ := loose_granted fit (mem_of_walk found)
      exact (reshapes_startRun (w.up fun s => setQueue s (grantedFrom x.car s.ret.queue)) x.car _).allFit others (loose.begun rfl)
    · exact fit
  · exact fit

end

/-! ## Staging and release (R140 to R142) -/

/-- A queued car staged stands in the group, once, and nowhere else. -/
theorem allFit_stageCar {s : State} {x : QueueItem} (fit : AllFit s) (mem : x ∈ s.ret.queue) : AllFit (stageCar s x) := by
  obtain ⟨queue, group, table⟩ := fit x.car
  have queued : (shape s x.car).queued ≠ 0 := by
    rw [← Nat.pos_iff_ne_zero]
    exact List.count_pos_iff.2 (List.mem_map_of_mem mem)
  have state : (shape s x.car).state = some .queued := by
    by_contra other
    rw [queue, if_neg other] at queued
    exact queued rfl
  rw [state] at group table
  obtain ⟨t, made⟩ : ∃ t, t = s.setRet { s.ret with
      queue := s.ret.queue.filter fun y => y.car != x.car, group := s.ret.group ++ [⟨x.car, figuresFor s x.car⟩] } := ⟨_, rfl⟩
  have queue_t : ∀ d, (shape t d).queued = if d = x.car then 0 else (shape s d).queued := fun d => by
    rw [made]
    exact count_filter_car (g := fun y : QueueItem => y.car) x.car d s.ret.queue
  have group_t : ∀ d, (shape t d).staged = (shape s d).staged + if d = x.car then 1 else 0 := fun d => by
    rw [made]
    show ((s.ret.group ++ [(⟨x.car, figuresFor s x.car⟩ : StagedCar)]).map (·.car)).count d = _
    rw [List.map_append, List.count_append]
    by_cases same : d = x.car
    · simp [same, shape]
    · simp [same, Ne.symm same, shape]
  have rest_t : ∀ d, (shape t d).state = (shape s d).state ∧ (shape t d).held = (shape s d).held := fun d => by
    rw [made]
    exact ⟨rfl, rfl⟩
  have others : OthersFit x.car t := fun d other => by
    obtain ⟨state_d, held_d⟩ := rest_t d
    have queue_d := queue_t d
    have group_d := group_t d
    rw [if_neg other] at queue_d group_d
    obtain ⟨fit_queue, fit_group, fit_table⟩ := fit d
    exact ⟨by rw [queue_d, state_d]; exact fit_queue, by rw [group_d, state_d]; exact fit_group, by rw [held_d, state_d]; exact fit_table⟩
  have staged : AllFit (moveCar t x.car .staged) := by
    refine (reshapes_moveCar t x.car .staged).allFit others ?_
    obtain ⟨state_x, held_x⟩ := rest_t x.car
    have queue_x := queue_t x.car
    have group_x := group_t x.car
    rw [if_pos rfl] at queue_x group_x
    refine ⟨?_, ?_, ?_⟩ <;> simp [Shape.goTo, state_x, held_x, queue_x, group_x, state, group, table, holdsEntry]
  have stages : stageCar s x = reportCar (moveCar t x.car .staged) x.car (record s x.car) .grant none := by rw [made]; rfl
  rw [stages]
  exact (alike_reportCar _ _ _ _ _).allFit staged

theorem allFit_foldl_stageCar : ∀ {cars : List QueueItem} {s : State}, AllFit s → (cars.map (·.car)).Nodup → (∀ x ∈ cars, x ∈ s.ret.queue) →
    AllFit (cars.foldl stageCar s)
  | [], _, fit, _, _ => fit
  | x :: cars, s, fit, distinct, listed => by
    obtain ⟨fresh, distinct⟩ := List.nodup_cons.1 distinct
    refine allFit_foldl_stageCar (cars := cars) (s := stageCar s x) (allFit_stageCar fit (listed x List.mem_cons_self)) distinct fun y mem => ?_
    have queue : (stageCar s x).ret.queue = s.ret.queue.filter fun z => z.car != x.car := by
      rw [Pause.portOnly_stageCar s x]
      rfl
    rw [queue]
    exact List.mem_filter.2 ⟨listed y (List.mem_cons_of_mem _ mem), bne_iff_ne.2 fun same => fresh (List.mem_map.2 ⟨y, mem, same⟩)⟩

theorem queue_nodup {s : State} (fit : AllFit s) : (s.ret.queue.map (·.car)).Nodup :=
  (List.nodup_append.1 (returnsMatch_of_allFit fit).1).1

theorem group_nodup {s : State} (fit : AllFit s) : (s.ret.group.map (·.car)).Nodup :=
  (List.nodup_append.1 (returnsMatch_of_allFit fit).1).2.1

section
variable {w : Work} (fit : AllFit w.st)
include fit

theorem allFit_stage : AllFit (stage w).st := by
  unfold stage
  split
  · refine allFit_foldl_stageCar fit ?_ fun x mem => List.mem_of_mem_take mem
    rw [List.map_take]
    exact (queue_nodup fit).sublist (List.take_sublist _ _)
  · exact fit

/-- With the group emptied, the cars that were staged stand nowhere. -/
theorem looseIn_emptied : LooseIn (w.st.ret.group.map (·.car)) (setGroup w.st []) := by
  intro d
  obtain ⟨queue, group, table⟩ := fit d
  have mem : d ∈ w.st.ret.group.map (·.car) ↔ (shape w.st d).staged ≠ 0 := by
    rw [← Nat.pos_iff_ne_zero]
    exact List.count_pos_iff.symm
  rw [mem]
  refine ⟨fun stood => ?_, fun out => ?_⟩
  · have state : (shape w.st d).state = some .staged := by
      by_contra other
      rw [group, if_neg other] at stood
      exact stood rfl
    exact ⟨by show (shape w.st d).queued = 0; rw [queue, state]; rfl, rfl, by show (shape w.st d).held = 0; rw [table, state]; rfl,
      by show (shape w.st d).state.isSome = true; rw [state]; rfl⟩
  · have none : (shape w.st d).staged = 0 := by simpa using out
    rw [none] at group
    exact ⟨queue, group, table⟩

theorem allFit_releaseStaged : AllFit (releaseStaged w).st := by
  have started : AllFit (w.st.ret.group.foldl (fun acc x => startRun acc x.car x.figures) (w.up fun s => setGroup s [])).st :=
    allFit_foldl_loose (st := fun v : Work => v.st) (car := fun x : StagedCar => x.car) (f := Shape.goTo .starting ∘ Shape.enter)
      (fun _ loose => loose.begun rfl) (fun v x => reshapes_startRun v x.car x.figures) (group_nodup fit) (looseIn_emptied fit)
  unfold releaseStaged
  exact allFit_stage (w := Work.noteSs _) started

theorem allFit_sequencerWork : AllFit (sequencerWork w).st := by
  unfold sequencerWork
  split
  · split
    · exact allFit_grantAttempt fit
    · dsimp only
      split
      · exact allFit_releaseStaged (allFit_stage fit)
      · exact allFit_stage fit
  · exact fit

/-! ## The Service Selector (R157) -/

theorem allFit_selectorWork : AllFit (selectorWork w).st := by
  unfold selectorWork
  split
  · unfold selectionPass
    split
    · rename_i c found
      obtain ⟨_, parked, _⟩ := (Grants.mem_candidates_iff _ _).1 (List.mem_of_find?_eq_some found)
      exact (reshapes_designate w c).allFit (fit.others c) ((loose_of_state fit parked rfl).begun rfl)
    · exact fit
  · exact fit

/-! ## The end of an event -/

theorem allFit_grantWork : AllFit (grantWork w).st := by
  have ran : AllFit (planRun w).st := moves_planRun moves_allFit fit
  obtain ⟨v, granted⟩ : ∃ v, v = if (planRun w).nt.rs then sequencerWork (planRun w) else planRun w := ⟨_, rfl⟩
  have kept : AllFit v.st := by
    rw [granted]
    split
    · exact allFit_sequencerWork ran
    · exact ran
  have ends : grantWork w = if v.nt.ss then selectorWork v else v := by
    rw [granted]
    rfl
  rw [ends]
  split
  · exact allFit_selectorWork kept
  · exact kept

theorem allFit_completeWith (renew : Option CarId) : AllFit (completeWith w renew) := by
  have chosen := (linkOnly_renewFor (grantWork w).st renew).trans (linkOnly_arbiters _)
  exact (alike_of_linkOnly chosen).allFit (allFit_grantWork fit)

theorem allFit_complete : AllFit (complete w) := allFit_completeWith fit none

theorem allFit_autoArm : AllFit (autoArm w).st := by
  unfold autoArm
  split
  · exact fit
  · exact moves_armPlan moves_allFit (w := w.up _) fit

end

end Sys2Proof.Proofs.Holdings
end
section
/-! PROOFS. The cars' shapes through the events of the plant and the writes of the configuration (1, 2, 10.3.1). The plant and the
configuration do not bear on a car's shape, but for the shedding that new values of C and S bring and for SET-CAR and DROP-CAR, which come
in HALTED alone, where no car stands anywhere. -/

namespace Sys2Proof.Proofs.Holdings

open Sys2Proof.Machine Sys2Proof.Safety Sys2Proof.Proofs.Upkeep Sys2Proof.Proofs.Account Sys2Proof.Proofs.Cars

theorem alike_offerTrigger (s : State) (t : Trigger) : Alike s (offerTrigger s t) := by
  unfold offerTrigger
  split
  · exact fun _ => rfl
  · exact .refl _

/-! ## The Capacity Unit (2) -/

section
variable {w : Work} (fit : AllFit w.st)
include fit

theorem allFit_handCapacity (c sink : Nat) : AllFit (handCapacity w c sink).st := by
  unfold handCapacity
  split
  · exact fit
  · exact allFit_handSheds ((alike_settleAccount w _).allFit fit)

omit fit in
theorem allFit_capacityEvent {f : State → State} (fit : AllFit (f w.st)) : AllFit (capacityEvent w f).st :=
  allFit_handCapacity (w := w.up fun s => recompute (f s)) fit _ _

theorem allFit_setActive (n : SetId) : AllFit (setActive w n).st := by
  unfold setActive
  split
  · exact allFit_capacityEvent (f := fun s => stageChange (setStatus s n .accepting)) fit
  · exact fit

theorem allFit_setInactive (n : SetId) : AllFit (setInactive w n).st := by
  unfold setInactive
  split
  · exact fit
  · exact allFit_capacityEvent (f := fun s => stageChange (setStatus s n .offline)) fit
  · refine allFit_handCapacity ?_ _ _
    split
    · exact (alike_offerTrigger _ _).allFit fit
    · exact fit

/-! ## The plant lines (1) -/

theorem allFit_handLine (l : LineId) (level : Level) : AllFit (handLine w l level).st := by
  unfold handLine
  repeat' split
  · exact allFit_setActive fit _
  · exact allFit_setInactive fit _
  · exact allFit_capacityEvent (f := stageChange) fit
  · exact fit

theorem allFit_qualifiedChange (l : LineId) (level : Level) : AllFit (qualifiedChange w l level).st := by
  have recorded : ∀ x r, AllFit (queueReport (alterLine w.st l x) r) := fun _ _ => fit
  unfold qualifiedChange
  dsimp only
  split
  · exact recorded _ _
  · refine allFit_handLine ?_ _ _
    exact recorded _ _

theorem allFit_offerSample (l : LineId) (level : Level) : AllFit (offerSample w l level).st := by
  unfold offerSample
  extract_lets x
  split
  · split
    · exact fit
    split
    · exact allFit_qualifiedChange fit l level
    · exact fit
  · split
    · exact allFit_qualifiedChange fit l level
    · exact fit

theorem allFit_samplePin (l : LineId) (pin : PinLevel) : AllFit (samplePin w l pin).st := by
  unfold samplePin
  extract_lets w1
  have raw : AllFit w1.st := fit
  split
  · exact allFit_offerSample raw l _
  · exact raw

theorem allFit_applyItem (l : LineId) (level : Level) : AllFit (applyItem w l level).st := by
  have stamped : AllFit (w.up fun s => alterLine s l fun x => { x with lastReport := some s.time }).st := fit
  unfold applyItem
  dsimp only
  split
  · exact stamped
  · exact moves_planRun moves_allFit (allFit_qualifiedChange stamped l level)

theorem allFit_applyItems (items : List (LineId × Level)) : AllFit (applyItems w items).st :=
  closed_foldl (Q := fun v : Work => AllFit v.st) (fun _ _ kept => by
    split
    · exact allFit_applyItem kept _ _
    · exact kept) fit

theorem allFit_changeLine (l : LineId) (x : LineSettings) : AllFit (changeLine w l x).st := by
  have stored : ∀ f, AllFit (alterLine (storeLine w.st l x) l f) := fun _ => fit
  unfold changeLine
  dsimp only
  repeat' split
  · exact fit
  · exact stored _
  · refine allFit_handLine ?_ _ _
    exact stored _
  · exact stored _

end

/-! ## The requests about the plant -/

section
variable {s : State} (fit : AllFit s)
include fit

theorem allFit_ruleLineReport (items : List ReportItem) : AllFit (ruleLineReport items s).st := by
  unfold ruleLineReport
  repeat' split
  · exact fit
  · exact fit
  · exact allFit_complete (allFit_applyItems fit _)
  · exact fit

theorem allFit_ruleTrimSet (f : TrimForm) : AllFit (ruleTrimSet f s).st := by
  unfold ruleTrimSet
  split
  · exact allFit_complete (allFit_capacityEvent (w := begin s) (f := fun x => setTrim x _ _) fit)
  · exact fit

theorem allFit_ruleSetLimits (f : LimitsForm) : AllFit (ruleSetLimits f s).st := by
  refine kept_inHalted (fun _ => ?_) fit
  split
  · exact allFit_complete (allFit_capacityEvent (w := begin s) (f := fun x => storeLimits x _) fit)
  · exact fit

theorem allFit_changeSet (n : SetId) (x : SetSettings) : AllFit (changeSet s n x) := by
  unfold changeSet
  dsimp only
  repeat' split
  all_goals exact fit

theorem allFit_ruleSetGenset (f : GensetForm) : AllFit (ruleSetGenset f s).st := by
  refine kept_inHalted (fun _ => ?_) fit
  split
  · exact allFit_complete (allFit_capacityEvent (w := begin s) (allFit_changeSet fit _ _))
  · exact fit

theorem allFit_ruleSetLine (f : LineForm) : AllFit (ruleSetLine f s).st := by
  refine kept_inHalted (fun _ => ?_) fit
  split
  · exact allFit_complete (allFit_changeLine (w := begin (markModified s)) fit _ _)
  · exact fit

theorem allFit_ruleIndicatorPart (p : IndPart) : AllFit (ruleIndicatorPart p s).st := by
  cases p with
  | full =>
    refine kept_inHalted (fun _ => ?_) fit
    split
    · exact fit
    · exact fit
  | unlisted => exact fit

theorem allFit_ruleIndicatorValue (f : IndValueForm) : AllFit (ruleIndicatorValue f s).st := by
  unfold ruleIndicatorValue
  split
  · exact fit
  · exact fit

theorem allFit_ruleSavePlan (body : List Byte) : AllFit (ruleSavePlan body s).st := by
  unfold ruleSavePlan
  split
  · refine kept_inHalted (fun _ => ?_) fit
    split
    · exact fit
    · exact fit
  · exact fit

/-! ## SET-CAR and DROP-CAR (R32, R34) -/

/-- With an empty stage a car's record may be written in a state in which a car stands nowhere. -/
theorem allFit_storeCar (empty : StageEmpty s) (c : CarId) (p : CarProfile) : AllFit (storeCar s c p) := by
  refine OthersFit.all (c := c) (fun d other => ?_) ?_
  · have same : shape (storeCar s c p) d = shape s d := by
      unfold shape stateOf record
      simp only [storeCar, markModified, State.setStore, State.setCars, State.setSetup, Table.put_at_other _ _ _ _ other]
    rw [same]
    exact fit d
  · obtain ⟨entries, queue, group⟩ := empty
    have stored : shape (storeCar s c p) c = ⟨(if p.enrolled then some CarRecord.initial else none).map (·.state), 0, 0, 0⟩ := by
      unfold shape stateOf record
      simp only [storeCar, markModified, State.setStore, State.setCars, State.setSetup, Table.put_at_same, entries, queue, group]
      rfl
    rw [stored]
    cases p.enrolled <;> exact ⟨rfl, rfl, rfl⟩

variable (quiet : QuietStage s)
include quiet

theorem allFit_ruleSetCar (f : CarForm) : AllFit (ruleSetCar f s).st := by
  unfold ruleSetCar
  split
  · refine kept_inHalted (fun halted => ?_) fit
    split
    · exact allFit_storeCar fit (quiet (.inl halted)) _ _
    · exact fit
  · exact fit

theorem allFit_ruleDropCar (n : Nat) : AllFit (ruleDropCar n s).st := by
  refine kept_inHalted (fun halted => ?_) fit
  have stored : ∀ c p, AllFit (emptySlot (storeCar s c p) c) := fun c p =>
    (alike_emptySlot _ c).allFit (allFit_storeCar fit (quiet (.inl halted)) c p)
  repeat' split
  · exact fit
  · exact stored _ _
  · exact fit

end

end Sys2Proof.Proofs.Holdings
end
section
/-! PROOFS. The cars' shapes through every command, and what O59 asks of a step. -/

namespace Sys2Proof.Proofs.Holdings

open Sys2Proof.Machine Sys2Proof.Safety Sys2Proof.Proofs.Upkeep Sys2Proof.Proofs.Account Sys2Proof.Proofs.Cars

/-! ## Resets and restarts -/

theorem bare_freshCars {s : State} {su : Setup} (cars : s.cars = freshCars su) {c : CarId} {st : CarState} (state : stateOf s c = some st) :
    bareState st = true := by
  unfold stateOf record at state
  rw [cars, freshCars, Table.mapAll_at] at state
  split at state
  · cases state
    rfl
  · cases state

theorem allFit_afterReset (s : State) (kind : ResetKind) (image : StoredImage) (hist : History) (dip : Bool) :
    AllFit (afterReset s kind image hist dip) :=
  allFit_of_empty ⟨rfl, rfl, rfl⟩ fun _ _ => bare_freshCars rfl

theorem allFit_afterRestart (s : State) : AllFit (afterRestart s) := allFit_of_empty ⟨rfl, rfl, rfl⟩ fun _ _ => bare_freshCars rfl

theorem allFit_endReset {s : State} (fit : AllFit s) : AllFit (endReset s) := by
  refine allFit_complete ?_
  split
  · exact allFit_autoArm fit
  · exact fit

theorem allFit_takeRestart (s : State) : AllFit (takeRestart s) := by
  have fresh : AllFit (begin (afterRestart s)).st := allFit_afterRestart s
  refine allFit_complete ?_
  split
  · exact allFit_autoArm fresh
  · exact fresh

/-! ## The car links (4) -/

section
variable {s : State} (fit : AllFit s) (quiet : QuietStage s)
include fit quiet

omit fit quiet in
theorem bare_of_isFirstContact {c : CarId} {r : CarRecord} (first : isFirstContact s c r = true) : bareState r.state = true := by
  simp only [isFirstContact, Bool.or_eq_true, Bool.and_eq_true, beq_iff_eq] at first
  rcases first with absent | ⟨⟨⟨_, idle⟩, _⟩, _⟩
  · rw [absent]; rfl
  · rw [idle]; rfl

theorem allFit_receiveReply (k : Link) (r : CarReply) : AllFit (receiveReply s k r) := by
  unfold receiveReply
  split
  case h_2 => exact fit
  rename_i x _
  split
  case isFalse => exact fit
  unfold takeReply
  split
  case h_2 => exact fit
  rename_i old status was _
  have ended := alike_endExchange s k x.car
  have state : stateOf (endExchange s k x.car) x.car = some old.state := by
    have stands : stateOf (endExchange s k x.car) x.car = stateOf s x.car := congrArg Shape.state (ended x.car)
    rw [stands, stateOf, was]
    rfl
  exact allFit_completeWith (allFit_handReply (w := begin (endExchange s k x.car)) (ended.allFit fit)
    (kept_endExchange kept_quietStage quiet) state bare_of_isFirstContact x.request r.verdict status) _

theorem allFit_missExchange (k : Link) (order : DropOrder) : AllFit (missExchange s k order) := by
  unfold missExchange
  split
  · rename_i x _
    exact allFit_completeWith (allFit_handMiss (w := begin (endMissed s k x.car)) ((alike_endMissed s k x.car).allFit fit)
      (kept_endMissed kept_quietStage quiet) x order) _
  · exact fit

/-! ## The expiries of a car's timers (R70, R96, R147) -/

theorem steady_of_holdDue {c : CarId} (due : holdDue s c = true) : Steady (begin s) c :=
  steady_of_state (w := begin s) fit quiet (st := .silent) (by simpa using (Bool.and_eq_true_iff.mp due).1) rfl

theorem steady_of_windowDue {c : CarId} (due : windowDue s c = true) : Steady (begin s) c := ⟨fit, quiet, by
  show (entryOf s c).isSome = true
  unfold windowDue at due
  cases has : entryOf s c with
  | none => simp [has] at due
  | some => rfl⟩

theorem steady_of_deadlineDue {c : CarId} (due : deadlineDue s c = true) : Steady (begin s) c := ⟨fit, quiet, by
  show (entryOf s c).isSome = true
  unfold deadlineDue at due
  cases has : entryOf s c with
  | none => simp [has] at due
  | some => rfl⟩

end

/-! ## The rules of the runtime requests -/

section
variable {s : State} (fit : AllFit s)
include fit

theorem allFit_ruleArm : AllFit (ruleArm s).st := by
  refine kept_inHalted (fun _ => ?_) fit
  split
  · exact fit
  · exact allFit_complete (moves_armPlan moves_allFit (w := begin s) fit)

theorem allFit_ruleHalt (quiet : QuietStage s) : AllFit (ruleHalt s).st := by
  unfold ruleHalt
  split
  · rename_i may
    exact allFit_complete (allFit_halt (w := begin s) (quiet (quiet_of_mayHalt may)))
  · exact fit

theorem allFit_ruleRestart : AllFit (ruleRestart s).st := by
  unfold ruleRestart
  split
  · exact fit
  · exact fit

theorem allFit_ruleServiceCount (f : CountForm) : AllFit (ruleServiceCount f s).st := by
  unfold ruleServiceCount
  split
  case h_2 => exact fit
  rename_i b _
  split
  case isFalse => exact fit
  refine allFit_complete (allFit_trimDesignations ?_ b)
  split
  · exact fit
  · exact fit

theorem allFit_ruleHoldOut (quiet : QuietStage s) (n : Nat) : AllFit (ruleHoldOut n s).st :=
  kept_ofCar (fun _ => allFit_complete (allFit_handSheds (allFit_holdOutCar (w := begin s) fit quiet))) fit

theorem allFit_ruleReadmit (n : Nat) : AllFit (ruleReadmit n s).st :=
  kept_ofCar (fun _ => allFit_complete (allFit_handSheds (allFit_readmitCar (w := begin s) fit))) fit

theorem allFit_ruleReleaseGroup : AllFit (ruleReleaseGroup s).st := by
  unfold ruleReleaseGroup
  repeat' split
  · exact fit
  · exact fit
  · exact fit
  · exact allFit_complete (allFit_releaseStaged (w := begin s) fit)

theorem allFit_ruleCapture : AllFit (ruleCapture s).st := by
  unfold ruleCapture
  split
  · exact fit
  · exact (alike_offerTrigger s .host).allFit fit

theorem allFit_releaseCapture : AllFit (releaseCapture s) := by
  unfold releaseCapture
  dsimp only
  split
  · exact (alike_startSampling _).allFit (s := s.setHist _) fit
  · exact fit

end

/-! ## The rules of the requests that read -/

section
variable {P : State → Prop} {s : State}

theorem kept_ruleQueryCar (n : Nat) (h : P s) : P (ruleQueryCar n s).st := by
  unfold ruleQueryCar
  split <;> exact h

theorem kept_ruleSummary (p : AccountPart) (h : P s) : P (ruleSummary p s).st := by cases p <;> exact h

theorem kept_ruleEntries (n : Nat) (h : P s) : P (ruleEntries n s).st := by
  unfold ruleEntries
  split <;> exact h

theorem kept_ruleQueryQueue (p : Nat) (h : P s) : P (ruleQueryQueue p s).st := by
  unfold ruleQueryQueue
  split <;> exact h

end

/-! ## Requests (R168) -/

/-- The cars' shapes with what the empty stage adds, as the framing of a request keeps them. -/
theorem framed_allFit : Framed fun s => AllFit s ∧ QuietStage s :=
  framed_of_any (fun h => h) fun _ => ⟨allFit_afterRestart _, fun _ => ⟨rfl, rfl, rfl⟩⟩

section
variable {s : State} (fit : AllFit s) (quiet : QuietStage s)
include fit quiet

theorem allFit_takeFrame {kind tag : Byte} {rule : State → Taken}
    (keeps : ∀ {Q : State → Prop}, Tuned Q → ∀ {x : State}, Q x → Q (rule x).st)
    (fits : ∀ {x : State}, AllFit x → QuietStage x → AllFit (rule x).st) : AllFit (takeFrame s kind tag rule) :=
  (framed_takeFrame framed_allFit (fun ⟨fit, quiet⟩ => ⟨fits fit quiet, keeps tuned_quietStage quiet⟩)
    (fun _ => keeps (tuned_replies _) rfl) ⟨fit, quiet⟩).1

theorem allFit_bare {kind : ReqKind} {tag : Byte} {body : List Byte} {rule : State → Taken}
    (keeps : ∀ {Q : State → Prop}, Tuned Q → ∀ {x : State}, Q x → Q (rule x).st)
    (fits : ∀ {x : State}, AllFit x → QuietStage x → AllFit (rule x).st) : AllFit (takeRequest s kind tag (bare body rule)) := by
  refine allFit_takeFrame fit quiet (fun {Q} T {x} h => ?_) fun {x} fit quiet => ?_
  · unfold bare
    split
    · exact keeps T h
    · exact h
  · unfold bare
    split
    · exact fits fit quiet
    · exact fit

theorem allFit_withBody {α : Type} {kind : ReqKind} {tag : Byte} {body : Body α} {rule : α → State → Taken}
    (keeps : ∀ {Q : State → Prop}, Tuned Q → ∀ (a : α) {x : State}, Q x → Q (rule a x).st)
    (fits : ∀ (a : α) {x : State}, AllFit x → QuietStage x → AllFit (rule a x).st) :
    AllFit (takeRequest s kind tag (withBody body rule)) := by
  cases body with
  | fields a => exact allFit_takeFrame fit quiet (fun {_} T {_} h => keeps T a h) (fits a)
  | badLength => exact allFit_takeFrame fit quiet (fun {_} _ {_} h => h) fun fit _ => fit

/-! ## Every command -/

omit fit quiet in
theorem allFit_reset {c : Instr} {t : State} (runs : exec c s = .next t) (reset : IsReset c) : AllFit t := by
  cases c with
  | powerOnReset => cases runs; exact allFit_endReset (allFit_afterReset _ _ _ _ _)
  | externalReset => cases runs; exact allFit_endReset (allFit_afterReset _ _ _ _ _)
  | _ => exact reset.elim

theorem allFit_movesPlant {c : Instr} {t : State} (runs : exec c s = .next t) (plant : MovesPlant c) : AllFit t := by
  cases c with
  | lineSample =>
    simp only [exec, execLineSample] at runs
    split at runs
    · cases runs; exact allFit_complete (allFit_samplePin (w := begin s) fit _ _)
    · cases runs; exact fit
  | settleExpiry =>
    simp only [exec, execSettleExpiry] at runs
    split at runs
    · cases runs
      exact allFit_complete (w := (capacityEvent (begin s) settleNow).noteBoth)
        (allFit_capacityEvent (w := begin s) (f := settleNow) fit)
    · cases runs; exact fit
  | trimSet =>
    cases runs
    exact allFit_withBody fit quiet (fun T _ => plant_ruleTrimSet T.toPlant) fun f _ fit _ => allFit_ruleTrimSet fit f
  | lineReport =>
    cases runs
    exact allFit_withBody fit quiet (fun T _ => plant_ruleLineReport T.toPlant) fun f _ fit _ => allFit_ruleLineReport fit f
  | _ => exact plant.elim

theorem allFit_writesSetup {c : Instr} {t : State} (runs : exec c s = .next t) (writes : WritesSetup c) : AllFit t := by
  cases c with
  | setLimits =>
    cases runs; exact allFit_withBody fit quiet (fun T _ => tuned_ruleSetLimits T) fun f _ fit _ => allFit_ruleSetLimits fit f
  | setCar => cases runs; exact allFit_withBody fit quiet (fun T _ => tuned_ruleSetCar T) fun f _ fit quiet => allFit_ruleSetCar fit quiet f
  | dropCar => cases runs; exact allFit_withBody fit quiet (fun T _ => tuned_ruleDropCar T) fun n _ fit quiet => allFit_ruleDropCar fit quiet n
  | setGenset =>
    cases runs; exact allFit_withBody fit quiet (fun T _ => tuned_ruleSetGenset T) fun f _ fit _ => allFit_ruleSetGenset fit f
  | setLine => cases runs; exact allFit_withBody fit quiet (fun T _ => tuned_ruleSetLine T) fun f _ fit _ => allFit_ruleSetLine fit f
  | setIndicatorFull =>
    cases runs; exact allFit_withBody fit quiet (fun T _ => tuned_ruleIndicatorPart T) fun p _ fit _ => allFit_ruleIndicatorPart fit p
  | setIndicatorValue =>
    cases runs; exact allFit_withBody fit quiet (fun T _ => tuned_ruleIndicatorValue T) fun f _ fit _ => allFit_ruleIndicatorValue fit f
  | savePlan => cases runs; exact allFit_takeFrame fit quiet (fun T => tuned_ruleSavePlan T) fun fit _ => allFit_ruleSavePlan fit _
  | _ => exact writes.elim

/-- A reset, a change of the plant and a write of the configuration have their own lemmas above. -/
theorem allFit_exec {c : Instr} {t : State} (runs : exec c s = .next t) : AllFit t := by
  cases c with
  | powerOnReset | externalReset => exact allFit_reset runs trivial
  | lineSample | settleExpiry | trimSet | lineReport => exact allFit_movesPlant fit quiet runs trivial
  | setLimits | setCar | dropCar | setGenset | setLine | setIndicatorFull | setIndicatorValue | savePlan =>
    exact allFit_writesSetup fit quiet runs trivial
  | supplyDip =>
    simp only [exec, execSupplyDip] at runs
    split at runs
    · cases runs; exact fit
    · cases runs; exact fit
  | saveEnd =>
    simp only [exec, execSaveEnd] at runs
    repeat' split at runs
    · cases runs; exact fit
    · cases runs; exact fit
    · cases runs; exact fit
  | carReply => cases runs; exact allFit_receiveReply fit quiet _ _
  | carReplyInvalid => cases runs; exact allFit_receiveReply fit quiet _ _
  | missedExchange => cases runs; exact allFit_missExchange fit quiet _ _
  | silentHoldExpiry =>
    simp only [exec, execSilentHoldExpiry] at runs
    split at runs
    case isTrue due => cases runs; exact allFit_complete (allFit_handSheds (allFit_expireHold (steady_of_holdDue fit quiet due)))
    case isFalse => cases runs; exact fit
  | startWindowExpiry =>
    simp only [exec, execStartWindowExpiry] at runs
    split at runs
    case isTrue due => cases runs; exact allFit_complete (allFit_handSheds (allFit_expireWindow (steady_of_windowDue fit quiet due)))
    case isFalse => cases runs; exact fit
  | historySample =>
    simp only [exec, execHistorySample] at runs
    split at runs
    · cases runs
      have sampled : AllFit (takeSample s) := (alike_takeSample s).allFit fit
      exact sampled
    · cases runs; exact fit
  | deadlineExpiry =>
    simp only [exec, execDeadlineExpiry] at runs
    split at runs
    case isTrue due => cases runs; exact allFit_complete (allFit_expireDeadline (steady_of_deadlineDue fit quiet due))
    case isFalse => cases runs; exact fit
  | spacingExpiry =>
    simp only [exec, execSpacingExpiry] at runs
    split at runs
    · cases runs; exact allFit_complete (w := (begin (s.setRet _)).noteBoth) fit
    · cases runs; exact fit
  | restoreTimeout =>
    simp only [exec, execRestoreTimeout] at runs
    split at runs
    · cases runs; exact allFit_complete (w := begin (s.setPlan _)) fit
    · cases runs; exact fit
  | frameGapTimeout =>
    simp only [exec, execFrameGapTimeout] at runs
    split at runs
    · cases runs; exact fit
    · cases runs; exact fit
  | frameDiscarded =>
    simp only [exec, execFrameDiscarded] at runs
    repeat' split at runs
    · cases runs; exact fit
    · cases runs; exact fit
    · cases runs; exact fit
  | unknownKind =>
    simp only [exec, execUnknownKind] at runs
    split at runs
    · cases runs; exact fit
    · cases runs; exact allFit_takeFrame fit quiet (fun _ => id) fun fit _ => fit
  | transmitEnd =>
    simp only [exec, execTransmitEnd] at runs
    repeat' split at runs
    · cases runs; exact allFit_takeRestart s
    · cases runs; exact fit
    · cases runs; exact fit
  | restartTaken =>
    simp only [exec, execRestartTaken] at runs
    split at runs
    · cases runs; exact allFit_takeRestart s
    · cases runs; exact fit
  | transmitStart =>
    simp only [exec, execTransmitStart] at runs
    split at runs
    · cases runs; exact fit
    · cases runs; exact fit
  | identify => cases runs; exact allFit_bare fit quiet (fun _ => id) fun fit _ => fit
  | arm => cases runs; exact allFit_bare fit quiet (fun T => inner_ruleArm T.toInner) fun fit _ => allFit_ruleArm fit
  | halt => cases runs; exact allFit_bare fit quiet (fun T => inner_ruleHalt T.toInner) fun fit quiet => allFit_ruleHalt fit quiet
  | restart => cases runs; exact allFit_bare fit quiet (fun T => inner_ruleRestart T.toInner) fun fit _ => allFit_ruleRestart fit
  | setServiceCount =>
    cases runs
    exact allFit_withBody fit quiet (fun T _ => inner_ruleServiceCount T.toInner) fun f _ fit _ => allFit_ruleServiceCount fit f
  | holdOut =>
    cases runs
    exact allFit_withBody fit quiet (fun T n _ kept => kept_ofCar
      (fun _ => inner_complete T.toInner (kept_handSheds T.toKept (kept_holdOutCar T.toKept kept))) kept)
      fun n _ fit quiet => allFit_ruleHoldOut fit quiet n
  | readmit =>
    cases runs
    exact allFit_withBody fit quiet (fun T n _ kept => kept_ofCar
      (fun _ => inner_complete T.toInner (kept_handSheds T.toKept (kept_readmitCar T.toKept kept))) kept)
      fun n _ fit _ => allFit_ruleReadmit fit n
  | releaseGroup =>
    cases runs
    refine allFit_takeFrame fit quiet (fun {Q} T {x} kept => ?_) fun {x} fit _ => ?_
    · split
      · exact inner_ruleReleaseGroup T.toInner kept
      · exact kept
    · split
      · exact allFit_ruleReleaseGroup fit
      · exact fit
  | capture => cases runs; exact allFit_bare fit quiet (fun T => inner_ruleCapture T.toInner) fun fit _ => allFit_ruleCapture fit
  | captureRelease => cases runs; exact allFit_bare fit quiet (fun T => T.releaseCapture) fun fit _ => allFit_releaseCapture fit
  | queryPlan => cases runs; exact allFit_bare fit quiet (fun _ => id) fun fit _ => fit
  | queryCar => cases runs; exact allFit_withBody fit quiet (fun _ n _ => kept_ruleQueryCar n) fun n _ fit _ => kept_ruleQueryCar n fit
  | queryAccountSummary =>
    cases runs; exact allFit_withBody fit quiet (fun _ p _ => kept_ruleSummary p) fun p _ fit _ => kept_ruleSummary p fit
  | queryAccountEntries =>
    cases runs; exact allFit_withBody fit quiet (fun _ n _ => kept_ruleEntries n) fun n _ fit _ => kept_ruleEntries n fit
  | queryQueue => cases runs; exact allFit_withBody fit quiet (fun _ p _ => kept_ruleQueryQueue p) fun p _ fit _ => kept_ruleQueryQueue p fit
  | queryLines => cases runs; exact allFit_bare fit quiet (fun T => T.counts) fun fit _ => fit
  | readHistory => cases runs; exact allFit_withBody fit quiet (fun _ _ => kept_ruleReadHistory) fun _ _ fit _ => kept_ruleReadHistory fit
  | ackFlags =>
    cases runs
    exact allFit_bare fit quiet (fun T _ kept => inner_driveLines T.toInner (T.port rfl rfl kept)) fun fit _ => fit

theorem allFit_step {t : State} (runs : step s = .next t) : AllFit t := by
  unfold step at runs
  split at runs
  · cases runs; exact fit
  · refine allFit_exec (s := s.setPending _) ?_ ?_ runs
    · exact fit
    · exact quiet

end

/-- Settles O59: the first clause is `recordsMatch_step`; for the others, the matches and the one entry per car say that every car stands
where its state says, which a step keeps because whatever moves a car to another state moves its item, its place in the group or its entry
with it. -/
theorem recordsMatchKept : Obligations.RecordsMatchKept := by
  intro s t runs
  refine ⟨Records.recordsMatch_step runs, fun _ returns entries table quiet => ?_⟩
  have fit : AllFit t := allFit_step (allFit_of_match returns entries table) quiet runs
  exact ⟨returnsMatch_of_allFit fit, entriesMatch_of_allFit fit⟩

end Sys2Proof.Proofs.Holdings
end
